-- ==== Sys2Proof/Word.lean ====
section
/-!
DEFINITION. The word types of the device: every register is a 32-bit word (R14), and memory is held in bytes.
-/

namespace Sys2Proof

/-- R14: a register's value. -/
abbrev Word := BitVec 32

/-- One byte of Granary, DRAM, flash or a message body. -/
abbrev Byte := BitVec 8

/-- R684: the cells of the boundary register, bit k cell k. -/
abbrev BoundaryCells := BitVec 2054

end Sys2Proof
end

