-- ==== Sys2Proof/Syntax.lean ====
section
/-!
DEFINITION. The commands the block takes: one constructor per row of spec/opcode_table.json, with the row's operands,
and the types of those operands.
-/

namespace Sys2Proof

/-- R167: a Slauf port, A = 0 to D = 3. -/
abbrev Port := Fin 4

/-- R68: a time base, TB0 to TB7. -/
abbrev TbIx := Fin 8

/-- R185: a queue index, device index in bits [15:6] and class in bits [5:0]. -/
abbrev QueueIx := BitVec 16

/-- R53: the access path of a register access. The four paths of R53 each have a high-word holding register; `firmware`
is the device's own control cores (R38), which read through none of them. -/
inductive Path where
  | pcie
  | mge
  | reach (src : Nat)
  | monitor
  | firmware
  deriving DecidableEq, Repr

/-- R97: the payload of a SYNC timing block, field by field. `tb0` and `tb1` are the 48 bits of nanoseconds and fraction. -/
structure SyncBlock where
  seq : Nat
  tb0 : Nat
  tb1 : Nat
  nextFrame : Nat
  nextTickNs : Nat
  nextTickRem : Nat
  rate : Nat
  hops : Nat
  leaderState : Nat
  frameValid : Bool
  deriving DecidableEq, Repr

/-- R91 to R93, R111: a PTP Sync as its port received it: the port, the domain, the identity of its master, the origin as seconds,
nanoseconds and units of 2^-16 ns, the TB0 stamp `t2` of its arrival and the TCLK cycle `taken` of that stamp, and the ST 2059-2
synchronisation metadata TLV that came with it (empty: none). -/
structure PtpSync where
  port : Fin 2
  domain : Nat
  master : Nat
  sec : Nat
  ns : Nat
  frac : Nat
  t2 : Nat
  taken : Nat
  tlv : List Byte
  deriving DecidableEq, Repr

/-- R124, R130: how a timing set arrives: whether its CRC is correct, and how many of the six filler sets beside it fail theirs. -/
structure SetRx where
  ok : Bool
  fillers : Fin 7
  deriving DecidableEq, Repr

/-- R127: what the elastic buffer does with a skip or marker lane group. The REFCLK difference that decides is outside
the device. -/
inductive Elastic where
  | keep
  | delete
  | duplicate
  deriving DecidableEq, Repr

/-- R159, R160, R167, R169: what a training port has measured on its lanes and heard from its peer when the leaving
condition of its state is met; `sets` are the last training sets of the four receive lanes. -/
structure TrainInfo where
  polarity : BitVec 4
  skewNs : Nat
  rxEq : Vector Word 4
  sets : Vector (List Byte) 4
  deriving DecidableEq, Repr

/-- R189, R193: a message that the exchange has put together from its sheaves. `port` is the port it arrived on, `src`
and `dst` the device indexes and `cls`/`srcCls` the classes of the destination and source queues, `epoch` the header's
epoch, `code` the status code that a response or completion carries and `hop` the header's hop_count. -/
structure Msg where
  port : Port
  src : Nat
  srcCls : Nat
  dst : Nat
  cls : Nat
  cmdId : Nat
  epoch : Nat
  code : Nat
  body : List Byte
  hop : Nat := 0
  deriving DecidableEq, Repr

/-- R265: the samples of three components, line by line at their own depth: Y', Cb, Cr or R', G', B'. -/
structure Samples where
  c0 : List (List Nat)
  c1 : List (List Nat)
  c2 : List (List Nat)
  deriving DecidableEq, Repr

/-- R253 to R256, R269, R274: a source frame as its receiver measured it. `rate` is the rate code of R104 that it matches
within ±200 ppm, `depth` the depth code that the signal states, `crcLines` the lines with CRC errors per receiver, `skew`
the quad-link skew in lines; `links` its samples as they come in: one picture, or for quad-link the four parts by receiver. The lines
of an interlaced or PsF signal come field by field, the first field first. -/
structure SrcFrame where
  width : Nat
  height : Nat
  rate : Option Nat
  scan : Bool
  depth : Option Nat
  crcLines : Vector Nat 4
  skew : Nat
  links : List Samples
  deriving DecidableEq, Repr

/-- R258: one sample row of an ST 2110-20 packet, already parted from its pixel groups into its components: its field and its line
there, its first pixel, and the samples. -/
structure SampleRow where
  second : Bool
  line : Nat
  offset : Nat
  c0 : List Nat
  c1 : List Nat
  c2 : List Nat
  deriving DecidableEq, Repr

/-- R258, R260, R274: an ST 2110-20 packet; `full` says that the wide-receiver buffer of its port was full (R259), `badFcs` that its
frame check sequence is wrong, `fecUncorr` how many uncorrectable RS-FEC code words came before it; `rate` is, at a marker, the rate code
that the frame's period matches within ±200 ppm. -/
structure VideoPacket where
  dst : Nat
  src : Nat
  udp : Nat
  pt : Nat
  seq : Nat
  ts : Nat
  marker : Bool
  full : Bool
  badFcs : Bool
  fecUncorr : Nat
  rate : Option Nat
  rows : List SampleRow
  deriving DecidableEq, Repr

/-- R261, R508: an ST 2110-30 packet: its addresses, RTP timestamp and, for each sample time, one sample word per channel (of L16, in
the low 16 bits); `skipped` is how many packets of the stream the sequence numbers show lost before it. -/
structure AudioPacket where
  dst : Nat
  src : Nat
  udp : Nat
  pt : Nat
  ts : Nat
  skipped : Nat
  samples : List (List (BitVec 24))
  deriving DecidableEq, Repr

/-- R678: a line of the Gelle monitor. In `remote`, `op` 1 is rd of `n` words, 2 is wr of `data`, and 3 is mw of `data`, mask and
value. -/
inductive MonLine where
  | id
  | rd (off n : Nat)
  | wr (off : Nat) (data : List Word)
  | mw (off : Nat) (mask v : Word)
  | mrd (addr n : Nat)
  | mwr (addr : Nat) (data : List Word)
  | remote (idx op off n : Nat) (data : List Word)
  | log (n : Nat)
  | load (chain : Bool) (off len crc : Nat)
  | bootSlot (n : Nat)
  | bootChain
  | baud (code : Nat)
  | help
  | unknown
  deriving DecidableEq, Repr

/-- The commands: one constructor per row of spec/opcode_table.json, those with operands before those without, and each in the
table's order. -/
inductive Instr where
  /-- PORST_N_RELEASE (R627). -/
  | porstNRelease (role bootsrc : BitVec 2)
  /-- PORST_N_ASSERT (R695). -/
  | porstNAssert (lowNs : Nat)
  /-- REGISTER_WRITE (R28). -/
  | registerWrite (path : Path) (off width : Nat) (v : Word)
  /-- RC_READ (R14). -/
  | rcRead (path : Path) (off width : Nat) (coincident : List (Nat × Nat))
  /-- COUNTER_LOW_READ (R52). -/
  | counterLowRead (path : Path) (off width : Nat)
  /-- COMMIT_POST (R32). -/
  | commitPost (path : Path) (v : Word)
  /-- SNAP_START (R54). -/
  | snapStart (v : Word)
  /-- TB_WRAP (R78). -/
  | tbWrap (n : TbIx)
  /-- SERVO_MEASUREMENT (R85). -/
  | servoMeasurement (n : TbIx) (e : Int) (taken : Nat)
  /-- SERVO_HOLDOVER_TIMEOUT (R89). -/
  | servoHoldoverTimeout (n : TbIx) (announce : Bool)
  /-- SERVO_FORCE_HOLDOVER (R89). -/
  | servoForceHoldover (n : TbIx)
  /-- TB_SET (R90). -/
  | tbSet (n : TbIx)
  /-- TB_FREQ_WRITE (R112). -/
  | tbFreqWrite (n : TbIx) (v : Word)
  /-- PTP_SYNC_RX (R92). -/
  | ptpSyncRx (m : PtpSync)
  /-- PTP_DELAY_RESP_RX (R92). -/
  | ptpDelayRespRx (port : Fin 2) (domain t1 t2 t3 t4 : Nat)
  /-- DELAY_REQ_RX (R94). -/
  | delayReqRx (p : Port) (r : SetRx) (seq turn : Nat)
  /-- DELAY_RESP_RX (R95). -/
  | delayRespRx (p : Port) (r : SetRx) (seq t2 t3 : Nat)
  /-- DELAY_RESP_TIMEOUT (R95). -/
  | delayRespTimeout (p : Port)
  /-- SYNC_RX (R98). -/
  | syncRx (p : Port) (r : SetRx) (b : SyncBlock)
  /-- AUDIO_EDGE_FEED (R103). -/
  | audioEdgeFeed (n : TbIx)
  /-- LANE_BLOCK_LOCK (R122). -/
  | laneBlockLock (p : Port) (lane : Fin 4)
  /-- LANE_BLOCK_LOCK_LOSS (R122). -/
  | laneBlockLockLoss (p : Port) (lane : Fin 4) (badHeaders : Nat)
  /-- MARKER_TX (R126). -/
  | markerTx (p : Port) (left idle : Nat)
  /-- SKIP_TX (R126). -/
  | skipTx (p : Port)
  /-- MARKER_RX (R134). -/
  | markerRx (p : Port) (block : List Byte) (skewNs : Nat) (change : Elastic)
  /-- SKIP_RX (R127). -/
  | skipRx (p : Port) (change : Elastic) (crcOk : Bool)
  /-- CODE_WORD_RX (R128). -/
  | codeWordRx (p : Port) (badHeaders errBytes : Nat) (units : List (List Byte))
  /-- SHEAF_RX (R136). -/
  | sheafRx (p : Port) (hdr payload : List Byte)
  /-- SHEAF_START (R138). -/
  | sheafStart (p : Port)
  /-- SHEAF_WITHDRAW (R156). -/
  | sheafWithdraw (p : Port) (headerLeft : Bool)
  /-- LCU_RX (R143). -/
  | lcuRx (p : Port) (unit : List Byte)
  /-- LCU_FLUSH_TIMEOUT (R142). -/
  | lcuFlushTimeout (p : Port)
  /-- CENSUS_RX (R146). -/
  | censusRx (p : Port) (body : List Byte)
  /-- RETX_DEADLINE (R150). -/
  | retxDeadline (p : Port) (bulk : Bool)
  /-- TRAIN_STATE_ADVANCE (R159). -/
  | trainStateAdvance (p : Port) (info : TrainInfo)
  /-- TRAIN_TIMEOUT (R734). -/
  | trainTimeout (p : Port)
  /-- CONFIG_RETRY (R161). -/
  | configRetry (p : Port)
  /-- TS1_RX (R163). -/
  | ts1Rx (p : Port) (block : List Byte)
  /-- SLK_RETRAIN (R168). -/
  | slkRetrain (p : Port)
  /-- SLK_ENABLE_WRITE (R168). -/
  | slkEnableWrite (p : Port) (on : Bool)
  /-- QUEUE_POST (R190). -/
  | queuePost (q : QueueIx) (outTail : BitVec 16)
  /-- QUEUE_SEND (R191). -/
  | queueSend (q : QueueIx)
  /-- IN_HEAD_WRITE (R188). -/
  | inHeadWrite (q : QueueIx) (inHead : BitVec 16)
  /-- REACH_READ (R194). -/
  | reachRead (m : Msg)
  /-- REACH_WRITE (R194). -/
  | reachWrite (m : Msg)
  /-- REACH_MASKED_WRITE (R194). -/
  | reachMaskedWrite (m : Msg)
  /-- REACH_RESPONSE_RX (R193). -/
  | reachResponseRx (m : Msg)
  /-- COMMIT_MSG_RX (R38). -/
  | commitMsgRx (m : Msg)
  /-- COMPLETION_RX (R729). -/
  | completionRx (m : Msg)
  /-- EVENT_RECORD_RX (R618). -/
  | eventRecordRx (m : Msg)
  /-- QUERY_RX (R196). -/
  | queryRx (m : Msg)
  /-- QUERY_ANSWER_RX (R197). -/
  | queryAnswerRx (m : Msg)
  /-- RESPONSE_TIMEOUT (R197). -/
  | responseTimeout (q : QueueIx) (cmdId : Nat)
  /-- ROLL_START (R204). -/
  | rollStart (v : Word)
  /-- ENUM_RX (R200). -/
  | enumRx (m : Msg)
  /-- ENUM_RETURN_RX (R200). -/
  | enumReturnRx (m : Msg)
  /-- ASSIGN_RX (R202). -/
  | assignRx (m : Msg)
  /-- ASSIGN_ACK_RX (R202). -/
  | assignAckRx (m : Msg)
  /-- CHANGE_RX (R204). -/
  | changeRx (m : Msg)
  /-- ROLL_TIMEOUT (R205). -/
  | rollTimeout (p : Port)
  /-- ROLL_LISTEN_RETRY (R203). -/
  | rollListenRetry (p : Port)
  /-- STREAM_SLOT_RELEASE (R221). -/
  | streamSlotRelease (slot : Fin 16)
  /-- DIGEST_RX (R229). -/
  | digestRx (p : Port) (body : List Byte)
  /-- LEASE_RX (R235). -/
  | leaseRx (m : Msg)
  /-- LEASE_EXPIRY (R234). -/
  | leaseExpiry (p : Port)
  /-- LEASE_DEADLINE_MISS (R238). -/
  | leaseDeadlineMiss (p : Port)
  /-- HOLDER_DECIDE_TIMEOUT (R243). -/
  | holderDecideTimeout (p : Port)
  /-- SHUN_RX (R241). -/
  | shunRx (m : Msg)
  /-- UNSHUN_RX (R241). -/
  | unshunRx (m : Msg)
  /-- CLAIM_RAISE (R244). -/
  | claimRaise (p : Port)
  /-- CLAIM_UNMUTE (R244). -/
  | claimUnmute (p : Port)
  /-- CLAIM_UNSHUN (R244). -/
  | claimUnshun (p : Port)
  /-- CLAIM_DROP (R249). -/
  | claimDrop (p : Port)
  /-- SDI_LOCK (R280). -/
  | sdiLock (k : Fin 4) (standard : Nat) (pid : Option Word) (linkNo : Nat)
  /-- SDI_UNLOCK (R274). -/
  | sdiUnlock (k : Fin 4)
  /-- SOURCE_FRAME_COMPLETE (R269). -/
  | sourceFrameComplete (rx : Fin 4) (f : SrcFrame)
  /-- ST2110_PACKET_RX (R260). -/
  | st2110PacketRx (p : Fin 2) (k : VideoPacket)
  /-- ST2110_AUDIO_PACKET_RX (R508). -/
  | st2110AudioPacketRx (p : Fin 2) (k : AudioPacket)
  /-- ETH_LINK_CHANGE (R280). -/
  | ethLinkChange (p : Fin 2) (up pcs fec : Bool)
  /-- HOST_PULL_POST (R263). -/
  | hostPullPost (n : Fin 16) (cmdId : Word)
  /-- HOST_PULL_DONE (R263). -/
  | hostPullDone (n : Fin 16) (ok poisoned : Bool) (data : List Byte)
  /-- SOURCE_LOSS_TIMEOUT (R274). -/
  | sourceLossTimeout (n : Fin 16)
  /-- AUDIO_STREAM_LOSS_TIMEOUT (R280). -/
  | audioStreamLossTimeout (m : Fin 16)
  /-- CANVAS_COMPLETE (R311). -/
  | canvasComplete (lost entries : Nat)
  /-- CMP_FETCH_ERROR (R313). -/
  | cmpFetchError (layer : Fin 64) (addr len : Nat)
  /-- LOAF_ECC_ERROR (R326). -/
  | loafEccError (tile : Nat)
  /-- SCN_SHEAF_START (R344). -/
  | scnSheafStart (p : Port)
  /-- SCN_TRANSPORT_GUARD (R344). -/
  | scnTransportGuard (won : BitVec 4)
  /-- SCN_STARVE (R346). -/
  | scnStarve (p : Port)
  /-- MONITOR_LINE (R352). -/
  | monitorLine (line : Nat) (emptyAt : Option Nat)
  /-- REGION_HEADER_RX (R370). -/
  | regionHeaderRx (stream frame : Nat) (body : List Byte)
  /-- PIXEL_SHEAF_RX (R371). -/
  | pixelSheafRx (stream frame index : Nat) (body : List Byte)
  /-- TRAILER_RX (R357). -/
  | trailerRx (stream frame : Nat) (body : List Byte)
  /-- CORRECTION_DONE (R372). -/
  | correctionDone (faults : List (Nat × Nat))
  /-- COR_TABLE_ERROR (R378). -/
  | corTableError (set : Option (Fin 8)) (addr len : Nat)
  /-- FURROW_ENUM_RETURN (R432). -/
  | furrowEnumReturn (l : Fin 64) (pkt : List Byte)
  /-- FURROW_ENUM_RETRY (R432). -/
  | furrowEnumRetry (l : Fin 64)
  /-- FURROW_SYNC_RETURN (R430). -/
  | furrowSyncReturn (l : Fin 64) (ns : Nat)
  /-- FURROW_LOOP_TIMEOUT (R430). -/
  | furrowLoopTimeout (l : Fin 64)
  /-- FURROW_RX_LOCK_LOSS (R430). -/
  | furrowRxLockLoss (l : Fin 64)
  /-- FURROW_RX_LOCK (R431). -/
  | furrowRxLock (l : Fin 64)
  /-- SUBFRAME_UPLOAD (R420). -/
  | subframeUpload (j : Fin 16)
  /-- SUBFRAME_START (R424). -/
  | subframeStart (j : Fin 16)
  /-- FUR_FETCH_ERROR (R427). -/
  | furFetchError (addr len : Nat)
  /-- FUR_ACCESS_READ (R439). -/
  | furAccessRead (v : Word)
  /-- FUR_ACCESS_WRITE (R439). -/
  | furAccessWrite (v : Word)
  /-- FURROW_PACKET_RETURN (R412). -/
  | furrowPacketReturn (l : Fin 64) (pkt : List Byte)
  /-- COMPANION_SYNC (R409). -/
  | companionSync (l place : Fin 64) (pkt : List Byte)
  /-- COMPANION_TIMED_PACKET (R410). -/
  | companionTimedPacket (l place : Fin 64) (pkt : List Byte)
  /-- COMPANION_LINE (R415). -/
  | companionLine (l place : Fin 64) (openCh shortCh : BitVec 48)
  /-- COMPANION_LINE_OFF (R416). -/
  | companionLineOff (l place : Fin 64)
  /-- COMPANION_DATA (R408). -/
  | companionData (l place : Fin 64) (pkt : List Byte)
  /-- COMPANION_WRITE (R412). -/
  | companionWrite (l place : Fin 64) (pkt : List Byte)
  /-- COMPANION_READ (R412). -/
  | companionRead (l place : Fin 64) (pkt : List Byte)
  /-- COMPANION_ENUM (R411). -/
  | companionEnum (l place : Fin 64) (pkt : List Byte)
  /-- COMPANION_TEST (R418). -/
  | companionTest (l place : Fin 64) (openCh shortCh : BitVec 48)
  /-- ROW_DRIVER_WATCHDOG (R416). -/
  | rowDriverWatchdog (l place : Fin 64)
  /-- COMPANION_LOCK_LOSS (R416). -/
  | companionLockLoss (l place : Fin 64)
  /-- LMP_MAP_CLEAR (R451). -/
  | lmpMapClear (k : Fin 32) (r : Fin 64) (part : Fin 4) (v : Word)
  /-- LMP_TABLE_LOAD (R455). -/
  | lmpTableLoad (err : Bool)
  /-- CAL_SAMPLE (R469). -/
  | calSample (q : Nat) (codes : Vector (BitVec 16) 8)
  /-- CAL_SOLVE_GO (R477). -/
  | calSolveGo (v : Word)
  /-- AUDIO_GROUP_LOST (R500). -/
  | audioGroupLost (g : Fin 4)
  /-- AUDIO_GROUP_BACK (R500). -/
  | audioGroupBack (g : Fin 4)
  /-- AUDIO_GROUP_MEASURED (R505). -/
  | audioGroupMeasured (g : Fin 4)
  /-- AUDIO_SHEAF_TX (R511). -/
  | audioSheafTx (stream : Fin 32)
  /-- AUDIO_SHEAF_RX (R515). -/
  | audioSheafRx (stream : Nat) (body : List Byte)
  /-- AUDIO_SAMPLES_MISSING (R515). -/
  | audioSamplesMissing (samples : Nat)
  /-- DMC_TRAIN (R548). -/
  | dmcTrain (v : Word)
  /-- DMC_TRAIN_DONE (R549). -/
  | dmcTrainDone (point : Option (Fin 4)) (dense : Bool) (fails : List (Fin 20 × Fin 4 × Fin 8))
      (eyes : List (Fin 20 × BitVec 8 × BitVec 8))
  /-- DMC_MAP_WRITE (R530). -/
  | dmcMapWrite (v : Word)
  /-- DRAM_REQUEST (R532). -/
  | dramRequest (r : Fin 16) (urgent write : Bool) (addr len : Nat) (data : List Byte)
  /-- DRAM_ISSUE (R533). -/
  | dramIssue (g : Fin 2)
  /-- DRAM_AGE_RAISE (R534). -/
  | dramAgeRaise (g : Fin 2)
  /-- REFRESH_DUE (R537). -/
  | refreshDue (g : Fin 2)
  /-- REFRESH_PAYBACK (R538). -/
  | refreshPayback (g : Fin 2)
  /-- REFRESH_PULL_IN (R538). -/
  | refreshPullIn (g : Fin 2)
  /-- DERATE_POLL (R541). -/
  | deratePoll (codes : Vector (Fin 3) 20)
  /-- RH_THROTTLE_END (R542). -/
  | rhThrottleEnd (g : Fin 2)
  /-- DMC_FREQ_GO (R545). -/
  | dmcFreqGo (v : Word)
  /-- MEC_READ_DECODE (R557). -/
  | mecReadDecode (g : Fin 2) (errs : List (Fin 16 × Fin 10 × BitVec 16))
  /-- MEC_CH_FORCE (R560). -/
  | mecChForce (v : Word)
  /-- MEC_GRAN_QUERY (R578). -/
  | mecGranQuery (v : Word)
  /-- MEC_TRIM (R567). -/
  | mecTrim (v : Word)
  /-- GLEANER_READ (R570). -/
  | gleanerRead (g : Fin 2)
  /-- GRANARY_READ (R574). -/
  | granaryRead (off : BitVec 26) (flips : Nat)
  /-- GRANARY_SCRUB (R575). -/
  | granaryScrub (off : BitVec 26) (flips : Nat)
  /-- HKP_SLOT_END (R581). -/
  | hkpSlotEnd (codes : Vector (BitVec 14) 8) (osc : BitVec 20)
  /-- SHUTDOWN_DEFER_END (R597). -/
  | shutdownDeferEnd (us : Fin 4001)
  /-- EVT_DRAM_RD_WRITE (R613). -/
  | evtDramRdWrite (v : Word)
  /-- EVT_DRAM_RING_SET (R612). -/
  | evtDramRingSet (which : Fin 3) (v : Word)
  /-- EVT_DRAM_ENABLE (R622). -/
  | evtDramEnable (v : Word)
  /-- MSIX_HOLDOFF_END (R616). -/
  | msixHoldoffEnd (v : Fin 512)
  /-- BOOT_ROM_START (R628). -/
  | bootRomStart (mib : Nat)
  /-- BOOT_IMAGE_LOADED (R639). -/
  | bootImageLoaded (bad : List Nat)
  /-- CONFIG_LOAD (R643). -/
  | configLoad (bad : List Nat)
  /-- CONFIG_WAIT_DONE (R644). -/
  | configWaitDone (timedOut : Bool)
  /-- FW_ERASE (R646). -/
  | fwErase (region : Fin 16) (offset length id : Word)
  /-- FW_WRITE (R646). -/
  | fwWrite (region : Fin 16) (offset length id : Word)
  /-- FW_READ (R646). -/
  | fwRead (region : Fin 16) (offset length id : Word)
  /-- FW_VERIFY (R647). -/
  | fwVerify (region : Fin 16) (id : Word)
  /-- FW_ACTIVATE (R648). -/
  | fwActivate (slot : Fin 16) (id : Word)
  /-- FW_ROLLBACK (R651). -/
  | fwRollback (id : Word)
  /-- FW_SELECT (R646). -/
  | fwSelect (set : Fin 16) (id : Word)
  /-- FW_REVOKE (R637). -/
  | fwRevoke (key : Fin 16) (id : Word)
  /-- FW_CHAIN_START (R652). -/
  | fwChainStart (id : Word)
  /-- FLASH_OPERATION_DONE (R646). -/
  | flashOperationDone (ok : Bool) (at' : Word)
  /-- PCIE_LINK_UP (R662). -/
  | pcieLinkUp (speed width : BitVec 3)
  /-- PCIE_RESET (R663). -/
  | pcieReset (kind : Fin 4)
  /-- PCIE_GRANARY_WRITE (R667). -/
  | pcieGranaryWrite (off : Nat) (data : List Byte)
  /-- PCIE_BAR2_ACCESS (R668). -/
  | pcieBar2Access (off n : Nat) (write : Bool) (data : List Byte)
  /-- MSIX_UNMASK (R669). -/
  | msixUnmask (v : Fin 512)
  /-- MGE_REQUEST (R673). -/
  | mgeRequest (ip port dport : Nat) (b : List Byte)
  /-- MGE_MEMORY_READ (R672). -/
  | mgeMemoryRead (ip port dport : Nat) (b : List Byte)
  /-- MGE_MEMORY_WRITE (R672). -/
  | mgeMemoryWrite (ip port dport : Nat) (b : List Byte)
  /-- MGE_LINK_CHANGE (R687). -/
  | mgeLinkChange (up : Bool) (speed : BitVec 2)
  /-- MON_RD (R678). -/
  | monRd (off n : Nat)
  /-- MON_WR (R678). -/
  | monWr (off : Nat) (data : List Word)
  /-- MON_MW (R678). -/
  | monMw (off : Nat) (mask v : Word)
  /-- MON_MRD (R678). -/
  | monMrd (addr n : Nat)
  /-- MON_MWR (R678). -/
  | monMwr (addr : Nat) (data : List Word)
  /-- MON_REMOTE (R678). -/
  | monRemote (idx op off n : Nat) (data : List Word)
  /-- MON_LOG (R678). -/
  | monLog (n : Nat)
  /-- MON_LOAD (R679). -/
  | monLoad (chain : Bool) (off len crc : Nat)
  /-- MON_LOAD_DONE (R679). -/
  | monLoadDone (data : List Byte)
  /-- MON_BOOT_SLOT (R678). -/
  | monBootSlot (n : Nat)
  /-- MON_BAUD (R678). -/
  | monBaud (code : Nat)
  /-- TAP_BYPASS (R682). -/
  | tapBypass (code : BitVec 8)
  /-- COMPANION_SYMBOL_LOCK (R403). -/
  | companionSymbolLock (l place : Fin 64) (id : Word)
  /-- AUDIO_PORT_FRAME_EDGE (R499). -/
  | audioPortFrameEdge (p : Fin 16) (periods : Int) (words : List (BitVec 24))
  /-- PCIE_CONFIG_REQUEST (R662). -/
  | pcieConfigRequest (bme mse msixEn mask d3hot : Bool)
  /-- MGE_ARP_OR_ECHO_REQUEST (R671). -/
  | mgeArpOrEchoRequest (echo : Bool) (src target : Nat) (b : List Byte)
  /-- SUPPLY_MONITOR_RESET (R697). -/
  | supplyMonitorReset
  /-- VBAT_LOST (R82). -/
  | vbatLost
  /-- TICK (R104). -/
  | tick
  /-- SUBTREE_COMMIT_DEADLINE (R41). -/
  | subtreeCommitDeadline
  /-- PREFRAME_PUBLICATION_POINT (R48). -/
  | preframePublicationPoint
  /-- SNAP_CAPTURE (R55). -/
  | snapCapture
  /-- AON_SEC_LOAD_REQUEST (R81). -/
  | aonSecLoadRequest
  /-- AON_SECOND_ROLLOVER (R80). -/
  | aonSecondRollover
  /-- HOP_DELAY_INTERVAL (R94). -/
  | hopDelayInterval
  /-- SYNC_INTERVAL (R97). -/
  | syncInterval
  /-- SYNC_IN_EDGE (R100). -/
  | syncInEdge
  /-- SYNC_IN_LOST (R101). -/
  | syncInLost
  /-- TB1_OFFSET_FEED (R102). -/
  | tb1OffsetFeed
  /-- FRAME_ALIGN_GO (R105). -/
  | frameAlignGo
  /-- CENSUS_PREFRAME_TIMER (R145). -/
  | censusPreframeTimer
  /-- LEASE_PREFRAME_TIMER (R233). -/
  | leasePreframeTimer
  /-- INP_RESET (R279). -/
  | inpReset
  /-- CMP_RESET (R327). -/
  | cmpReset
  /-- MONITOR_FRAME_START (R351). -/
  | monitorFrameStart
  /-- COR_RESET (R395). -/
  | corReset
  /-- FUR_RESET (R434). -/
  | furReset
  /-- LMP_RESET (R463). -/
  | lmpReset
  /-- CAL_SOLVE_ABORT (R482). -/
  | calSolveAbort
  /-- CAL_SOLVE_STEP_DONE (R480). -/
  | calSolveStepDone
  /-- CAL_ADC_SYNC (R472). -/
  | calAdcSync
  /-- CAL_RESET (R487). -/
  | calReset
  /-- AUD_ANCHOR_LOAD (R493). -/
  | audAnchorLoad
  /-- AUD_RESET (R518). -/
  | audReset
  /-- DMC_FREQ_CHANGE (R546). -/
  | dmcFreqChange
  /-- DMC_FREQ_TIMEOUT (R547). -/
  | dmcFreqTimeout
  /-- DMC_WCK_TRACKING (R549). -/
  | dmcWckTracking
  /-- DMC_RESET (R550). -/
  | dmcReset
  /-- MEC_FILL_DONE (R566). -/
  | mecFillDone
  /-- MEC_TRIM_DONE (R567). -/
  | mecTrimDone
  /-- GLEANER_WRITEBACK (R571). -/
  | gleanerWriteback
  /-- GLEANER_LAP_SLOW (R572). -/
  | gleanerLapSlow
  /-- MEC_RESET (R569). -/
  | mecReset
  /-- ANALOG_TRIP (R599). -/
  | analogTrip
  /-- LEDGER_WRITE (R608). -/
  | ledgerWrite
  /-- LEDGER_DRAIN (R612). -/
  | ledgerDrain
  /-- LEDGER_FLUSH_TIMEOUT (R612). -/
  | ledgerFlushTimeout
  /-- MSIX_SEND (R616). -/
  | msixSend
  /-- EVENT_FORWARD (R618). -/
  | eventForward
  /-- EVT_RESET (R622). -/
  | evtReset
  /-- BOOT_CONFIRM (R650). -/
  | bootConfirm
  /-- TRIAL_DEADLINE (R651). -/
  | trialDeadline
  /-- FIRMWARE_RESTART (R651). -/
  | firmwareRestart
  /-- MON_ID (R678). -/
  | monId
  /-- MON_LOAD_TIMEOUT (R679). -/
  | monLoadTimeout
  /-- MON_BOOT_CHAIN (R678). -/
  | monBootChain
  /-- MON_HELP (R678). -/
  | monHelp
  /-- TAP_RESET (R681). -/
  | tapReset
  /-- TAP_IDCODE (R683). -/
  | tapIdcode
  /-- TAP_SAMPLE_PRELOAD (R682): what the boundary cells capture, and what TDI shifts in. -/
  | tapSamplePreload (captured tdi : BoundaryCells)
  /-- TAP_EXTEST (R686): what the boundary cells capture, and what TDI shifts in. -/
  | tapExtest (captured tdi : BoundaryCells)
  /-- TAP_CLAMP (R686). -/
  | tapClamp
  /-- TAP_HIGHZ (R686). -/
  | tapHighz
  /-- TAP_EXTEST_PULSE (R685). -/
  | tapExtestPulse (captured tdi : BoundaryCells)
  /-- TAP_EXTEST_TRAIN (R685). -/
  | tapExtestTrain (captured tdi : BoundaryCells)
  /-- SYSTEM_SAMPLE_INSTANT (R492). -/
  | systemSampleInstant
  /-- EVENT_FORWARD_TIMEOUT (R618). -/
  | eventForwardTimeout
  /-- MON_SESSION_TIMEOUT (R690). -/
  | monSessionTimeout
  /-- MON_UNKNOWN_COMMAND (R677). -/
  | monUnknownCommand
  deriving DecidableEq, Repr

end Sys2Proof
end

