-- ==== Sys2Proof/Decode.lean ====
section
/-!
DEFINITION. The decoder of the rows of spec/opcode_table.json that give bits. The device takes commands from outside and the table
gives no row any bits, so no word spells a command.
-/

namespace Sys2Proof

/-- The command that a word of `nbits` bits spells by the table: none, for the table gives no row bits. -/
def decodeTableWord (_nbits _w : Nat) : Option Instr := none

end Sys2Proof
end

