-- ==== Sys2Proof/Machine/Flags.lean ====
section
/-!
DEFINITION. Bit fields, saturation, signed narrowing and check words: the small computations that the rules of every
block share (R14, R43, R47, R124, R731).
-/

namespace Sys2Proof.Machine

/-- Bits [hi:lo] of a number. -/
def bits (x hi lo : Nat) : Nat := x / 2 ^ lo % 2 ^ (hi + 1 - lo)

/-- A number with bits [hi:lo] replaced by the low bits of `v`. -/
def putBits (x hi lo v : Nat) : Nat :=
  x - bits x hi lo * 2 ^ lo + (v % 2 ^ (hi + 1 - lo)) * 2 ^ lo

/-- The signed number that the low `w` bits of `x` spell. -/
def sx (w x : Nat) : Int :=
  let y := x % 2 ^ w
  if y < 2 ^ (w - 1) then (y : Int) else (y : Int) - 2 ^ w

/-- The low `w` bits of a signed number. -/
def tc (w : Nat) (i : Int) : Nat := (i % (2 ^ w : Int)).toNat

/-- An arithmetic shift right, which rounds toward minus infinity (R85). -/
def asr (i : Int) (n : Nat) : Int := i.fdiv (2 ^ n)

/-- A signed number limited to a range. -/
def clampI (lo hi i : Int) : Int := if i < lo then lo else if hi < i then hi else i

/-- A number limited to a range. -/
def clampN (lo hi n : Nat) : Nat := if n < lo then lo else if hi < n then hi else n

/-- R43, R184: `a` is newer than `b` among numbers of `w` bits. -/
def newer (w a b : Nat) : Bool :=
  let d := (a + 2 ^ w - b % 2 ^ w) % 2 ^ w
  decide (1 ≤ d) && decide (d < 2 ^ (w - 1))

/-- The difference a − b modulo 2^w. -/
def subMod (w a b : Nat) : Nat := (a + 2 ^ w - b % 2 ^ w) % 2 ^ w

/-- 1 for true, 0 for false. -/
def b2n (b : Bool) : Nat := if b then 1 else 0

/-- A quotient rounded up. -/
def ceilDiv (a b : Nat) : Nat := (a + b - 1) / b

/-- One step of a CRC register that shifts left. -/
def crcBitL (w poly crc : Nat) : Nat :=
  if crc.testBit (w - 1) then (crc * 2 % 2 ^ w) ^^^ poly else crc * 2 % 2 ^ w

/-- One step of a CRC register that shifts right. -/
def crcBitR (poly crc : Nat) : Nat :=
  if crc % 2 = 1 then (crc / 2) ^^^ poly else crc / 2

/-- A function applied `n` times. -/
def iter {α : Type} (f : α → α) : Nat → α → α
  | 0, x => x
  | n + 1, x => iter f n (f x)

/-- R731: CRC-16, polynomial 0x1021, initial value 0xFFFF, each byte most significant bit first. -/
def crc16 (b : List Byte) : Nat :=
  b.foldl (fun c x => iter (crcBitL 16 0x1021) 8 (c ^^^ (x.toNat * 256))) 0xFFFF

/-- R124, R354: CRC-32C in its reflected form 0x82F6_3B78, initial value 0xFFFF_FFFF and final inversion. -/
def crc32c (b : List Byte) : Nat :=
  (b.foldl (fun c x => iter (crcBitR 0x82F63B78) 8 (c ^^^ x.toNat)) 0xFFFFFFFF) ^^^ 0xFFFFFFFF

/-- R44: the status codes. -/
abbrev Code.OK : Nat := 0
abbrev Code.BUSY : Nat := 1
abbrev Code.PARTIAL : Nat := 2
abbrev Code.DISCARDED : Nat := 3
abbrev Code.REFUSED : Nat := 4
abbrev Code.LATE : Nat := 5
abbrev Code.FAULT : Nat := 6

/-- R47: the phases of a status word. -/
abbrev Phase.idle : Nat := 0
abbrev Phase.queued : Nat := 1
abbrev Phase.running : Nat := 2
abbrev Phase.done : Nat := 3
abbrev Phase.discarded : Nat := 4

end Sys2Proof.Machine
end

