-- ==== Sys2Proof/Config.lean ====
section
/-!
DEFINITION. What the spec leaves open, as constants without a body: no proof can see a value of one, so a statement
holds whatever they are (log entry 2).
-/

namespace Sys2Proof

/-- The n-th free value that the machine takes: a value that the spec says results but does not state. -/
opaque Config.freeNat : Nat → Nat

/-- R80: whether a cycle of the 32.768 kHz crystal ends in a TCLK cycle, counted from the release of PORST_N: the spec does not relate
the phase and the exact rate of the crystal to REFCLK. -/
opaque Config.crystalEdge : Nat → Bool

/-- R587: the reading in mV that a rail's trimmed divider makes of a slot value: the spec does not state the dividers. -/
opaque Config.railMv : Nat → Nat → Nat

end Sys2Proof
end

