-- ==== Sys2Proof/Machine/RegTable.lean ====
section
/-!
DEFINITION. The register maps of the spec as data (chapters 01 to 19, the rules named at each block): the device
offset of every register under the spec's own name, and one row per register for what a bus access may do to it and
what it reads after reset. An index in a name (TMB_TBn_FREQ) is an argument of the Lean name (Reg.TMB_TB_FREQ n).
-/

namespace Sys2Proof.Machine

/-- One row of a register map. The registers of the row are at `base + s1 * i + s2 * j` for `i < n1` and `j < n2`;
`rw` are the bits a write replaces, `w1c` the bits a written 1 clears, `w1s` the bits whose written 1 is a command;
`rc` says that a read clears, `sh` that the register is shadowed (R27), `rst` is the value after reset. -/
structure RegRow where
  base : Nat
  s1 : Nat
  n1 : Nat
  s2 : Nat
  n2 : Nat
  rw : Nat
  w1c : Nat
  w1s : Nat
  rc : Bool
  sh : Bool
  rst : Nat
  deriving DecidableEq, Repr

/-- Whether the register at device offset `o` belongs to the row. -/
def RegRow.has (r : RegRow) (o : Nat) : Bool :=
  if o < r.base then false
  else
    let k := o - r.base
    decide (k / r.s1 < r.n1) && decide (k % r.s1 % r.s2 = 0) && decide (k % r.s1 / r.s2 < r.n2)

/-! ### Offsets by name -/

/-- R58. -/ abbrev Reg.GLB_IDENT : Nat := 0x0
/-- R58. -/ abbrev Reg.GLB_STATE : Nat := 0x4
/-- R58. -/ abbrev Reg.GLB_FRAME : Nat := 0x8
/-- R58. -/ abbrev Reg.GLB_DEVIDX : Nat := 0xC
/-- R58. -/ abbrev Reg.GLB_UID (i : Nat) : Nat := 0x10 + 0x4 * i
/-- R58. -/ abbrev Reg.GLB_CANVAS_SIZE : Nat := 0x20
/-- R58. -/ abbrev Reg.GLB_COMMIT_CTL : Nat := 0x30
/-- R58. -/ abbrev Reg.GLB_COMMIT_TARGET : Nat := 0x34
/-- R58. -/ abbrev Reg.GLB_COMMIT_GUARD : Nat := 0x38
/-- R58. -/ abbrev Reg.GLB_COMMIT_STATUS : Nat := 0x3C
/-- R58. -/ abbrev Reg.GLB_COMMIT_APPLIED : Nat := 0x40
/-- R58. -/ abbrev Reg.GLB_COMMIT_COUNTS : Nat := 0x44
/-- R58. -/ abbrev Reg.GLB_CMD_POSTED : Nat := 0x50
/-- R58. -/ abbrev Reg.GLB_CMD_COMPLETED : Nat := 0x54
/-- R58. -/ abbrev Reg.GLB_CMD_DISCARDED : Nat := 0x58
/-- R58. -/ abbrev Reg.GLB_CMD_PENDING : Nat := 0x5C
/-- R58. -/ abbrev Reg.GLB_OVERRUN : Nat := 0x60
/-- R58. -/ abbrev Reg.GLB_SNAP_CTL : Nat := 0x80
/-- R58. -/ abbrev Reg.GLB_SNAP_STAMP_LO : Nat := 0x88
/-- R58. -/ abbrev Reg.GLB_SNAP_STAMP_HI : Nat := 0x8C
/-- R58. -/ abbrev Reg.GLB_SNAP_LIST (i : Nat) : Nat := 0x100 + 0x4 * i
/-- R58. -/ abbrev Reg.GLB_SNAP_DATA (i : Nat) : Nat := 0x200 + 0x4 * i
/-- R112. -/ abbrev Reg.TMB_TB_NOW_LO (i : Nat) : Nat := 0x40000 + 0x100 * i
/-- R112. -/ abbrev Reg.TMB_TB_NOW_HI (i : Nat) : Nat := 0x40004 + 0x100 * i
/-- R112. -/ abbrev Reg.TMB_TB_FREQ (i : Nat) : Nat := 0x40008 + 0x100 * i
/-- R112. -/ abbrev Reg.TMB_TB_SERVO_CTL (i : Nat) : Nat := 0x4000C + 0x100 * i
/-- R112. -/ abbrev Reg.TMB_TB_SERVO_GAIN (i : Nat) : Nat := 0x40010 + 0x100 * i
/-- R112. -/ abbrev Reg.TMB_TB_SERVO_LIMIT (i : Nat) : Nat := 0x40014 + 0x100 * i
/-- R112. -/ abbrev Reg.TMB_TB_SERVO_LOCK (i : Nat) : Nat := 0x40018 + 0x100 * i
/-- R112. -/ abbrev Reg.TMB_TB_SERVO_STATUS (i : Nat) : Nat := 0x4001C + 0x100 * i
/-- R112. -/ abbrev Reg.TMB_TB_OFFSET_LO (i : Nat) : Nat := 0x40020 + 0x100 * i
/-- R112. -/ abbrev Reg.TMB_TB_OFFSET_HI (i : Nat) : Nat := 0x40024 + 0x100 * i
/-- R112. -/ abbrev Reg.TMB_TB_STEP_LO (i : Nat) : Nat := 0x40028 + 0x100 * i
/-- R112. -/ abbrev Reg.TMB_TB_STEP_HI (i : Nat) : Nat := 0x4002C + 0x100 * i
/-- R112. -/ abbrev Reg.TMB_TB_SET_LO (i : Nat) : Nat := 0x40030 + 0x100 * i
/-- R112. -/ abbrev Reg.TMB_TB_SET_HI (i : Nat) : Nat := 0x40034 + 0x100 * i
/-- R112. -/ abbrev Reg.TMB_TB_HOLDOVER (i : Nat) : Nat := 0x40038 + 0x100 * i
/-- R112. -/ abbrev Reg.TMB_TB_AUDIO (i : Nat) : Nat := 0x4003C + 0x100 * i
/-- R116. -/ abbrev Reg.TMB_FRAME_CTL : Nat := 0x40800
/-- R116. -/ abbrev Reg.TMB_FRAME_OFFSET : Nat := 0x40804
/-- R116. -/ abbrev Reg.TMB_FRAME_ALIGN_NS : Nat := 0x40808
/-- R116. -/ abbrev Reg.TMB_FRAME_ALIGN_REM : Nat := 0x4080C
/-- R116. -/ abbrev Reg.TMB_FRAME_ALIGN_NUM : Nat := 0x40810
/-- R116. -/ abbrev Reg.TMB_FRAME_ALIGN_CTL : Nat := 0x40814
/-- R116. -/ abbrev Reg.TMB_FRAME_STATUS : Nat := 0x40818
/-- R116. -/ abbrev Reg.TMB_TICK_LO : Nat := 0x40820
/-- R116. -/ abbrev Reg.TMB_TICK_HI : Nat := 0x40824
/-- R116. -/ abbrev Reg.TMB_SYNCIN_CTL : Nat := 0x40840
/-- R116. -/ abbrev Reg.TMB_SYNCIN_STAMP_LO : Nat := 0x40848
/-- R116. -/ abbrev Reg.TMB_SYNCIN_STAMP_HI : Nat := 0x4084C
/-- R116. -/ abbrev Reg.TMB_CHAIN_CTL : Nat := 0x40A00
/-- R116. -/ abbrev Reg.TMB_HOP_DELAY (i : Nat) : Nat := 0x40A10 + 0x4 * i
/-- R116. -/ abbrev Reg.TMB_HOP_ASYM (i : Nat) : Nat := 0x40A20 + 0x4 * i
/-- R116. -/ abbrev Reg.TMB_HOP_STATUS (i : Nat) : Nat := 0x40A30 + 0x4 * i
/-- R116. -/ abbrev Reg.TMB_PTP_CTL : Nat := 0x40C00
/-- R116. -/ abbrev Reg.TMB_PTP_LAST_SEC_LO : Nat := 0x40C08
/-- R116. -/ abbrev Reg.TMB_PTP_LAST_SEC_HI : Nat := 0x40C0C
/-- R116. -/ abbrev Reg.TMB_PTP_LAST_T2_LO : Nat := 0x40C10
/-- R116. -/ abbrev Reg.TMB_PTP_LAST_T2_HI : Nat := 0x40C14
/-- R116. -/ abbrev Reg.TMB_PTP_PATH_DELAY : Nat := 0x40C18
/-- R167. -/ abbrev Reg.SLK_CTL (i : Nat) : Nat := 0x50000 + 0x4000 * i
/-- R167. -/ abbrev Reg.SLK_STATUS (i : Nat) : Nat := 0x50004 + 0x4000 * i
/-- R167. -/ abbrev Reg.SLK_TX_EQ (i : Nat) : Nat := 0x50008 + 0x4000 * i
/-- R167. -/ abbrev Reg.SLK_RETRAIN_CAUSE (i : Nat) : Nat := 0x5000C + 0x4000 * i
/-- R167. -/ abbrev Reg.SLK_RX_EQ (i j : Nat) : Nat := 0x50010 + 0x4000 * i + 0x4 * j
/-- R167. -/ abbrev Reg.SLK_PEER_UID (i j : Nat) : Nat := 0x50020 + 0x4000 * i + 0x4 * j
/-- R167. -/ abbrev Reg.SLK_PEER_INFO (i : Nat) : Nat := 0x50030 + 0x4000 * i
/-- R167. -/ abbrev Reg.SLK_ARB (i : Nat) : Nat := 0x50034 + 0x4000 * i
/-- R167. -/ abbrev Reg.SLK_CREDIT_VC (i j : Nat) : Nat := 0x50040 + 0x4000 * i + 0x4 * j
/-- R167. -/ abbrev Reg.SLK_RXBUF_VC (i j : Nat) : Nat := 0x50050 + 0x4000 * i + 0x4 * j
/-- R167. -/ abbrev Reg.SLK_CENSUS_STATUS (i : Nat) : Nat := 0x50060 + 0x4000 * i
/-- R167. -/ abbrev Reg.SLK_CENSUS_FAIL (i : Nat) : Nat := 0x50064 + 0x4000 * i
/-- R167. -/ abbrev Reg.SLK_FEC_CORR_LO (i : Nat) : Nat := 0x50080 + 0x4000 * i
/-- R167. -/ abbrev Reg.SLK_FEC_CORR_HI (i : Nat) : Nat := 0x50084 + 0x4000 * i
/-- R167. -/ abbrev Reg.SLK_FEC_UNCORR (i : Nat) : Nat := 0x50088 + 0x4000 * i
/-- R167. -/ abbrev Reg.SLK_BLOCK_ERR (i : Nat) : Nat := 0x5008C + 0x4000 * i
/-- R167. -/ abbrev Reg.SLK_HDR_CRC_ERR (i : Nat) : Nat := 0x50090 + 0x4000 * i
/-- R167. -/ abbrev Reg.SLK_PAY_CRC_ERR (i : Nat) : Nat := 0x50094 + 0x4000 * i
/-- R167. -/ abbrev Reg.SLK_UNIT_SYNC_LOSS (i : Nat) : Nat := 0x50098 + 0x4000 * i
/-- R167. -/ abbrev Reg.SLK_RETX_COUNT (i : Nat) : Nat := 0x5009C + 0x4000 * i
/-- R167. -/ abbrev Reg.SLK_RETRAIN_COUNT (i : Nat) : Nat := 0x500A0 + 0x4000 * i
/-- R167. -/ abbrev Reg.SLK_HUSK_RX (i : Nat) : Nat := 0x500A4 + 0x4000 * i
/-- R167. -/ abbrev Reg.SLK_HUSK_TX (i : Nat) : Nat := 0x500A8 + 0x4000 * i
/-- R167. -/ abbrev Reg.SLK_DROP_VC0 (i : Nat) : Nat := 0x500AC + 0x4000 * i
/-- R167. -/ abbrev Reg.SLK_DROP_VC1 (i : Nat) : Nat := 0x500B0 + 0x4000 * i
/-- R167. -/ abbrev Reg.SLK_CREDIT_VIOL (i : Nat) : Nat := 0x500B4 + 0x4000 * i
/-- R167. -/ abbrev Reg.SLK_TRAIN_FAIL (i : Nat) : Nat := 0x500B8 + 0x4000 * i
/-- R212. -/ abbrev Reg.SXQ_CTL : Nat := 0x60000
/-- R212. -/ abbrev Reg.SXQ_INDEX_SELF : Nat := 0x60008
/-- R212. -/ abbrev Reg.SXQ_PORT_CHAIN (i : Nat) : Nat := 0x60010 + 0x4 * i
/-- R212. -/ abbrev Reg.SXQ_PORT_STATE (i : Nat) : Nat := 0x60020 + 0x4 * i
/-- R212. -/ abbrev Reg.SXQ_ROLL_CTL : Nat := 0x60030
/-- R212. -/ abbrev Reg.SXQ_ROLL_STATUS : Nat := 0x60034
/-- R212. -/ abbrev Reg.SXQ_NOROUTE : Nat := 0x60040
/-- R212. -/ abbrev Reg.SXQ_END_DROP : Nat := 0x60044
/-- R212. -/ abbrev Reg.SXQ_EPOCH_REFUSED : Nat := 0x60048
/-- R212. -/ abbrev Reg.SXQ_QUERY_COUNT : Nat := 0x6004C
/-- R212. -/ abbrev Reg.SXQ_ROLL_RESTARTS : Nat := 0x60050
/-- R212. -/ abbrev Reg.SXQ_ROLL_TABLE (i : Nat) : Nat := 0x68000 + 0x4 * i
/-- R246. -/ abbrev Reg.RED_CTL : Nat := 0x70000
/-- R246. -/ abbrev Reg.RED_LEASE_CTL : Nat := 0x70010
/-- R246. -/ abbrev Reg.RED_ARB_MASK_LO : Nat := 0x70028
/-- R246. -/ abbrev Reg.RED_ARB_MASK_HI : Nat := 0x7002C
/-- R246. -/ abbrev Reg.RED_RX_ACCEPT : Nat := 0x70040
/-- R246. -/ abbrev Reg.RED_RX_DUP : Nat := 0x70044
/-- R246. -/ abbrev Reg.RED_RX_STALE : Nat := 0x70048
/-- R246. -/ abbrev Reg.RED_RX_HUSK : Nat := 0x7004C
/-- R246. -/ abbrev Reg.RED_CMP_MISMATCH : Nat := 0x70050
/-- R246. -/ abbrev Reg.RED_SINGLE_LO : Nat := 0x70054
/-- R246. -/ abbrev Reg.RED_SINGLE_HI : Nat := 0x70058
/-- R246. -/ abbrev Reg.RED_RX_SHUNNED : Nat := 0x7005C
/-- R246. -/ abbrev Reg.RED_NOSLOT : Nat := 0x70060
/-- R246. -/ abbrev Reg.RED_P_STATE (i : Nat) : Nat := 0x70100 + 0x40 * i
/-- R246. -/ abbrev Reg.RED_P_CLAIM (i : Nat) : Nat := 0x70104 + 0x40 * i
/-- R246. -/ abbrev Reg.RED_P_CLAIM_CTL (i : Nat) : Nat := 0x70108 + 0x40 * i
/-- R246. -/ abbrev Reg.RED_P_PEER_CLAIM (i : Nat) : Nat := 0x7010C + 0x40 * i
/-- R246. -/ abbrev Reg.RED_P_PEER_UID (i j : Nat) : Nat := 0x70110 + 0x40 * i + 0x4 * j
/-- R246. -/ abbrev Reg.RED_P_CMP_FRAME (i : Nat) : Nat := 0x70120 + 0x40 * i
/-- R246. -/ abbrev Reg.RED_P_DIGEST_DIFF (i : Nat) : Nat := 0x70124 + 0x40 * i
/-- R246. -/ abbrev Reg.RED_P_DIGEST_MISSING (i : Nat) : Nat := 0x70128 + 0x40 * i
/-- R246. -/ abbrev Reg.RED_P_LEASE_MISS (i : Nat) : Nat := 0x7012C + 0x40 * i
/-- R246. -/ abbrev Reg.RED_P_TAKEOVERS (i : Nat) : Nat := 0x70130 + 0x40 * i
/-- R281. -/ abbrev Reg.INP_CTL : Nat := 0x80000
/-- R281. -/ abbrev Reg.INP_BUDGET_SHADOW : Nat := 0x80004
/-- R281. -/ abbrev Reg.INP_BUDGET_ACTIVE : Nat := 0x80008
/-- R281. -/ abbrev Reg.INP_PARKED : Nat := 0x8000C
/-- R281. -/ abbrev Reg.INP_SDI_STATUS (i : Nat) : Nat := 0x80100 + 0x20 * i
/-- R281. -/ abbrev Reg.INP_SDI_CRC_ERR (i : Nat) : Nat := 0x80104 + 0x20 * i
/-- R281. -/ abbrev Reg.INP_SDI_PID (i : Nat) : Nat := 0x80108 + 0x20 * i
/-- R281. -/ abbrev Reg.INP_ETH_CTL (i : Nat) : Nat := 0x80200 + 0x40 * i
/-- R281. -/ abbrev Reg.INP_ETH_STATUS (i : Nat) : Nat := 0x80204 + 0x40 * i
/-- R281. -/ abbrev Reg.INP_ETH_RX_FRAMES (i : Nat) : Nat := 0x80208 + 0x40 * i
/-- R281. -/ abbrev Reg.INP_ETH_RX_DROP (i : Nat) : Nat := 0x8020C + 0x40 * i
/-- R281. -/ abbrev Reg.INP_ETH_FEC_UNCORR (i : Nat) : Nat := 0x80210 + 0x40 * i
/-- R281. -/ abbrev Reg.INP_ETH_IPV4 (i : Nat) : Nat := 0x80214 + 0x40 * i
/-- R281. -/ abbrev Reg.INP_ETH_MAC_LO (i : Nat) : Nat := 0x80218 + 0x40 * i
/-- R281. -/ abbrev Reg.INP_ETH_MAC_HI (i : Nat) : Nat := 0x8021C + 0x40 * i
/-- R281. -/ abbrev Reg.INP_SRC_CTL (i : Nat) : Nat := 0x81000 + 0x100 * i
/-- R281. -/ abbrev Reg.INP_SRC_FMT (i : Nat) : Nat := 0x81004 + 0x100 * i
/-- R281. -/ abbrev Reg.INP_SRC_SIZE (i : Nat) : Nat := 0x81008 + 0x100 * i
/-- R281. -/ abbrev Reg.INP_SRC_FILL (i : Nat) : Nat := 0x8100C + 0x100 * i
/-- R281. -/ abbrev Reg.INP_SRC_BUF_LO (i : Nat) : Nat := 0x81010 + 0x100 * i
/-- R281. -/ abbrev Reg.INP_SRC_BUF_HI (i : Nat) : Nat := 0x81014 + 0x100 * i
/-- R281. -/ abbrev Reg.INP_SRC_PITCH (i : Nat) : Nat := 0x81018 + 0x100 * i
/-- R281. -/ abbrev Reg.INP_SRC_BUF_STRIDE (i : Nat) : Nat := 0x8101C + 0x100 * i
/-- R281. -/ abbrev Reg.INP_SRC_NET_DST (i : Nat) : Nat := 0x81020 + 0x100 * i
/-- R281. -/ abbrev Reg.INP_SRC_NET_SRC (i : Nat) : Nat := 0x81024 + 0x100 * i
/-- R281. -/ abbrev Reg.INP_SRC_NET_PORT (i : Nat) : Nat := 0x81028 + 0x100 * i
/-- R281. -/ abbrev Reg.INP_SRC_HOST_ADDR_LO (i : Nat) : Nat := 0x81030 + 0x100 * i
/-- R281. -/ abbrev Reg.INP_SRC_HOST_ADDR_HI (i : Nat) : Nat := 0x81034 + 0x100 * i
/-- R281. -/ abbrev Reg.INP_SRC_HOST_POST (i : Nat) : Nat := 0x81038 + 0x100 * i
/-- R281. -/ abbrev Reg.INP_SRC_HOST_STAT (i : Nat) : Nat := 0x8103C + 0x100 * i
/-- R281. -/ abbrev Reg.INP_SRC_STATUS (i : Nat) : Nat := 0x81040 + 0x100 * i
/-- R281. -/ abbrev Reg.INP_SRC_DETECT (i : Nat) : Nat := 0x81044 + 0x100 * i
/-- R281. -/ abbrev Reg.INP_SRC_SEL (i : Nat) : Nat := 0x81048 + 0x100 * i
/-- R281. -/ abbrev Reg.INP_SRC_SEL_SEQ (i : Nat) : Nat := 0x8104C + 0x100 * i
/-- R281. -/ abbrev Reg.INP_SRC_FRAMES (i : Nat) : Nat := 0x81050 + 0x100 * i
/-- R281. -/ abbrev Reg.INP_SRC_REPEAT (i : Nat) : Nat := 0x81054 + 0x100 * i
/-- R281. -/ abbrev Reg.INP_SRC_DROP (i : Nat) : Nat := 0x81058 + 0x100 * i
/-- R281. -/ abbrev Reg.INP_SRC_ERR (i : Nat) : Nat := 0x8105C + 0x100 * i
/-- R281. -/ abbrev Reg.INP_SRC_LAST_LO (i : Nat) : Nat := 0x81060 + 0x100 * i
/-- R281. -/ abbrev Reg.INP_SRC_LAST_HI (i : Nat) : Nat := 0x81064 + 0x100 * i
/-- R281. -/ abbrev Reg.INP_AUD_CTL (i : Nat) : Nat := 0x83000 + 0x20 * i
/-- R281. -/ abbrev Reg.INP_AUD_NET_DST (i : Nat) : Nat := 0x83004 + 0x20 * i
/-- R281. -/ abbrev Reg.INP_AUD_NET_SRC (i : Nat) : Nat := 0x83008 + 0x20 * i
/-- R281. -/ abbrev Reg.INP_AUD_NET_PORT (i : Nat) : Nat := 0x8300C + 0x20 * i
/-- R281. -/ abbrev Reg.INP_AUD_STATUS (i : Nat) : Nat := 0x83010 + 0x20 * i
/-- R329. -/ abbrev Reg.CMP_CTL : Nat := 0xA0000
/-- R329. -/ abbrev Reg.CMP_BG_RG : Nat := 0xA0004
/-- R329. -/ abbrev Reg.CMP_BG_B : Nat := 0xA0008
/-- R329. -/ abbrev Reg.CMP_WINDOW_XY : Nat := 0xA0010
/-- R329. -/ abbrev Reg.CMP_WINDOW_WH : Nat := 0xA0014
/-- R329. -/ abbrev Reg.CMP_CANVAS_BUF0_LO : Nat := 0xA0020
/-- R329. -/ abbrev Reg.CMP_CANVAS_BUF0_HI : Nat := 0xA0024
/-- R329. -/ abbrev Reg.CMP_CANVAS_BUF1_LO : Nat := 0xA0028
/-- R329. -/ abbrev Reg.CMP_CANVAS_BUF1_HI : Nat := 0xA002C
/-- R329. -/ abbrev Reg.CMP_CANVAS_PITCH : Nat := 0xA0030
/-- R329. -/ abbrev Reg.CMP_STATUS : Nat := 0xA0040
/-- R329. -/ abbrev Reg.CMP_LAST_FRAME : Nat := 0xA0044
/-- R329. -/ abbrev Reg.CMP_CYCLES_LAST : Nat := 0xA0048
/-- R329. -/ abbrev Reg.CMP_CYCLES_BUDGET : Nat := 0xA004C
/-- R329. -/ abbrev Reg.CMP_CYCLES_PEAK : Nat := 0xA0050
/-- R329. -/ abbrev Reg.CMP_ABANDONED : Nat := 0xA0054
/-- R329. -/ abbrev Reg.CMP_FETCH_ERR : Nat := 0xA0058
/-- R329. -/ abbrev Reg.CMP_COV_SKIPPED : Nat := 0xA005C
/-- R329. -/ abbrev Reg.CMP_FALLBACK_LO : Nat := 0xA0060
/-- R329. -/ abbrev Reg.CMP_FALLBACK_HI : Nat := 0xA0064
/-- R329. -/ abbrev Reg.CMP_LOAF_CTL : Nat := 0xA0080
/-- R329. -/ abbrev Reg.CMP_LOAF_STATUS : Nat := 0xA0084
/-- R329. -/ abbrev Reg.CMP_LOAF_TILES : Nat := 0xA0088
/-- R329. -/ abbrev Reg.CMP_LOAF_MISS : Nat := 0xA008C
/-- R329. -/ abbrev Reg.CMP_LOAF_ECC : Nat := 0xA0090
/-- R329. -/ abbrev Reg.CMP_ZONE_XY (i : Nat) : Nat := 0xA0400 + 0x10 * i
/-- R329. -/ abbrev Reg.CMP_ZONE_WH (i : Nat) : Nat := 0xA0404 + 0x10 * i
/-- R329. -/ abbrev Reg.CMP_ZONE_CTL (i : Nat) : Nat := 0xA0408 + 0x10 * i
/-- R329. -/ abbrev Reg.CMP_ZONE_STATUS (i : Nat) : Nat := 0xA040C + 0x10 * i
/-- R329. -/ abbrev Reg.CMP_LUT (i : Nat) : Nat := 0xA4000 + 0x4 * i
/-- R330. -/ abbrev Reg.CMP_LAYER_CTL (i : Nat) : Nat := 0xA1000 + 0x80 * i
/-- R330. -/ abbrev Reg.CMP_LAYER_FMT (i : Nat) : Nat := 0xA1004 + 0x80 * i
/-- R330. -/ abbrev Reg.CMP_LAYER_SRC_XY (i : Nat) : Nat := 0xA1008 + 0x80 * i
/-- R330. -/ abbrev Reg.CMP_LAYER_SRC_WH (i : Nat) : Nat := 0xA100C + 0x80 * i
/-- R330. -/ abbrev Reg.CMP_LAYER_DST_XY (i : Nat) : Nat := 0xA1010 + 0x80 * i
/-- R330. -/ abbrev Reg.CMP_LAYER_DST_WH (i : Nat) : Nat := 0xA1014 + 0x80 * i
/-- R330. -/ abbrev Reg.CMP_LAYER_ALPHA (i : Nat) : Nat := 0xA1018 + 0x80 * i
/-- R330. -/ abbrev Reg.CMP_LAYER_CONST_RG (i : Nat) : Nat := 0xA101C + 0x80 * i
/-- R330. -/ abbrev Reg.CMP_LAYER_CONST_BA (i : Nat) : Nat := 0xA1020 + 0x80 * i
/-- R330. -/ abbrev Reg.CMP_LAYER_SURF_LO (i : Nat) : Nat := 0xA1024 + 0x80 * i
/-- R330. -/ abbrev Reg.CMP_LAYER_SURF_HI (i : Nat) : Nat := 0xA1028 + 0x80 * i
/-- R330. -/ abbrev Reg.CMP_LAYER_SURF_PITCH (i : Nat) : Nat := 0xA102C + 0x80 * i
/-- R330. -/ abbrev Reg.CMP_LAYER_CSC_IN01 (i : Nat) : Nat := 0xA1030 + 0x80 * i
/-- R330. -/ abbrev Reg.CMP_LAYER_CSC_IN2_OUT0 (i : Nat) : Nat := 0xA1034 + 0x80 * i
/-- R330. -/ abbrev Reg.CMP_LAYER_CSC_OUT12 (i : Nat) : Nat := 0xA1038 + 0x80 * i
/-- R330. -/ abbrev Reg.CMP_LAYER_CSC_M00_01 (i : Nat) : Nat := 0xA103C + 0x80 * i
/-- R330. -/ abbrev Reg.CMP_LAYER_CSC_M02_10 (i : Nat) : Nat := 0xA1040 + 0x80 * i
/-- R330. -/ abbrev Reg.CMP_LAYER_CSC_M11_12 (i : Nat) : Nat := 0xA1044 + 0x80 * i
/-- R330. -/ abbrev Reg.CMP_LAYER_CSC_M20_21 (i : Nat) : Nat := 0xA1048 + 0x80 * i
/-- R330. -/ abbrev Reg.CMP_LAYER_CSC_M22 (i : Nat) : Nat := 0xA104C + 0x80 * i
/-- R330. -/ abbrev Reg.CMP_LAYER_SURF_SIZE (i : Nat) : Nat := 0xA1050 + 0x80 * i
/-- R330. -/ abbrev Reg.CMP_LAYER_SURF_GEN (i : Nat) : Nat := 0xA1054 + 0x80 * i
/-- R330. -/ abbrev Reg.CMP_LAYER_STEP_X (i : Nat) : Nat := 0xA1058 + 0x80 * i
/-- R330. -/ abbrev Reg.CMP_LAYER_STEP_Y (i : Nat) : Nat := 0xA105C + 0x80 * i
/-- R330. -/ abbrev Reg.CMP_LAYER_STATUS (i : Nat) : Nat := 0xA1060 + 0x80 * i
/-- R361. -/ abbrev Reg.SCN_CTL : Nat := 0xB0000
/-- R361. -/ abbrev Reg.SCN_FILL_RG : Nat := 0xB0004
/-- R361. -/ abbrev Reg.SCN_FILL_B : Nat := 0xB0008
/-- R361. -/ abbrev Reg.SCN_STATUS : Nat := 0xB0010
/-- R361. -/ abbrev Reg.SCN_LAST_FRAME : Nat := 0xB0014
/-- R361. -/ abbrev Reg.SCN_PORT_LB (i : Nat) : Nat := 0xB0100 + 0x10 * i
/-- R361. -/ abbrev Reg.SCN_PORT_LOAD (i : Nat) : Nat := 0xB0104 + 0x10 * i
/-- R361. -/ abbrev Reg.SCN_PORT_ALLOW (i : Nat) : Nat := 0xB0108 + 0x10 * i
/-- R361. -/ abbrev Reg.SCN_PORT_DISCARD (i : Nat) : Nat := 0xB010C + 0x10 * i
/-- R361. -/ abbrev Reg.SCN_PORT_STARVE (i : Nat) : Nat := 0xB0140 + 0x4 * i
/-- R361. -/ abbrev Reg.SCN_MON_CTL : Nat := 0xB0200
/-- R361. -/ abbrev Reg.SCN_MON_SRC_XY : Nat := 0xB0204
/-- R361. -/ abbrev Reg.SCN_MON_SRC_WH : Nat := 0xB0208
/-- R361. -/ abbrev Reg.SCN_MON_DST_XY : Nat := 0xB020C
/-- R361. -/ abbrev Reg.SCN_MON_BORDER_RG : Nat := 0xB0210
/-- R361. -/ abbrev Reg.SCN_MON_BORDER_B : Nat := 0xB0214
/-- R361. -/ abbrev Reg.SCN_MON_STATUS : Nat := 0xB0218
/-- R361. -/ abbrev Reg.SCN_MON_UNDERFLOW : Nat := 0xB021C
/-- R361. -/ abbrev Reg.SCN_MON_CSC_IN01 : Nat := 0xB0230
/-- R361. -/ abbrev Reg.SCN_MON_CSC_IN2_OUT0 : Nat := 0xB0234
/-- R361. -/ abbrev Reg.SCN_MON_CSC_OUT12 : Nat := 0xB0238
/-- R361. -/ abbrev Reg.SCN_MON_CSC_M00_01 : Nat := 0xB023C
/-- R361. -/ abbrev Reg.SCN_MON_CSC_M02_10 : Nat := 0xB0240
/-- R361. -/ abbrev Reg.SCN_MON_CSC_M11_12 : Nat := 0xB0244
/-- R361. -/ abbrev Reg.SCN_MON_CSC_M20_21 : Nat := 0xB0248
/-- R361. -/ abbrev Reg.SCN_MON_CSC_M22 : Nat := 0xB024C
/-- R361. -/ abbrev Reg.SCN_REG_CTL (i : Nat) : Nat := 0xB1000 + 0x20 * i
/-- R361. -/ abbrev Reg.SCN_REG_XY (i : Nat) : Nat := 0xB1004 + 0x20 * i
/-- R361. -/ abbrev Reg.SCN_REG_WH (i : Nat) : Nat := 0xB1008 + 0x20 * i
/-- R361. -/ abbrev Reg.SCN_REG_STATUS (i : Nat) : Nat := 0xB100C + 0x20 * i
/-- R361. -/ abbrev Reg.SCN_REG_LOAD (i : Nat) : Nat := 0xB1010 + 0x20 * i
/-- R361. -/ abbrev Reg.SCN_WR_CTL (i : Nat) : Nat := 0xB3000 + 0x20 * i
/-- R361. -/ abbrev Reg.SCN_WR_XY (i : Nat) : Nat := 0xB3004 + 0x20 * i
/-- R361. -/ abbrev Reg.SCN_WR_WH (i : Nat) : Nat := 0xB3008 + 0x20 * i
/-- R361. -/ abbrev Reg.SCN_WR_EXPECT (i : Nat) : Nat := 0xB300C + 0x20 * i
/-- R361. -/ abbrev Reg.SCN_WR_SIG (i : Nat) : Nat := 0xB3010 + 0x20 * i
/-- R361. -/ abbrev Reg.SCN_WR_SIG_FRAME (i : Nat) : Nat := 0xB3014 + 0x20 * i
/-- R361. -/ abbrev Reg.SCN_WR_MISMATCH (i : Nat) : Nat := 0xB3018 + 0x20 * i
/-- R361. -/ abbrev Reg.SCN_TILE_CTL : Nat := 0xB8000
/-- R361. -/ abbrev Reg.SCN_TILE_STATUS : Nat := 0xB8004
/-- R361. -/ abbrev Reg.SCN_TILE_TRAILER_MISS : Nat := 0xB8008
/-- R361. -/ abbrev Reg.SCN_TW_STATUS (i : Nat) : Nat := 0xB8100 + 0x20 * i
/-- R361. -/ abbrev Reg.SCN_TW_SIG_T1 (i : Nat) : Nat := 0xB8104 + 0x20 * i
/-- R361. -/ abbrev Reg.SCN_TW_SIG_T2 (i : Nat) : Nat := 0xB8108 + 0x20 * i
/-- R361. -/ abbrev Reg.SCN_TW_SIG_T3 (i : Nat) : Nat := 0xB810C + 0x20 * i
/-- R361. -/ abbrev Reg.SCN_TW_SIG_T4 (i : Nat) : Nat := 0xB8110 + 0x20 * i
/-- R361. -/ abbrev Reg.SCN_TW_MISMATCH (i : Nat) : Nat := 0xB8114 + 0x20 * i
/-- R397. -/ abbrev Reg.COR_CTL : Nat := 0xC0000
/-- R397. -/ abbrev Reg.COR_RX_CTL : Nat := 0xC0004
/-- R397. -/ abbrev Reg.COR_REGION : Nat := 0xC0008
/-- R397. -/ abbrev Reg.COR_MARGIN : Nat := 0xC000C
/-- R397. -/ abbrev Reg.COR_SEAM_BAND : Nat := 0xC0010
/-- R397. -/ abbrev Reg.COR_PANEL : Nat := 0xC0014
/-- R397. -/ abbrev Reg.COR_LIN_CTL : Nat := 0xC0018
/-- R397. -/ abbrev Reg.COR_FSTORE0_LO : Nat := 0xC0020
/-- R397. -/ abbrev Reg.COR_FSTORE0_HI : Nat := 0xC0024
/-- R397. -/ abbrev Reg.COR_FSTORE1_LO : Nat := 0xC0028
/-- R397. -/ abbrev Reg.COR_FSTORE1_HI : Nat := 0xC002C
/-- R397. -/ abbrev Reg.COR_SEAM_BASE_LO : Nat := 0xC0030
/-- R397. -/ abbrev Reg.COR_SEAM_BASE_HI : Nat := 0xC0034
/-- R397. -/ abbrev Reg.COR_TSET_CTL : Nat := 0xC0040
/-- R397. -/ abbrev Reg.COR_TEMP_CTL : Nat := 0xC0044
/-- R397. -/ abbrev Reg.COR_TEMP_STATUS : Nat := 0xC0048
/-- R397. -/ abbrev Reg.COR_TEMP_POS : Nat := 0xC004C
/-- R397. -/ abbrev Reg.COR_STATUS : Nat := 0xC0060
/-- R397. -/ abbrev Reg.COR_FRAME : Nat := 0xC0064
/-- R397. -/ abbrev Reg.COR_FINISH_LAST : Nat := 0xC0068
/-- R397. -/ abbrev Reg.COR_INCOMPLETE : Nat := 0xC0070
/-- R397. -/ abbrev Reg.COR_RX_OUTSIDE : Nat := 0xC0074
/-- R397. -/ abbrev Reg.COR_RX_FOREIGN : Nat := 0xC0078
/-- R397. -/ abbrev Reg.COR_HDR_MISMATCH : Nat := 0xC007C
/-- R397. -/ abbrev Reg.COR_TABLE_ERR : Nat := 0xC0080
/-- R397. -/ abbrev Reg.COR_TSET_BASE_LO (i : Nat) : Nat := 0xC0100 + 0x20 * i
/-- R397. -/ abbrev Reg.COR_TSET_BASE_HI (i : Nat) : Nat := 0xC0104 + 0x20 * i
/-- R397. -/ abbrev Reg.COR_TSET_TAG (i : Nat) : Nat := 0xC0108 + 0x20 * i
/-- R397. -/ abbrev Reg.COR_TSET_GAIN01 (i : Nat) : Nat := 0xC010C + 0x20 * i
/-- R397. -/ abbrev Reg.COR_TSET_GAIN23 (i : Nat) : Nat := 0xC0110 + 0x20 * i
/-- R397. -/ abbrev Reg.COR_LIN_PQ (i : Nat) : Nat := 0xC4000 + 0x4 * i
/-- R397. -/ abbrev Reg.COR_LIN_HLG (i : Nat) : Nat := 0xC8000 + 0x4 * i
/-- R397. -/ abbrev Reg.COR_OOTF (i : Nat) : Nat := 0xCC000 + 0x4 * i
/-- R437. -/ abbrev Reg.FUR_CTL : Nat := 0xD0000
/-- R437. -/ abbrev Reg.FUR_SCAN : Nat := 0xD0004
/-- R437. -/ abbrev Reg.FUR_LINE : Nat := 0xD0008
/-- R437. -/ abbrev Reg.FUR_GAP : Nat := 0xD000C
/-- R437. -/ abbrev Reg.FUR_GUARD : Nat := 0xD0010
/-- R437. -/ abbrev Reg.FUR_SF_ORDER_LO : Nat := 0xD0014
/-- R437. -/ abbrev Reg.FUR_SF_ORDER_HI : Nat := 0xD0018
/-- R437. -/ abbrev Reg.FUR_CURRENT : Nat := 0xD001C
/-- R437. -/ abbrev Reg.FUR_STATUS : Nat := 0xD0020
/-- R437. -/ abbrev Reg.FUR_CALC_U : Nat := 0xD0024
/-- R437. -/ abbrev Reg.FUR_CALC_LEAD : Nat := 0xD0028
/-- R437. -/ abbrev Reg.FUR_CALC_NEED : Nat := 0xD002C
/-- R437. -/ abbrev Reg.FUR_CALC_AVAIL : Nat := 0xD0030
/-- R437. -/ abbrev Reg.FUR_ACC_CTL : Nat := 0xD0040
/-- R437. -/ abbrev Reg.FUR_ACC_ADDR : Nat := 0xD0044
/-- R437. -/ abbrev Reg.FUR_ACC_DATA (i : Nat) : Nat := 0xD0048 + 0x4 * i
/-- R437. -/ abbrev Reg.FUR_SF_SKIPPED : Nat := 0xD0060
/-- R437. -/ abbrev Reg.FUR_SF_LATE : Nat := 0xD0064
/-- R437. -/ abbrev Reg.FUR_FETCH_ERR : Nat := 0xD0068
/-- R437. -/ abbrev Reg.FUR_LANE_CFG (i : Nat) : Nat := 0xD0100 + 0x20 * i
/-- R437. -/ abbrev Reg.FUR_LANE_ROWCFG (i : Nat) : Nat := 0xD0104 + 0x20 * i
/-- R437. -/ abbrev Reg.FUR_LANE_STATUS (i : Nat) : Nat := 0xD0108 + 0x20 * i
/-- R437. -/ abbrev Reg.FUR_LANE_LOOP (i : Nat) : Nat := 0xD010C + 0x20 * i
/-- R437. -/ abbrev Reg.FUR_LANE_ERR (i : Nat) : Nat := 0xD0110 + 0x20 * i
/-- R437. -/ abbrev Reg.FUR_CHMAP (i : Nat) : Nat := 0xD1000 + 0x4 * i
/-- R437. -/ abbrev Reg.FUR_SINK_POS (i j : Nat) : Nat := 0xD2000 + 0x100 * i + 0x8 * j
/-- R437. -/ abbrev Reg.FUR_SINK_MAP (i j : Nat) : Nat := 0xD2004 + 0x100 * i + 0x8 * j
/-- R465. -/ abbrev Reg.LMP_CTL : Nat := 0xE0000
/-- R465. -/ abbrev Reg.LMP_GROUP_BASE_LO : Nat := 0xE0008
/-- R465. -/ abbrev Reg.LMP_GROUP_BASE_HI : Nat := 0xE000C
/-- R465. -/ abbrev Reg.LMP_GROUP_GEN : Nat := 0xE0010
/-- R465. -/ abbrev Reg.LMP_STATUS : Nat := 0xE0014
/-- R465. -/ abbrev Reg.LMP_MAP_LANE : Nat := 0xE0018
/-- R465. -/ abbrev Reg.LMP_SWEEP_LAP : Nat := 0xE0020
/-- R465. -/ abbrev Reg.LMP_TEST_COUNT : Nat := 0xE0024
/-- R465. -/ abbrev Reg.LMP_TEST_MISSED : Nat := 0xE0028
/-- R465. -/ abbrev Reg.LMP_READ_FAIL : Nat := 0xE002C
/-- R465. -/ abbrev Reg.LMP_UNGROUPED : Nat := 0xE0030
/-- R465. -/ abbrev Reg.LMP_PRESENT_TOTAL : Nat := 0xE0034
/-- R465. -/ abbrev Reg.LMP_BLANKED (i : Nat) : Nat := 0xE0040 + 0x4 * i
/-- R465. -/ abbrev Reg.LMP_GCNT (i : Nat) : Nat := 0xE4000 + 0x4 * i
/-- R465. -/ abbrev Reg.LMP_MAP (i : Nat) : Nat := 0xE8000 + 0x4 * i
/-- R489. -/ abbrev Reg.CAL_CTL : Nat := 0xF0000
/-- R489. -/ abbrev Reg.CAL_ADC_CTL : Nat := 0xF0004
/-- R489. -/ abbrev Reg.CAL_ADC_SYNC : Nat := 0xF0008
/-- R489. -/ abbrev Reg.CAL_ADC_STATUS : Nat := 0xF000C
/-- R489. -/ abbrev Reg.CAL_SOLVE_CTL : Nat := 0xF0010
/-- R489. -/ abbrev Reg.CAL_SOLVE_GATE : Nat := 0xF0014
/-- R489. -/ abbrev Reg.CAL_SOLVE_STATUS : Nat := 0xF0018
/-- R489. -/ abbrev Reg.CAL_SOLVE_INFO : Nat := 0xF001C
/-- R489. -/ abbrev Reg.CAL_SOLVE_ELAPSED : Nat := 0xF0020
/-- R489. -/ abbrev Reg.CAL_T_BAND : Nat := 0xF0024
/-- R489. -/ abbrev Reg.CAL_STATUS : Nat := 0xF0028
/-- R489. -/ abbrev Reg.CAL_RESULT_GAIN01 : Nat := 0xF0030
/-- R489. -/ abbrev Reg.CAL_RESULT_GAIN23 : Nat := 0xF0034
/-- R489. -/ abbrev Reg.CAL_RESULT_SPREAD01 : Nat := 0xF0038
/-- R489. -/ abbrev Reg.CAL_RESULT_SPREAD23 : Nat := 0xF003C
/-- R489. -/ abbrev Reg.CAL_EXCL_SAMPLES : Nat := 0xF0050
/-- R489. -/ abbrev Reg.CAL_EXCL_TEMP : Nat := 0xF0054
/-- R489. -/ abbrev Reg.CAL_EXCL_STATE : Nat := 0xF0058
/-- R489. -/ abbrev Reg.CAL_MIXED : Nat := 0xF005C
/-- R489. -/ abbrev Reg.CAL_SAT : Nat := 0xF0060
/-- R491. -/ abbrev Reg.CAL_SENS_XY (i : Nat) : Nat := 0xF0100 + 0x40 * i
/-- R491. -/ abbrev Reg.CAL_SENS_WH (i : Nat) : Nat := 0xF0104 + 0x40 * i
/-- R491. -/ abbrev Reg.CAL_SENS_TGT (i j : Nat) : Nat := 0xF0108 + 0x40 * i + 0x4 * j
/-- R491. -/ abbrev Reg.CAL_SENS_LIGHT (i : Nat) : Nat := 0xF0118 + 0x40 * i
/-- R491. -/ abbrev Reg.CAL_SENS_DARK (i : Nat) : Nat := 0xF011C + 0x40 * i
/-- R491. -/ abbrev Reg.CAL_SENS_FRAMES (i : Nat) : Nat := 0xF0120 + 0x40 * i
/-- R491. -/ abbrev Reg.CAL_SENS_STAT (i : Nat) : Nat := 0xF0124 + 0x40 * i
/-- R491. -/ abbrev Reg.CAL_SENS_FIT (i : Nat) : Nat := 0xF0128 + 0x40 * i
/-- R491. -/ abbrev Reg.CAL_SENS_A (i j : Nat) : Nat := 0xF012C + 0x40 * i + 0x4 * j
/-- R491. -/ abbrev Reg.CAL_SENS_FLAGS (i : Nat) : Nat := 0xF013C + 0x40 * i
/-- R520. -/ abbrev Reg.AUD_CTL : Nat := 0x90000
/-- R520. -/ abbrev Reg.AUD_LATENCY : Nat := 0x90004
/-- R520. -/ abbrev Reg.AUD_ANCHOR_FRAME : Nat := 0x90008
/-- R520. -/ abbrev Reg.AUD_ANCHOR_SSC_LO : Nat := 0x9000C
/-- R520. -/ abbrev Reg.AUD_ANCHOR_SSC_HI : Nat := 0x90010
/-- R520. -/ abbrev Reg.AUD_ANCHOR_CTL : Nat := 0x90014
/-- R520. -/ abbrev Reg.AUD_SSC_LO : Nat := 0x90018
/-- R520. -/ abbrev Reg.AUD_SSC_HI : Nat := 0x9001C
/-- R520. -/ abbrev Reg.AUD_DLY_BASE_LO : Nat := 0x90020
/-- R520. -/ abbrev Reg.AUD_DLY_BASE_HI : Nat := 0x90024
/-- R520. -/ abbrev Reg.AUD_RX_LATE : Nat := 0x90030
/-- R520. -/ abbrev Reg.AUD_RX_MISSING : Nat := 0x90034
/-- R520. -/ abbrev Reg.AUD_RX_FOREIGN : Nat := 0x90038
/-- R520. -/ abbrev Reg.AUD_GRP_CTL (i : Nat) : Nat := 0x90100 + 0x10 * i
/-- R520. -/ abbrev Reg.AUD_GRP_STATUS (i : Nat) : Nat := 0x90104 + 0x10 * i
/-- R520. -/ abbrev Reg.AUD_GRP_RATIO (i : Nat) : Nat := 0x90108 + 0x10 * i
/-- R520. -/ abbrev Reg.AUD_GRP_PHASE (i : Nat) : Nat := 0x9010C + 0x10 * i
/-- R520. -/ abbrev Reg.AUD_PORT_CTL (i : Nat) : Nat := 0x90200 + 0x10 * i
/-- R520. -/ abbrev Reg.AUD_PORT_SRC (i : Nat) : Nat := 0x90204 + 0x10 * i
/-- R520. -/ abbrev Reg.AUD_PORT_DELAY (i : Nat) : Nat := 0x90208 + 0x10 * i
/-- R520. -/ abbrev Reg.AUD_PORT_STATUS (i : Nat) : Nat := 0x9020C + 0x10 * i
/-- R520. -/ abbrev Reg.AUD_ASRC_STATUS (i : Nat) : Nat := 0x90400 + 0x20 * i
/-- R520. -/ abbrev Reg.AUD_ASRC_IN_LO (i : Nat) : Nat := 0x90404 + 0x20 * i
/-- R520. -/ abbrev Reg.AUD_ASRC_IN_HI (i : Nat) : Nat := 0x90408 + 0x20 * i
/-- R520. -/ abbrev Reg.AUD_ASRC_OUT_LO (i : Nat) : Nat := 0x9040C + 0x20 * i
/-- R520. -/ abbrev Reg.AUD_ASRC_OUT_HI (i : Nat) : Nat := 0x90410 + 0x20 * i
/-- R520. -/ abbrev Reg.AUD_ASRC_FILL (i : Nat) : Nat := 0x90414 + 0x20 * i
/-- R520. -/ abbrev Reg.AUD_ASRC_SLIP (i : Nat) : Nat := 0x90418 + 0x20 * i
/-- R520. -/ abbrev Reg.AUD_STR_CTL (i : Nat) : Nat := 0x90800 + 0x10 * i
/-- R520. -/ abbrev Reg.AUD_STR_SRC (i : Nat) : Nat := 0x90804 + 0x10 * i
/-- R520. -/ abbrev Reg.AUD_STR_STATUS (i : Nat) : Nat := 0x90808 + 0x10 * i
/-- R553. -/ abbrev Reg.DMC_CTL : Nat := 0x110000
/-- R553. -/ abbrev Reg.DMC_STATUS : Nat := 0x110004
/-- R553. -/ abbrev Reg.DMC_MAP : Nat := 0x110008
/-- R553. -/ abbrev Reg.DMC_ARB : Nat := 0x11000C
/-- R553. -/ abbrev Reg.DMC_URG : Nat := 0x110010
/-- R553. -/ abbrev Reg.DMC_RH_CTL : Nat := 0x110014
/-- R553. -/ abbrev Reg.DMC_RH_LIMIT : Nat := 0x110018
/-- R553. -/ abbrev Reg.DMC_THROTTLED : Nat := 0x11001C
/-- R553. -/ abbrev Reg.DMC_CH_FAILED : Nat := 0x110020
/-- R553. -/ abbrev Reg.DMC_TRAIN_STATUS : Nat := 0x110024
/-- R553. -/ abbrev Reg.DMC_ADDR_ERR : Nat := 0x110028
/-- R553. -/ abbrev Reg.DMC_FREQ_CTL : Nat := 0x110030
/-- R553. -/ abbrev Reg.DMC_FREQ_STATUS : Nat := 0x110034
/-- R553. -/ abbrev Reg.DMC_OP_RATE (i : Nat) : Nat := 0x110100 + 0x20 * i
/-- R553. -/ abbrev Reg.DMC_OP_TIM0 (i : Nat) : Nat := 0x110104 + 0x20 * i
/-- R553. -/ abbrev Reg.DMC_OP_TIM1 (i : Nat) : Nat := 0x110108 + 0x20 * i
/-- R553. -/ abbrev Reg.DMC_OP_TIM2 (i : Nat) : Nat := 0x11010C + 0x20 * i
/-- R553. -/ abbrev Reg.DMC_OP_TIM3 (i : Nat) : Nat := 0x110110 + 0x20 * i
/-- R553. -/ abbrev Reg.DMC_GRP_REF (i : Nat) : Nat := 0x110200 + 0x40 * i
/-- R553. -/ abbrev Reg.DMC_GRP_POSTPONED (i : Nat) : Nat := 0x110204 + 0x40 * i
/-- R553. -/ abbrev Reg.DMC_GRP_FORCED (i : Nat) : Nat := 0x110208 + 0x40 * i
/-- R553. -/ abbrev Reg.DMC_GRP_STALL_MAX (i : Nat) : Nat := 0x11020C + 0x40 * i
/-- R553. -/ abbrev Reg.DMC_GRP_URG_MAX (i : Nat) : Nat := 0x110210 + 0x40 * i
/-- R553. -/ abbrev Reg.DMC_GRP_RFM (i : Nat) : Nat := 0x110214 + 0x40 * i
/-- R553. -/ abbrev Reg.DMC_GRP_RH_PEAK (i : Nat) : Nat := 0x110218 + 0x40 * i
/-- R553. -/ abbrev Reg.DMC_GRP_OFFENDER (i : Nat) : Nat := 0x11021C + 0x40 * i
/-- R553. -/ abbrev Reg.DMC_CH_TRAIN (i : Nat) : Nat := 0x110300 + 0x4 * i
/-- R553. -/ abbrev Reg.DMC_REQ_BYTES (i : Nat) : Nat := 0x110400 + 0x4 * i
/-- R578. -/ abbrev Reg.MEC_CTL : Nat := 0x120000
/-- R578. -/ abbrev Reg.MEC_CHFAIL : Nat := 0x120008
/-- R578. -/ abbrev Reg.MEC_CH_FORCE : Nat := 0x12000C
/-- R578. -/ abbrev Reg.MEC_GLEAN_CTL : Nat := 0x120010
/-- R578. -/ abbrev Reg.MEC_GLEAN_STATUS : Nat := 0x120014
/-- R578. -/ abbrev Reg.MEC_GLEAN_LAP_LAST : Nat := 0x120018
/-- R578. -/ abbrev Reg.MEC_GLEAN_LAP_MAX : Nat := 0x12001C
/-- R578. -/ abbrev Reg.MEC_GLEAN_LAPS : Nat := 0x120020
/-- R578. -/ abbrev Reg.MEC_GLEAN_POS : Nat := 0x120024
/-- R578. -/ abbrev Reg.MEC_GRAN_QUERY : Nat := 0x120030
/-- R578. -/ abbrev Reg.MEC_GRAN_VALID : Nat := 0x120034
/-- R578. -/ abbrev Reg.MEC_TRIM_BASE : Nat := 0x120038
/-- R578. -/ abbrev Reg.MEC_TRIM_COUNT : Nat := 0x12003C
/-- R578. -/ abbrev Reg.MEC_TRIM_CTL : Nat := 0x120040
/-- R578. -/ abbrev Reg.MEC_ZERO_READS : Nat := 0x120050
/-- R578. -/ abbrev Reg.MEC_FILLS : Nat := 0x120054
/-- R578. -/ abbrev Reg.MEC_RMW : Nat := 0x120058
/-- R578. -/ abbrev Reg.MEC_POISON : Nat := 0x12005C
/-- R578. -/ abbrev Reg.MEC_UE : Nat := 0x120060
/-- R578. -/ abbrev Reg.MEC_SCRUBQ_DROP : Nat := 0x120064
/-- R578. -/ abbrev Reg.MEC_LAST_UE_LO : Nat := 0x120068
/-- R578. -/ abbrev Reg.MEC_LAST_UE_HI : Nat := 0x12006C
/-- R578. -/ abbrev Reg.MEC_LAST_CE_LO : Nat := 0x120070
/-- R578. -/ abbrev Reg.MEC_LAST_CE_HI : Nat := 0x120074
/-- R578. -/ abbrev Reg.MEC_GRN_CE : Nat := 0x120080
/-- R578. -/ abbrev Reg.MEC_GRN_UE : Nat := 0x120084
/-- R578. -/ abbrev Reg.MEC_GRN_LAST : Nat := 0x120088
/-- R578. -/ abbrev Reg.MEC_CH_CE (i : Nat) : Nat := 0x120100 + 0x4 * i
/-- R578. -/ abbrev Reg.MEC_GRP_ERASED (i : Nat) : Nat := 0x120180 + 0x4 * i
/-- R602. -/ abbrev Reg.HKP_CTL : Nat := 0x100000
/-- R602. -/ abbrev Reg.HKP_PANEL_SEL : Nat := 0x100004
/-- R602. -/ abbrev Reg.HKP_STATE : Nat := 0x100008
/-- R602. -/ abbrev Reg.HKP_ROUND : Nat := 0x10000C
/-- R602. -/ abbrev Reg.HKP_DIE_TEMP : Nat := 0x100010
/-- R602. -/ abbrev Reg.HKP_PANEL_TEMP : Nat := 0x100014
/-- R602. -/ abbrev Reg.HKP_THROTTLE : Nat := 0x100018
/-- R602. -/ abbrev Reg.HKP_RO_KV : Nat := 0x10001C
/-- R602. -/ abbrev Reg.HKP_THR_DIE_WARN : Nat := 0x100020
/-- R602. -/ abbrev Reg.HKP_THR_DIE_THROTTLE : Nat := 0x100024
/-- R602. -/ abbrev Reg.HKP_THR_DIE_SHUT : Nat := 0x100028
/-- R602. -/ abbrev Reg.HKP_THR_PANEL_WARN : Nat := 0x10002C
/-- R602. -/ abbrev Reg.HKP_THR_PANEL_THROTTLE : Nat := 0x100030
/-- R602. -/ abbrev Reg.HKP_THR_PANEL_SHUT : Nat := 0x100034
/-- R602. -/ abbrev Reg.HKP_DIE_THR_ROUNDS : Nat := 0x100040
/-- R602. -/ abbrev Reg.HKP_PANEL_THR_ROUNDS : Nat := 0x100044
/-- R602. -/ abbrev Reg.HKP_SLOT (i : Nat) : Nat := 0x100100 + 0x4 * i
/-- R602. -/ abbrev Reg.HKP_RO_COUNT (i : Nat) : Nat := 0x100200 + 0x10 * i
/-- R602. -/ abbrev Reg.HKP_RO_TEMP (i : Nat) : Nat := 0x100204 + 0x10 * i
/-- R602. -/ abbrev Reg.HKP_RO_CAL (i : Nat) : Nat := 0x100208 + 0x10 * i
/-- R602. -/ abbrev Reg.HKP_RAIL (i : Nat) : Nat := 0x100400 + 0x4 * i
/-- R602. -/ abbrev Reg.HKP_RAIL_WIN (i : Nat) : Nat := 0x100440 + 0x4 * i
/-- R602. -/ abbrev Reg.HKP_RD_CFG (i : Nat) : Nat := 0x100500 + 0x10 * i
/-- R602. -/ abbrev Reg.HKP_RD_TEMP (i : Nat) : Nat := 0x100504 + 0x10 * i
/-- R602. -/ abbrev Reg.HKP_TH_CFG (i : Nat) : Nat := 0x100580 + 0x10 * i
/-- R602. -/ abbrev Reg.HKP_TH_TEMP (i : Nat) : Nat := 0x100584 + 0x10 * i
/-- R602. -/ abbrev Reg.HKP_NTC_TAB (i j : Nat) : Nat := 0x100600 + 0x100 * i + 0x4 * j
/-- R624. -/ abbrev Reg.EVT_CTL : Nat := 0x30000
/-- R624. -/ abbrev Reg.EVT_STATUS : Nat := 0x30004
/-- R624. -/ abbrev Reg.EVT_DRAM_BASE_LO : Nat := 0x30008
/-- R624. -/ abbrev Reg.EVT_DRAM_BASE_HI : Nat := 0x3000C
/-- R624. -/ abbrev Reg.EVT_DRAM_SIZE : Nat := 0x30010
/-- R624. -/ abbrev Reg.EVT_DRAM_WR : Nat := 0x30014
/-- R624. -/ abbrev Reg.EVT_DRAM_RD : Nat := 0x30018
/-- R624. -/ abbrev Reg.EVT_DRAIN_CTL : Nat := 0x3001C
/-- R624. -/ abbrev Reg.EVT_IRQ_CTL : Nat := 0x30020
/-- R624. -/ abbrev Reg.EVT_PRODUCED : Nat := 0x30030
/-- R624. -/ abbrev Reg.EVT_LOGGED : Nat := 0x30034
/-- R624. -/ abbrev Reg.EVT_DROPPED : Nat := 0x30038
/-- R624. -/ abbrev Reg.EVT_STAGED : Nat := 0x3003C
/-- R624. -/ abbrev Reg.EVT_OVERWRITTEN : Nat := 0x30040
/-- R624. -/ abbrev Reg.EVT_GRING_DRAINED : Nat := 0x30044
/-- R624. -/ abbrev Reg.EVT_PEEK_BASE : Nat := 0x30048
/-- R624. -/ abbrev Reg.EVT_FWD_DROP : Nat := 0x3004C
/-- R624. -/ abbrev Reg.EVT_PEND (i : Nat) : Nat := 0x30200 + 0x4 * i
/-- R624. -/ abbrev Reg.EVT_SRC_CFG (i : Nat) : Nat := 0x31000 + 0x4 * i
/-- R624. -/ abbrev Reg.EVT_LOSS (i : Nat) : Nat := 0x32000 + 0x4 * i
/-- R624. -/ abbrev Reg.EVT_SEQ (i : Nat) : Nat := 0x33000 + 0x4 * i
/-- R624. -/ abbrev Reg.EVT_PEEK (i : Nat) : Nat := 0x38000 + 0x4 * i
/-- R654. -/ abbrev Reg.AON_RET0 : Nat := 0x10100
/-- R654. -/ abbrev Reg.AON_RET1 : Nat := 0x10104
/-- R654. -/ abbrev Reg.AON_RET2 : Nat := 0x10108
/-- R654. -/ abbrev Reg.AON_RET3 : Nat := 0x1010C
/-- R654. -/ abbrev Reg.AON_RET4 : Nat := 0x10110
/-- R654. -/ abbrev Reg.AON_RETS (i : Nat) : Nat := 0x10120 + 0x4 * i
/-- R659. -/ abbrev Reg.BOOT_STATUS : Nat := 0x20000
/-- R659. -/ abbrev Reg.BOOT_CTL : Nat := 0x20004
/-- R659. -/ abbrev Reg.BOOT_TRIAL_LEFT : Nat := 0x20008
/-- R659. -/ abbrev Reg.BOOT_CMD_OP : Nat := 0x20010
/-- R659. -/ abbrev Reg.BOOT_CMD_OFFSET : Nat := 0x20014
/-- R659. -/ abbrev Reg.BOOT_CMD_LENGTH : Nat := 0x20018
/-- R659. -/ abbrev Reg.BOOT_CMD_ID : Nat := 0x2001C
/-- R659. -/ abbrev Reg.BOOT_CMD_STAT : Nat := 0x20020
/-- R659. -/ abbrev Reg.BOOT_VERIFY_STATUS : Nat := 0x20024
/-- R659. -/ abbrev Reg.BOOT_SLOT_STATE (i : Nat) : Nat := 0x20030 + 0x4 * i
/-- R659. -/ abbrev Reg.BOOT_SLOT_VER (i : Nat) : Nat := 0x20038 + 0x4 * i
/-- R659. -/ abbrev Reg.BOOT_CFG_STATE (i : Nat) : Nat := 0x20040 + 0x4 * i
/-- R659. -/ abbrev Reg.BOOT_CFG_VER (i : Nat) : Nat := 0x20048 + 0x4 * i
/-- R659. -/ abbrev Reg.BOOT_FUSE : Nat := 0x20050
/-- R659. -/ abbrev Reg.BOOT_FLASH : Nat := 0x20054
/-- R659. -/ abbrev Reg.BOOT_FLASH_ERR : Nat := 0x20058
/-- R659. -/ abbrev Reg.BOOT_IFV (i : Nat) : Nat := 0x20080 + 0x4 * i
/-- R659. -/ abbrev Reg.BOOT_STAGE (i : Nat) : Nat := 0x28000 + 0x4 * i
/-- R688. -/ abbrev Reg.PCI_STATUS : Nat := 0x130000
/-- R688. -/ abbrev Reg.PCI_ID : Nat := 0x130004
/-- R688. -/ abbrev Reg.PCI_SUBSYS : Nat := 0x130008
/-- R688. -/ abbrev Reg.PCI_GRN_HOST_BASE : Nat := 0x130010
/-- R688. -/ abbrev Reg.PCI_GRN_HOST_SIZE : Nat := 0x130014
/-- R688. -/ abbrev Reg.PCI_ERR_UR : Nat := 0x130020
/-- R688. -/ abbrev Reg.PCI_GRN_DENY : Nat := 0x130024
/-- R688. -/ abbrev Reg.PCI_POISON_TX : Nat := 0x130028
/-- R688. -/ abbrev Reg.PCI_POISON_RX : Nat := 0x13002C
/-- R688. -/ abbrev Reg.PCI_DRAM_OFF : Nat := 0x130030
/-- R688. -/ abbrev Reg.PCI_AER_CE : Nat := 0x130034
/-- R689. -/ abbrev Reg.MGE_CTL : Nat := 0x140000
/-- R689. -/ abbrev Reg.MGE_STATUS : Nat := 0x140004
/-- R689. -/ abbrev Reg.MGE_IPV4 : Nat := 0x140008
/-- R689. -/ abbrev Reg.MGE_PORT : Nat := 0x14000C
/-- R689. -/ abbrev Reg.MGE_MAC_LO : Nat := 0x140010
/-- R689. -/ abbrev Reg.MGE_MAC_HI : Nat := 0x140014
/-- R689. -/ abbrev Reg.MGE_ALLOW (i : Nat) : Nat := 0x140020 + 0x4 * i
/-- R689. -/ abbrev Reg.MGE_EVT_DST : Nat := 0x140030
/-- R689. -/ abbrev Reg.MGE_EVT_PORT : Nat := 0x140034
/-- R689. -/ abbrev Reg.MGE_RX_REQ : Nat := 0x140040
/-- R689. -/ abbrev Reg.MGE_RX_BAD : Nat := 0x140044
/-- R689. -/ abbrev Reg.MGE_RX_DENY : Nat := 0x140048
/-- R689. -/ abbrev Reg.MGE_REPLAY : Nat := 0x14004C
/-- R690. -/ abbrev Reg.DBG_UART_CTL : Nat := 0x150000
/-- R690. -/ abbrev Reg.DBG_MON_CTL : Nat := 0x150004
/-- R690. -/ abbrev Reg.DBG_MON_STATUS : Nat := 0x150008
/-- R690. -/ abbrev Reg.DBG_MON_WRITES : Nat := 0x15000C
/-- R690. -/ abbrev Reg.DBG_TAP_STATUS : Nat := 0x150010
/-- R669. -/ abbrev Reg.PCI_MSIX_ADDR_LO (i : Nat) : Nat := 0x138000 + 0x10 * i
/-- R669. -/ abbrev Reg.PCI_MSIX_ADDR_HI (i : Nat) : Nat := 0x138004 + 0x10 * i
/-- R669. -/ abbrev Reg.PCI_MSIX_DATA (i : Nat) : Nat := 0x138008 + 0x10 * i
/-- R669. -/ abbrev Reg.PCI_MSIX_VCTL (i : Nat) : Nat := 0x13800C + 0x10 * i
/-- R669. -/ abbrev Reg.PCI_MSIX_PBA (i : Nat) : Nat := 0x13A000 + 0x4 * i
/-- R188. -/ abbrev Reg.Q_CTL (i : Nat) : Nat := 0x1000000 + 0x40 * i
/-- R188. -/ abbrev Reg.Q_STAT (i : Nat) : Nat := 0x1000004 + 0x40 * i
/-- R188. -/ abbrev Reg.Q_OUT_BASE_LO (i : Nat) : Nat := 0x1000008 + 0x40 * i
/-- R188. -/ abbrev Reg.Q_OUT_BASE_HI (i : Nat) : Nat := 0x100000C + 0x40 * i
/-- R188. -/ abbrev Reg.Q_IN_BASE_LO (i : Nat) : Nat := 0x1000010 + 0x40 * i
/-- R188. -/ abbrev Reg.Q_IN_BASE_HI (i : Nat) : Nat := 0x1000014 + 0x40 * i
/-- R188. -/ abbrev Reg.Q_OUT_IDX (i : Nat) : Nat := 0x1000018 + 0x40 * i
/-- R188. -/ abbrev Reg.Q_IN_IDX (i : Nat) : Nat := 0x100001C + 0x40 * i
/-- R188. -/ abbrev Reg.Q_POSTED (i : Nat) : Nat := 0x1000020 + 0x40 * i
/-- R188. -/ abbrev Reg.Q_COMPLETED (i : Nat) : Nat := 0x1000024 + 0x40 * i
/-- R188. -/ abbrev Reg.Q_DISCARDED (i : Nat) : Nat := 0x1000028 + 0x40 * i
/-- R188. -/ abbrev Reg.Q_PENDING (i : Nat) : Nat := 0x100002C + 0x40 * i
/-- R188. -/ abbrev Reg.Q_IRQ (i : Nat) : Nat := 0x1000030 + 0x40 * i
/-- R188. -/ abbrev Reg.Q_TIMEOUT (i : Nat) : Nat := 0x1000034 + 0x40 * i
/-- R188. -/ abbrev Reg.Q_IN_DROP (i : Nat) : Nat := 0x1000038 + 0x40 * i
/-- R84. -/ abbrev Reg.AON_SEC_LO : Nat := 0x10000
/-- R84. -/ abbrev Reg.AON_SEC_HI : Nat := 0x10004
/-- R84. -/ abbrev Reg.AON_SUBSEC : Nat := 0x10008
/-- R84. -/ abbrev Reg.AON_SEC_SET_LO : Nat := 0x10010
/-- R84. -/ abbrev Reg.AON_SEC_SET_HI : Nat := 0x10014
/-- R84. -/ abbrev Reg.AON_SEC_CTL : Nat := 0x10018

/-! ### The rows, block by block -/

/-- Register rows of the GLB window (R58). -/
def rowsGlb : List RegRow := [
  ⟨0x0, 0x4, 1, 0x4, 1, 0x0, 0x0, 0x0, false, false, 0x0⟩,
  ⟨0x4, 0x4, 1, 0x4, 1, 0x0, 0x0, 0x0, false, false, 0x0⟩,
  ⟨0x8, 0x4, 1, 0x4, 1, 0x0, 0x0, 0x0, false, false, 0x0⟩,
  ⟨0xC, 0x4, 1, 0x4, 1, 0x0, 0x0, 0x0, false, false, 0x0⟩,
  ⟨0x10, 0x4, 4, 0x4, 1, 0x0, 0x0, 0x0, false, false, 0x0⟩,
  ⟨0x20, 0x4, 1, 0x4, 1, 0xFFFFFFFF, 0x0, 0x0, false, true, 0x0⟩,
  ⟨0x30, 0x4, 1, 0x4, 1, 0xFFFF0100, 0x2, 0x1, false, false, 0x0⟩,
  ⟨0x34, 0x4, 1, 0x4, 1, 0xFFFFFFFF, 0x0, 0x0, false, false, 0x0⟩,
  ⟨0x38, 0x4, 1, 0x4, 1, 0xFFFFFFFF, 0x0, 0x0, false, false, 0x3200C8⟩,
  ⟨0x3C, 0x4, 1, 0x4, 1, 0x0, 0x0, 0x0, false, false, 0x0⟩,
  ⟨0x40, 0x4, 1, 0x4, 1, 0x0, 0x0, 0x0, false, false, 0x0⟩,
  ⟨0x44, 0x4, 1, 0x4, 1, 0x0, 0x0, 0x0, true, false, 0x0⟩,
  ⟨0x50, 0x4, 1, 0x4, 1, 0x0, 0x0, 0x0, false, false, 0x0⟩,
  ⟨0x54, 0x4, 1, 0x4, 1, 0x0, 0x0, 0x0, false, false, 0x0⟩,
  ⟨0x58, 0x4, 1, 0x4, 1, 0x0, 0x0, 0x0, false, false, 0x0⟩,
  ⟨0x5C, 0x4, 1, 0x4, 1, 0x0, 0x0, 0x0, false, false, 0x0⟩,
  ⟨0x60, 0x4, 1, 0x4, 1, 0x0, 0xFF, 0x0, false, false, 0x0⟩,
  ⟨0x80, 0x4, 1, 0x4, 1, 0x1007F, 0x60000000, 0x100, false, false, 0x0⟩,
  ⟨0x88, 0x4, 1, 0x4, 1, 0x0, 0x0, 0x0, false, false, 0x0⟩,
  ⟨0x8C, 0x4, 1, 0x4, 1, 0x0, 0x0, 0x0, false, false, 0x0⟩,
  ⟨0x100, 0x4, 64, 0x4, 1, 0xFFFFFFC, 0x0, 0x0, false, false, 0x0⟩,
  ⟨0x200, 0x4, 64, 0x4, 1, 0x0, 0x0, 0x0, false, false, 0x0⟩]

/-- Register rows of the AON window (R84, R654). -/
def rowsAon : List RegRow := [
  ⟨0x10100, 0x4, 1, 0x4, 1, 0x0, 0x0, 0x40000000, false, false, 0x0⟩,
  ⟨0x10104, 0x4, 1, 0x4, 1, 0x0, 0x0, 0x0, false, false, 0x0⟩,
  ⟨0x10108, 0x4, 1, 0x4, 1, 0x0, 0x0, 0x0, false, false, 0x0⟩,
  ⟨0x1010C, 0x4, 1, 0x4, 1, 0x0, 0x0, 0x0, false, false, 0x0⟩,
  ⟨0x10110, 0x4, 1, 0x4, 1, 0x0, 0x0, 0x0, false, false, 0x0⟩,
  ⟨0x10120, 0x4, 8, 0x4, 1, 0xFFFFFFFF, 0x0, 0x0, false, false, 0x0⟩,
  ⟨0x10000, 0x4, 1, 0x4, 1, 0x0, 0x0, 0x0, false, false, 0x0⟩,
  ⟨0x10004, 0x4, 1, 0x4, 1, 0x0, 0x0, 0x0, false, false, 0x0⟩,
  ⟨0x10008, 0x4, 1, 0x4, 1, 0x0, 0x0, 0x0, false, false, 0x0⟩,
  ⟨0x10010, 0x4, 1, 0x4, 1, 0xFFFFFFFF, 0x0, 0x0, false, false, 0x0⟩,
  ⟨0x10014, 0x4, 1, 0x4, 1, 0xFFFF, 0x0, 0x0, false, false, 0x0⟩,
  ⟨0x10018, 0x4, 1, 0x4, 1, 0x0, 0x0, 0x1, false, false, 0x0⟩]

/-- Register rows of the BOOT window (R659). -/
def rowsBoot : List RegRow := [
  ⟨0x20000, 0x4, 1, 0x4, 1, 0x0, 0x0, 0x0, false, false, 0x0⟩,
  ⟨0x20004, 0x4, 1, 0x4, 1, 0x0, 0x0, 0x1, false, false, 0x0⟩,
  ⟨0x20008, 0x4, 1, 0x4, 1, 0x0, 0x0, 0x0, false, false, 0x0⟩,
  ⟨0x20010, 0x4, 1, 0x4, 1, 0xFF0F000F, 0x0, 0x0, false, false, 0x0⟩,
  ⟨0x20014, 0x4, 1, 0x4, 1, 0xFFFFFFFF, 0x0, 0x0, false, false, 0x0⟩,
  ⟨0x20018, 0x4, 1, 0x4, 1, 0xFFFFFFFF, 0x0, 0x0, false, false, 0x0⟩,
  ⟨0x2001C, 0x4, 1, 0x4, 1, 0xFFFFFFFF, 0x0, 0x0, false, false, 0x0⟩,
  ⟨0x20020, 0x4, 1, 0x4, 1, 0x0, 0x0, 0x0, false, false, 0x0⟩,
  ⟨0x20024, 0x4, 1, 0x4, 1, 0x0, 0x0, 0x0, false, false, 0x0⟩,
  ⟨0x20030, 0x4, 2, 0x4, 1, 0x0, 0x0, 0x0, false, false, 0x0⟩,
  ⟨0x20038, 0x4, 2, 0x4, 1, 0x0, 0x0, 0x0, false, false, 0x0⟩,
  ⟨0x20040, 0x4, 2, 0x4, 1, 0x0, 0x0, 0x0, false, false, 0x0⟩,
  ⟨0x20048, 0x4, 2, 0x4, 1, 0x0, 0x0, 0x0, false, false, 0x0⟩,
  ⟨0x20050, 0x4, 1, 0x4, 1, 0x0, 0x0, 0x0, false, false, 0x0⟩,
  ⟨0x20054, 0x4, 1, 0x4, 1, 0x0, 0x0, 0x0, false, false, 0x0⟩,
  ⟨0x20058, 0x4, 1, 0x4, 1, 0x0, 0x0, 0x0, true, false, 0x0⟩,
  ⟨0x20080, 0x4, 11, 0x4, 1, 0x0, 0x0, 0x0, false, false, 0x1000100⟩,
  ⟨0x28000, 0x4, 8192, 0x4, 1, 0xFFFFFFFF, 0x0, 0x0, false, false, 0x0⟩]

/-- Register rows of the EVT window (R624). -/
def rowsEvt : List RegRow := [
  ⟨0x30000, 0x4, 1, 0x4, 1, 0x7, 0x0, 0x0, false, false, 0x6⟩,
  ⟨0x30004, 0x4, 1, 0x4, 1, 0x0, 0x0, 0x0, false, false, 0x0⟩,
  ⟨0x30008, 0x4, 1, 0x4, 1, 0xFFFFF000, 0x0, 0x0, false, false, 0x0⟩,
  ⟨0x3000C, 0x4, 1, 0x4, 1, 0xFF, 0x0, 0x0, false, false, 0x0⟩,
  ⟨0x30010, 0x4, 1, 0x4, 1, 0x1F, 0x0, 0x0, false, false, 0x14⟩,
  ⟨0x30014, 0x4, 1, 0x4, 1, 0x0, 0x0, 0x0, false, false, 0x0⟩,
  ⟨0x30018, 0x4, 1, 0x4, 1, 0xFFFFFFFF, 0x0, 0x0, false, false, 0x0⟩,
  ⟨0x3001C, 0x4, 1, 0x4, 1, 0xFFFF, 0x0, 0x0, false, false, 0x64⟩,
  ⟨0x30020, 0x4, 1, 0x4, 1, 0xFFFF, 0x0, 0x0, false, false, 0x0⟩,
  ⟨0x30030, 0x4, 1, 0x4, 1, 0x0, 0x0, 0x0, false, false, 0x0⟩,
  ⟨0x30034, 0x4, 1, 0x4, 1, 0x0, 0x0, 0x0, false, false, 0x0⟩,
  ⟨0x30038, 0x4, 1, 0x4, 1, 0x0, 0x0, 0x0, false, false, 0x0⟩,
  ⟨0x3003C, 0x4, 1, 0x4, 1, 0x0, 0x0, 0x0, false, false, 0x0⟩,
  ⟨0x30040, 0x4, 1, 0x4, 1, 0x0, 0x0, 0x0, false, false, 0x0⟩,
  ⟨0x30044, 0x4, 1, 0x4, 1, 0x0, 0x0, 0x0, false, false, 0x0⟩,
  ⟨0x30048, 0x4, 1, 0x4, 1, 0xFFFFFFFF, 0x0, 0x0, false, false, 0x0⟩,
  ⟨0x3004C, 0x4, 1, 0x4, 1, 0x0, 0x0, 0x0, true, false, 0x0⟩,
  ⟨0x30200, 0x4, 16, 0x4, 1, 0x0, 0xFFFFFFFF, 0x0, false, false, 0x0⟩,
  ⟨0x31000, 0x4, 512, 0x4, 1, 0xF00001FF, 0x0, 0x0, false, false, 0x80000000⟩,
  ⟨0x32000, 0x4, 512, 0x4, 1, 0x0, 0x0, 0x0, true, false, 0x0⟩,
  ⟨0x33000, 0x4, 512, 0x4, 1, 0x0, 0x0, 0x0, false, false, 0x0⟩,
  ⟨0x38000, 0x4, 8192, 0x4, 1, 0x0, 0x0, 0x0, false, false, 0x0⟩]

/-- Register rows of the TMB window (R112, R116). -/
def rowsTmbA : List RegRow := [
  ⟨0x40000, 0x100, 8, 0x100, 1, 0x0, 0x0, 0x0, false, false, 0x0⟩,
  ⟨0x40004, 0x100, 8, 0x100, 1, 0x0, 0x0, 0x0, false, false, 0x0⟩,
  ⟨0x40008, 0x100, 8, 0x100, 1, 0xFFFFFFFF, 0x0, 0x0, false, false, 0x0⟩,
  ⟨0x4000C, 0x100, 8, 0x100, 1, 0xF3, 0x0, 0x100, false, false, 0x0⟩,
  ⟨0x40010, 0x100, 8, 0x100, 1, 0xFF1FFF1F, 0x0, 0x0, false, false, 0x8605860A⟩,
  ⟨0x40014, 0x100, 8, 0x100, 1, 0x7FFFFFFF, 0x0, 0x0, false, false, 0x7FFFFFFF⟩,
  ⟨0x40018, 0x100, 8, 0x100, 1, 0xFFFFFFFF, 0x0, 0x0, false, false, 0x1900050⟩,
  ⟨0x4001C, 0x100, 8, 0x100, 1, 0x0, 0x0, 0x0, false, false, 0x0⟩,
  ⟨0x40020, 0x100, 8, 0x100, 1, 0x0, 0x0, 0x0, false, false, 0x0⟩,
  ⟨0x40024, 0x100, 8, 0x100, 1, 0x0, 0x0, 0x0, false, false, 0x0⟩,
  ⟨0x40028, 0x100, 8, 0x100, 1, 0x0, 0x0, 0x0, false, false, 0x0⟩,
  ⟨0x4002C, 0x100, 8, 0x100, 1, 0x0, 0x0, 0x0, false, false, 0x0⟩,
  ⟨0x40030, 0x100, 8, 0x100, 1, 0xFFFFFFFF, 0x0, 0x0, false, false, 0x0⟩,
  ⟨0x40034, 0x100, 8, 0x100, 1, 0xFFFFFFFF, 0x0, 0x0, false, false, 0x0⟩,
  ⟨0x40038, 0x100, 8, 0x100, 1, 0xFFFFFFFF, 0x0, 0x0, false, false, 0xF4240⟩,
  ⟨0x4003C, 0x100, 8, 0x100, 1, 0x7FFFF, 0x0, 0x0, false, false, 0x40⟩,
  ⟨0x40800, 0x4, 1, 0x4, 1, 0x1F, 0x0, 0x0, false, true, 0x9⟩,
  ⟨0x40804, 0x4, 1, 0x4, 1, 0xFFFFFFFF, 0x0, 0x0, false, true, 0x0⟩,
  ⟨0x40808, 0x4, 1, 0x4, 1, 0xFFFFFFFF, 0x0, 0x0, false, false, 0x0⟩,
  ⟨0x4080C, 0x4, 1, 0x4, 1, 0xF, 0x0, 0x0, false, false, 0x0⟩,
  ⟨0x40810, 0x4, 1, 0x4, 1, 0xFFFFFFFF, 0x0, 0x0, false, false, 0x0⟩,
  ⟨0x40814, 0x4, 1, 0x4, 1, 0x0, 0x0, 0x1, false, false, 0x0⟩,
  ⟨0x40818, 0x4, 1, 0x4, 1, 0x0, 0x0, 0x0, false, false, 0x0⟩,
  ⟨0x40820, 0x4, 1, 0x4, 1, 0x0, 0x0, 0x0, false, false, 0x0⟩,
  ⟨0x40824, 0x4, 1, 0x4, 1, 0x0, 0x0, 0x0, false, false, 0x0⟩,
  ⟨0x40840, 0x4, 1, 0x4, 1, 0xFF, 0x0, 0x0, false, false, 0x1⟩,
  ⟨0x40848, 0x4, 1, 0x4, 1, 0x0, 0x0, 0x0, false, false, 0x0⟩,
  ⟨0x4084C, 0x4, 1, 0x4, 1, 0x0, 0x0, 0x0, false, false, 0x0⟩,
  ⟨0x40A00, 0x4, 1, 0x4, 1, 0xFFFFFFF7, 0x0, 0x0, false, false, 0x3E807D0⟩,
  ⟨0x40A10, 0x4, 4, 0x4, 1, 0x0, 0x0, 0x0, false, false, 0x0⟩]

/-- Register rows of the TMB window (R116). -/
def rowsTmbB : List RegRow := [
  ⟨0x40A20, 0x4, 4, 0x4, 1, 0xFFFFFFFF, 0x0, 0x0, false, false, 0x0⟩,
  ⟨0x40A30, 0x4, 4, 0x4, 1, 0x0, 0x0, 0x0, true, false, 0x0⟩,
  ⟨0x40C00, 0x4, 1, 0x4, 1, 0xF7F03, 0x0, 0x0, false, false, 0x87F00⟩,
  ⟨0x40C08, 0x4, 1, 0x4, 1, 0x0, 0x0, 0x0, false, false, 0x0⟩,
  ⟨0x40C0C, 0x4, 1, 0x4, 1, 0x0, 0x0, 0x0, false, false, 0x0⟩,
  ⟨0x40C10, 0x4, 1, 0x4, 1, 0x0, 0x0, 0x0, false, false, 0x0⟩,
  ⟨0x40C14, 0x4, 1, 0x4, 1, 0x0, 0x0, 0x0, false, false, 0x0⟩,
  ⟨0x40C18, 0x4, 1, 0x4, 1, 0x0, 0x0, 0x0, false, false, 0x0⟩]

/-- Register rows of the SLK window (R167). -/
def rowsSlk : List RegRow := [
  ⟨0x50000, 0x4000, 4, 0x4000, 1, 0x201, 0x0, 0x100, false, false, 0x0⟩,
  ⟨0x50004, 0x4000, 4, 0x4000, 1, 0x0, 0x0, 0x0, false, false, 0x0⟩,
  ⟨0x50008, 0x4000, 4, 0x4000, 1, 0x803F3F0F, 0x0, 0x0, false, false, 0x5⟩,
  ⟨0x5000C, 0x4000, 4, 0x4000, 1, 0x0, 0x0, 0x0, false, false, 0x0⟩,
  ⟨0x50010, 0x4000, 4, 0x4, 4, 0x0, 0x0, 0x0, false, false, 0x0⟩,
  ⟨0x50020, 0x4000, 4, 0x4, 4, 0x0, 0x0, 0x0, false, false, 0x0⟩,
  ⟨0x50030, 0x4000, 4, 0x4000, 1, 0x0, 0x0, 0x0, false, false, 0x0⟩,
  ⟨0x50034, 0x4000, 4, 0x4000, 1, 0xFF, 0x0, 0x0, false, false, 0x40⟩,
  ⟨0x50040, 0x4000, 4, 0x4, 4, 0x0, 0x0, 0x0, false, false, 0x0⟩,
  ⟨0x50050, 0x4000, 4, 0x4, 4, 0x0, 0x0, 0x0, false, false, 0x0⟩,
  ⟨0x50060, 0x4000, 4, 0x4000, 1, 0x0, 0x0, 0x0, false, false, 0x0⟩,
  ⟨0x50064, 0x4000, 4, 0x4000, 1, 0x0, 0x0, 0x0, true, false, 0x0⟩,
  ⟨0x50080, 0x4000, 4, 0x4000, 1, 0x0, 0x0, 0x0, false, false, 0x0⟩,
  ⟨0x50084, 0x4000, 4, 0x4000, 1, 0x0, 0x0, 0x0, false, false, 0x0⟩,
  ⟨0x50088, 0x4000, 4, 0x4000, 1, 0x0, 0x0, 0x0, true, false, 0x0⟩,
  ⟨0x5008C, 0x4000, 4, 0x4000, 1, 0x0, 0x0, 0x0, true, false, 0x0⟩,
  ⟨0x50090, 0x4000, 4, 0x4000, 1, 0x0, 0x0, 0x0, true, false, 0x0⟩,
  ⟨0x50094, 0x4000, 4, 0x4000, 1, 0x0, 0x0, 0x0, true, false, 0x0⟩,
  ⟨0x50098, 0x4000, 4, 0x4000, 1, 0x0, 0x0, 0x0, true, false, 0x0⟩,
  ⟨0x5009C, 0x4000, 4, 0x4000, 1, 0x0, 0x0, 0x0, true, false, 0x0⟩,
  ⟨0x500A0, 0x4000, 4, 0x4000, 1, 0x0, 0x0, 0x0, true, false, 0x0⟩,
  ⟨0x500A4, 0x4000, 4, 0x4000, 1, 0x0, 0x0, 0x0, true, false, 0x0⟩,
  ⟨0x500A8, 0x4000, 4, 0x4000, 1, 0x0, 0x0, 0x0, true, false, 0x0⟩,
  ⟨0x500AC, 0x4000, 4, 0x4000, 1, 0x0, 0x0, 0x0, true, false, 0x0⟩,
  ⟨0x500B0, 0x4000, 4, 0x4000, 1, 0x0, 0x0, 0x0, true, false, 0x0⟩,
  ⟨0x500B4, 0x4000, 4, 0x4000, 1, 0x0, 0x0, 0x0, true, false, 0x0⟩,
  ⟨0x500B8, 0x4000, 4, 0x4000, 1, 0x0, 0x0, 0x0, true, false, 0x0⟩]

/-- Register rows of the SXQ window (R212). -/
def rowsSxq : List RegRow := [
  ⟨0x60000, 0x4, 1, 0x4, 1, 0x11, 0x0, 0x0, false, false, 0x1⟩,
  ⟨0x60008, 0x4, 1, 0x4, 1, 0x3FF, 0x0, 0x0, false, false, 0x0⟩,
  ⟨0x60010, 0x4, 4, 0x4, 1, 0xE00003FF, 0x0, 0x0, false, false, 0x0⟩,
  ⟨0x60020, 0x4, 4, 0x4, 1, 0x0, 0x0, 0x0, false, false, 0x0⟩,
  ⟨0x60030, 0x4, 1, 0x4, 1, 0xFFFF01F0, 0x0, 0x1, false, false, 0x50100⟩,
  ⟨0x60034, 0x4, 1, 0x4, 1, 0x0, 0x0, 0x0, false, false, 0x0⟩,
  ⟨0x60040, 0x4, 1, 0x4, 1, 0x0, 0x0, 0x0, true, false, 0x0⟩,
  ⟨0x60044, 0x4, 1, 0x4, 1, 0x0, 0x0, 0x0, true, false, 0x0⟩,
  ⟨0x60048, 0x4, 1, 0x4, 1, 0x0, 0x0, 0x0, true, false, 0x0⟩,
  ⟨0x6004C, 0x4, 1, 0x4, 1, 0x0, 0x0, 0x0, true, false, 0x0⟩,
  ⟨0x60050, 0x4, 1, 0x4, 1, 0x0, 0x0, 0x0, true, false, 0x0⟩,
  ⟨0x68000, 0x4, 4096, 0x4, 1, 0x0, 0x0, 0x0, false, false, 0x0⟩]

/-- Register rows of the RED window (R246). -/
def rowsRed : List RegRow := [
  ⟨0x70000, 0x4, 1, 0x4, 1, 0x1F, 0x0, 0x0, false, false, 0x1F⟩,
  ⟨0x70010, 0x4, 1, 0x4, 1, 0xFFFFF, 0x0, 0x0, false, false, 0x20064⟩,
  ⟨0x70028, 0x4, 1, 0x4, 1, 0xFFFFFFFF, 0x0, 0x0, false, false, 0xFFFFFFFF⟩,
  ⟨0x7002C, 0x4, 1, 0x4, 1, 0xFFFFFFFF, 0x0, 0x0, false, false, 0xFFFFFFFF⟩,
  ⟨0x70040, 0x4, 1, 0x4, 1, 0x0, 0x0, 0x0, true, false, 0x0⟩,
  ⟨0x70044, 0x4, 1, 0x4, 1, 0x0, 0x0, 0x0, true, false, 0x0⟩,
  ⟨0x70048, 0x4, 1, 0x4, 1, 0x0, 0x0, 0x0, true, false, 0x0⟩,
  ⟨0x7004C, 0x4, 1, 0x4, 1, 0x0, 0x0, 0x0, true, false, 0x0⟩,
  ⟨0x70050, 0x4, 1, 0x4, 1, 0x0, 0x0, 0x0, true, false, 0x0⟩,
  ⟨0x70054, 0x4, 1, 0x4, 1, 0x0, 0x0, 0x0, true, false, 0x0⟩,
  ⟨0x70058, 0x4, 1, 0x4, 1, 0x0, 0x0, 0x0, true, false, 0x0⟩,
  ⟨0x7005C, 0x4, 1, 0x4, 1, 0x0, 0x0, 0x0, true, false, 0x0⟩,
  ⟨0x70060, 0x4, 1, 0x4, 1, 0x0, 0x0, 0x0, true, false, 0x0⟩,
  ⟨0x70100, 0x40, 4, 0x40, 1, 0x0, 0x0, 0x0, false, false, 0x0⟩,
  ⟨0x70104, 0x40, 4, 0x40, 1, 0xFFFFFFFF, 0x0, 0x0, false, false, 0x0⟩,
  ⟨0x70108, 0x40, 4, 0x40, 1, 0x0, 0x0, 0xF, false, false, 0x0⟩,
  ⟨0x7010C, 0x40, 4, 0x40, 1, 0x0, 0x0, 0x0, false, false, 0x0⟩,
  ⟨0x70110, 0x40, 4, 0x4, 4, 0x0, 0x0, 0x0, false, false, 0x0⟩,
  ⟨0x70120, 0x40, 4, 0x40, 1, 0x0, 0x0, 0x0, false, false, 0x0⟩,
  ⟨0x70124, 0x40, 4, 0x40, 1, 0x0, 0x0, 0x0, true, false, 0x0⟩,
  ⟨0x70128, 0x40, 4, 0x40, 1, 0x0, 0x0, 0x0, true, false, 0x0⟩,
  ⟨0x7012C, 0x40, 4, 0x40, 1, 0x0, 0x0, 0x0, true, false, 0x0⟩,
  ⟨0x70130, 0x40, 4, 0x40, 1, 0x0, 0x0, 0x0, true, false, 0x0⟩]

/-- Register rows of the INP window (R281). -/
def rowsInpA : List RegRow := [
  ⟨0x80000, 0x4, 1, 0x4, 1, 0x1, 0x0, 0x0, false, false, 0x1⟩,
  ⟨0x80004, 0x4, 1, 0x4, 1, 0x0, 0x0, 0x0, false, false, 0x0⟩,
  ⟨0x80008, 0x4, 1, 0x4, 1, 0x0, 0x0, 0x0, false, false, 0x0⟩,
  ⟨0x8000C, 0x4, 1, 0x4, 1, 0x0, 0x0, 0x0, false, false, 0x0⟩,
  ⟨0x80100, 0x20, 4, 0x20, 1, 0x0, 0x0, 0x0, false, false, 0x0⟩,
  ⟨0x80104, 0x20, 4, 0x20, 1, 0x0, 0x0, 0x0, true, false, 0x0⟩,
  ⟨0x80108, 0x20, 4, 0x20, 1, 0x0, 0x0, 0x0, false, false, 0x0⟩,
  ⟨0x80200, 0x40, 2, 0x40, 1, 0x7, 0x0, 0x0, false, false, 0x3⟩,
  ⟨0x80204, 0x40, 2, 0x40, 1, 0x0, 0x0, 0x0, false, false, 0x0⟩,
  ⟨0x80208, 0x40, 2, 0x40, 1, 0x0, 0x0, 0x0, true, false, 0x0⟩,
  ⟨0x8020C, 0x40, 2, 0x40, 1, 0x0, 0x0, 0x0, true, false, 0x0⟩,
  ⟨0x80210, 0x40, 2, 0x40, 1, 0x0, 0x0, 0x0, true, false, 0x0⟩,
  ⟨0x80214, 0x40, 2, 0x40, 1, 0xFFFFFFFF, 0x0, 0x0, false, false, 0x0⟩,
  ⟨0x80218, 0x40, 2, 0x40, 1, 0x0, 0x0, 0x0, false, false, 0x0⟩,
  ⟨0x8021C, 0x40, 2, 0x40, 1, 0x0, 0x0, 0x0, false, false, 0x0⟩,
  ⟨0x81000, 0x100, 16, 0x100, 1, 0xFFFFFC00, 0x0, 0x0, false, true, 0x90000⟩,
  ⟨0x81004, 0x100, 16, 0x100, 1, 0xFFFF0000, 0x0, 0x0, false, true, 0x48400000⟩,
  ⟨0x81008, 0x100, 16, 0x100, 1, 0xFFFFFFFF, 0x0, 0x0, false, true, 0x0⟩,
  ⟨0x8100C, 0x100, 16, 0x100, 1, 0x3FFFFFFF, 0x0, 0x0, false, true, 0x4080200⟩,
  ⟨0x81010, 0x100, 16, 0x100, 1, 0xFFFFFFFF, 0x0, 0x0, false, true, 0x0⟩,
  ⟨0x81014, 0x100, 16, 0x100, 1, 0xFF, 0x0, 0x0, false, true, 0x0⟩,
  ⟨0x81018, 0x100, 16, 0x100, 1, 0xFFFFFFFF, 0x0, 0x0, false, true, 0x0⟩,
  ⟨0x8101C, 0x100, 16, 0x100, 1, 0xFFFFFFFF, 0x0, 0x0, false, true, 0x0⟩,
  ⟨0x81020, 0x100, 16, 0x100, 1, 0xFFFFFFFF, 0x0, 0x0, false, true, 0x0⟩,
  ⟨0x81024, 0x100, 16, 0x100, 1, 0xFFFFFFFF, 0x0, 0x0, false, true, 0x0⟩,
  ⟨0x81028, 0x100, 16, 0x100, 1, 0x17FFFFF, 0x0, 0x0, false, true, 0x0⟩,
  ⟨0x81030, 0x100, 16, 0x100, 1, 0xFFFFFFFF, 0x0, 0x0, false, false, 0x0⟩,
  ⟨0x81034, 0x100, 16, 0x100, 1, 0xFFFFFFFF, 0x0, 0x0, false, false, 0x0⟩,
  ⟨0x81038, 0x100, 16, 0x100, 1, 0xFFFFFFFF, 0x0, 0x0, false, false, 0x0⟩,
  ⟨0x8103C, 0x100, 16, 0x100, 1, 0x0, 0x0, 0x0, false, false, 0x0⟩]

/-- Register rows of the INP window (R281). -/
def rowsInpB : List RegRow := [
  ⟨0x81040, 0x100, 16, 0x100, 1, 0x0, 0x0, 0x0, false, false, 0xFB0000⟩,
  ⟨0x81044, 0x100, 16, 0x100, 1, 0x0, 0x0, 0x0, false, false, 0x0⟩,
  ⟨0x81048, 0x100, 16, 0x100, 1, 0x0, 0x0, 0x0, false, false, 0x0⟩,
  ⟨0x8104C, 0x100, 16, 0x100, 1, 0x0, 0x0, 0x0, false, false, 0x0⟩,
  ⟨0x81050, 0x100, 16, 0x100, 1, 0x0, 0x0, 0x0, true, false, 0x0⟩,
  ⟨0x81054, 0x100, 16, 0x100, 1, 0x0, 0x0, 0x0, true, false, 0x0⟩,
  ⟨0x81058, 0x100, 16, 0x100, 1, 0x0, 0x0, 0x0, true, false, 0x0⟩,
  ⟨0x8105C, 0x100, 16, 0x100, 1, 0x0, 0x0, 0x0, true, false, 0x0⟩,
  ⟨0x81060, 0x100, 16, 0x100, 1, 0x0, 0x0, 0x0, false, false, 0x0⟩,
  ⟨0x81064, 0x100, 16, 0x100, 1, 0x0, 0x0, 0x0, false, false, 0x0⟩,
  ⟨0x83000, 0x20, 16, 0x20, 1, 0xFC3F7F00, 0x0, 0x0, false, true, 0x0⟩,
  ⟨0x83004, 0x20, 16, 0x20, 1, 0xFFFFFFFF, 0x0, 0x0, false, true, 0x0⟩,
  ⟨0x83008, 0x20, 16, 0x20, 1, 0xFFFFFFFF, 0x0, 0x0, false, true, 0x0⟩,
  ⟨0x8300C, 0x20, 16, 0x20, 1, 0xFFFF, 0x0, 0x0, false, true, 0x0⟩,
  ⟨0x83010, 0x20, 16, 0x20, 1, 0x0, 0x0, 0x0, false, false, 0x0⟩]

/-- Register rows of the AUD window (R520). -/
def rowsAudA : List RegRow := [
  ⟨0x90000, 0x4, 1, 0x4, 1, 0x11, 0x0, 0x0, false, true, 0x0⟩,
  ⟨0x90004, 0x4, 1, 0x4, 1, 0xFFFFFFFF, 0x0, 0x0, false, true, 0x4C4B40⟩,
  ⟨0x90008, 0x4, 1, 0x4, 1, 0xFFFFFFFF, 0x0, 0x0, false, false, 0x0⟩,
  ⟨0x9000C, 0x4, 1, 0x4, 1, 0xFFFFFFFF, 0x0, 0x0, false, false, 0x0⟩,
  ⟨0x90010, 0x4, 1, 0x4, 1, 0xFFFFFFFF, 0x0, 0x0, false, false, 0x0⟩,
  ⟨0x90014, 0x4, 1, 0x4, 1, 0x0, 0x0, 0x1, false, false, 0x0⟩,
  ⟨0x90018, 0x4, 1, 0x4, 1, 0x0, 0x0, 0x0, false, false, 0x0⟩,
  ⟨0x9001C, 0x4, 1, 0x4, 1, 0x0, 0x0, 0x0, false, false, 0x0⟩,
  ⟨0x90020, 0x4, 1, 0x4, 1, 0xFFFFFFFF, 0x0, 0x0, false, true, 0x0⟩,
  ⟨0x90024, 0x4, 1, 0x4, 1, 0xFF, 0x0, 0x0, false, true, 0x0⟩,
  ⟨0x90030, 0x4, 1, 0x4, 1, 0x0, 0x0, 0x0, true, false, 0x0⟩,
  ⟨0x90034, 0x4, 1, 0x4, 1, 0x0, 0x0, 0x0, true, false, 0x0⟩,
  ⟨0x90038, 0x4, 1, 0x4, 1, 0x0, 0x0, 0x0, true, false, 0x0⟩,
  ⟨0x90100, 0x10, 4, 0x10, 1, 0xC700000F, 0x0, 0x0, false, true, 0x1⟩,
  ⟨0x90104, 0x10, 4, 0x10, 1, 0x0, 0x0, 0x0, false, false, 0x0⟩,
  ⟨0x90108, 0x10, 4, 0x10, 1, 0x0, 0x0, 0x0, false, false, 0x0⟩,
  ⟨0x9010C, 0x10, 4, 0x10, 1, 0x0, 0x0, 0x0, false, false, 0x0⟩,
  ⟨0x90200, 0x10, 16, 0x10, 1, 0xFFF80000, 0x0, 0x0, false, true, 0x0⟩,
  ⟨0x90204, 0x10, 16, 0x10, 1, 0x801F01FF, 0x0, 0x0, false, true, 0x0⟩,
  ⟨0x90208, 0x10, 16, 0x10, 1, 0x1FFFFF, 0x0, 0x0, false, true, 0x0⟩,
  ⟨0x9020C, 0x10, 16, 0x10, 1, 0x0, 0x0, 0x0, false, false, 0x0⟩,
  ⟨0x90400, 0x20, 8, 0x20, 1, 0x0, 0x0, 0x0, false, false, 0x0⟩,
  ⟨0x90404, 0x20, 8, 0x20, 1, 0x0, 0x0, 0x0, false, false, 0x0⟩,
  ⟨0x90408, 0x20, 8, 0x20, 1, 0x0, 0x0, 0x0, false, false, 0x0⟩,
  ⟨0x9040C, 0x20, 8, 0x20, 1, 0x0, 0x0, 0x0, false, false, 0x0⟩,
  ⟨0x90410, 0x20, 8, 0x20, 1, 0x0, 0x0, 0x0, false, false, 0x0⟩,
  ⟨0x90414, 0x20, 8, 0x20, 1, 0x0, 0x0, 0x0, false, false, 0x0⟩,
  ⟨0x90418, 0x20, 8, 0x20, 1, 0x0, 0x0, 0x0, true, false, 0x0⟩,
  ⟨0x90800, 0x10, 32, 0x10, 1, 0xE7FFFFFF, 0x0, 0x0, false, true, 0x0⟩,
  ⟨0x90804, 0x10, 32, 0x10, 1, 0x1FF, 0x0, 0x0, false, true, 0x0⟩]

/-- Register rows of the AUD window (R520). -/
def rowsAudB : List RegRow := [
  ⟨0x90808, 0x10, 32, 0x10, 1, 0x0, 0x0, 0x0, false, false, 0x0⟩]

/-- Register rows of the CMP window (R329). -/
def rowsCmpA : List RegRow := [
  ⟨0xA0000, 0x4, 1, 0x4, 1, 0x7, 0x0, 0x0, false, true, 0x6⟩,
  ⟨0xA0004, 0x4, 1, 0x4, 1, 0xFFF0FFF, 0x0, 0x0, false, true, 0x0⟩,
  ⟨0xA0008, 0x4, 1, 0x4, 1, 0xFFF, 0x0, 0x0, false, true, 0x0⟩,
  ⟨0xA0010, 0x4, 1, 0x4, 1, 0xFFFFFFFF, 0x0, 0x0, false, true, 0x0⟩,
  ⟨0xA0014, 0x4, 1, 0x4, 1, 0xFFFFFFFF, 0x0, 0x0, false, true, 0x0⟩,
  ⟨0xA0020, 0x4, 1, 0x4, 1, 0xFFFFFFFF, 0x0, 0x0, false, true, 0x0⟩,
  ⟨0xA0024, 0x4, 1, 0x4, 1, 0xFF, 0x0, 0x0, false, true, 0x0⟩,
  ⟨0xA0028, 0x4, 1, 0x4, 1, 0xFFFFFFFF, 0x0, 0x0, false, true, 0x0⟩,
  ⟨0xA002C, 0x4, 1, 0x4, 1, 0xFF, 0x0, 0x0, false, true, 0x0⟩,
  ⟨0xA0030, 0x4, 1, 0x4, 1, 0xFFFFFFFF, 0x0, 0x0, false, true, 0x0⟩,
  ⟨0xA0040, 0x4, 1, 0x4, 1, 0x0, 0x0, 0x0, false, false, 0x0⟩,
  ⟨0xA0044, 0x4, 1, 0x4, 1, 0x0, 0x0, 0x0, false, false, 0x0⟩,
  ⟨0xA0048, 0x4, 1, 0x4, 1, 0x0, 0x0, 0x0, false, false, 0x0⟩,
  ⟨0xA004C, 0x4, 1, 0x4, 1, 0x0, 0x0, 0x0, false, false, 0x0⟩,
  ⟨0xA0050, 0x4, 1, 0x4, 1, 0x0, 0x0, 0x0, true, false, 0x0⟩,
  ⟨0xA0054, 0x4, 1, 0x4, 1, 0x0, 0x0, 0x0, true, false, 0x0⟩,
  ⟨0xA0058, 0x4, 1, 0x4, 1, 0x0, 0x0, 0x0, true, false, 0x0⟩,
  ⟨0xA005C, 0x4, 1, 0x4, 1, 0x0, 0x0, 0x0, false, false, 0x0⟩,
  ⟨0xA0060, 0x4, 1, 0x4, 1, 0x0, 0x0, 0x0, false, false, 0x0⟩,
  ⟨0xA0064, 0x4, 1, 0x4, 1, 0x0, 0x0, 0x0, false, false, 0x0⟩,
  ⟨0xA0080, 0x4, 1, 0x4, 1, 0x8000003F, 0x0, 0x0, false, true, 0x80000010⟩,
  ⟨0xA0084, 0x4, 1, 0x4, 1, 0x0, 0x0, 0x0, false, false, 0x0⟩,
  ⟨0xA0088, 0x4, 1, 0x4, 1, 0x0, 0x0, 0x0, false, false, 0x0⟩,
  ⟨0xA008C, 0x4, 1, 0x4, 1, 0x0, 0x0, 0x0, true, false, 0x0⟩,
  ⟨0xA0090, 0x4, 1, 0x4, 1, 0x0, 0x0, 0x0, true, false, 0x0⟩,
  ⟨0xA0400, 0x10, 64, 0x10, 1, 0xFFFFFFFF, 0x0, 0x0, false, true, 0x0⟩,
  ⟨0xA0404, 0x10, 64, 0x10, 1, 0xFFFFFFFF, 0x0, 0x0, false, true, 0x0⟩,
  ⟨0xA0408, 0x10, 64, 0x10, 1, 0x80000001, 0x0, 0x0, false, true, 0x0⟩,
  ⟨0xA040C, 0x10, 64, 0x10, 1, 0x0, 0x0, 0x0, false, false, 0x0⟩,
  ⟨0xA4000, 0x4, 12288, 0x4, 1, 0xFFF0FFF, 0x0, 0x0, false, true, 0x0⟩]

/-- Register rows of the CMP window (R330). -/
def rowsCmpB : List RegRow := [
  ⟨0xA1000, 0x80, 64, 0x80, 1, 0xFFFF0000, 0x0, 0x0, false, true, 0x0⟩,
  ⟨0xA1004, 0x80, 64, 0x80, 1, 0xFFFFFFFF, 0x0, 0x0, false, true, 0x400000⟩,
  ⟨0xA1008, 0x80, 64, 0x80, 1, 0xFFFFFFFF, 0x0, 0x0, false, true, 0x0⟩,
  ⟨0xA100C, 0x80, 64, 0x80, 1, 0xFFFFFFFF, 0x0, 0x0, false, true, 0x0⟩,
  ⟨0xA1010, 0x80, 64, 0x80, 1, 0xFFFFFFFF, 0x0, 0x0, false, true, 0x0⟩,
  ⟨0xA1014, 0x80, 64, 0x80, 1, 0xFFFFFFFF, 0x0, 0x0, false, true, 0x0⟩,
  ⟨0xA1018, 0x80, 64, 0x80, 1, 0xFFFF, 0x0, 0x0, false, true, 0x100⟩,
  ⟨0xA101C, 0x80, 64, 0x80, 1, 0xFFF0FFF, 0x0, 0x0, false, true, 0x0⟩,
  ⟨0xA1020, 0x80, 64, 0x80, 1, 0xFFF0FFF, 0x0, 0x0, false, true, 0xFFF⟩,
  ⟨0xA1024, 0x80, 64, 0x80, 1, 0xFFFFFFFF, 0x0, 0x0, false, true, 0x0⟩,
  ⟨0xA1028, 0x80, 64, 0x80, 1, 0xFF, 0x0, 0x0, false, true, 0x0⟩,
  ⟨0xA102C, 0x80, 64, 0x80, 1, 0xFFFFFFFF, 0x0, 0x0, false, true, 0x0⟩,
  ⟨0xA1030, 0x80, 64, 0x80, 1, 0x3FFF3FFF, 0x0, 0x0, false, true, 0x0⟩,
  ⟨0xA1034, 0x80, 64, 0x80, 1, 0x3FFF3FFF, 0x0, 0x0, false, true, 0x0⟩,
  ⟨0xA1038, 0x80, 64, 0x80, 1, 0x3FFF3FFF, 0x0, 0x0, false, true, 0x0⟩,
  ⟨0xA103C, 0x80, 64, 0x80, 1, 0xFFFFFFFF, 0x0, 0x0, false, true, 0x10000000⟩,
  ⟨0xA1040, 0x80, 64, 0x80, 1, 0xFFFFFFFF, 0x0, 0x0, false, true, 0x0⟩,
  ⟨0xA1044, 0x80, 64, 0x80, 1, 0xFFFFFFFF, 0x0, 0x0, false, true, 0x10000000⟩,
  ⟨0xA1048, 0x80, 64, 0x80, 1, 0xFFFFFFFF, 0x0, 0x0, false, true, 0x0⟩,
  ⟨0xA104C, 0x80, 64, 0x80, 1, 0xFFFF, 0x0, 0x0, false, true, 0x1000⟩,
  ⟨0xA1050, 0x80, 64, 0x80, 1, 0xFFFFFFFF, 0x0, 0x0, false, true, 0x0⟩,
  ⟨0xA1054, 0x80, 64, 0x80, 1, 0xFFFF, 0x0, 0x0, false, true, 0x0⟩,
  ⟨0xA1058, 0x80, 64, 0x80, 1, 0x0, 0x0, 0x0, false, false, 0x0⟩,
  ⟨0xA105C, 0x80, 64, 0x80, 1, 0x0, 0x0, 0x0, false, false, 0x0⟩,
  ⟨0xA1060, 0x80, 64, 0x80, 1, 0x0, 0x0, 0x0, false, false, 0x0⟩]

/-- Register rows of the SCN window (R361). -/
def rowsScnA : List RegRow := [
  ⟨0xB0000, 0x4, 1, 0x4, 1, 0xFFFF0F31, 0x0, 0x0, false, true, 0x320E00⟩,
  ⟨0xB0004, 0x4, 1, 0x4, 1, 0xFFF0FFF, 0x0, 0x0, false, true, 0x0⟩,
  ⟨0xB0008, 0x4, 1, 0x4, 1, 0xFFF, 0x0, 0x0, false, true, 0x0⟩,
  ⟨0xB0010, 0x4, 1, 0x4, 1, 0x0, 0x0, 0x0, false, false, 0x0⟩,
  ⟨0xB0014, 0x4, 1, 0x4, 1, 0x0, 0x0, 0x0, false, false, 0x0⟩,
  ⟨0xB0100, 0x10, 4, 0x10, 1, 0x1FF01FF, 0x0, 0x0, false, true, 0x800040⟩,
  ⟨0xB0104, 0x10, 4, 0x10, 1, 0x0, 0x0, 0x0, false, false, 0x0⟩,
  ⟨0xB0108, 0x10, 4, 0x10, 1, 0x0, 0x0, 0x0, false, false, 0x0⟩,
  ⟨0xB010C, 0x10, 4, 0x10, 1, 0x0, 0x0, 0x0, true, false, 0x0⟩,
  ⟨0xB0140, 0x4, 4, 0x4, 1, 0x0, 0x0, 0x0, true, false, 0x0⟩,
  ⟨0xB0200, 0x4, 1, 0x4, 1, 0xFB37F7F, 0x0, 0x0, false, true, 0x2010⟩,
  ⟨0xB0204, 0x4, 1, 0x4, 1, 0xFFFFFFFF, 0x0, 0x0, false, true, 0x0⟩,
  ⟨0xB0208, 0x4, 1, 0x4, 1, 0xFFFFFFFF, 0x0, 0x0, false, true, 0x0⟩,
  ⟨0xB020C, 0x4, 1, 0x4, 1, 0xFFFFFFFF, 0x0, 0x0, false, true, 0x0⟩,
  ⟨0xB0210, 0x4, 1, 0x4, 1, 0xFFF0FFF, 0x0, 0x0, false, true, 0x0⟩,
  ⟨0xB0214, 0x4, 1, 0x4, 1, 0xFFF, 0x0, 0x0, false, true, 0x0⟩,
  ⟨0xB0218, 0x4, 1, 0x4, 1, 0x0, 0x0, 0x0, false, false, 0x0⟩,
  ⟨0xB021C, 0x4, 1, 0x4, 1, 0x0, 0x0, 0x0, true, false, 0x0⟩,
  ⟨0xB0230, 0x4, 1, 0x4, 1, 0x3FFF3FFF, 0x0, 0x0, false, true, 0x0⟩,
  ⟨0xB0234, 0x4, 1, 0x4, 1, 0x3FFF3FFF, 0x0, 0x0, false, true, 0x0⟩,
  ⟨0xB0238, 0x4, 1, 0x4, 1, 0x3FFF3FFF, 0x0, 0x0, false, true, 0x0⟩,
  ⟨0xB023C, 0x4, 1, 0x4, 1, 0xFFFFFFFF, 0x0, 0x0, false, true, 0x10000000⟩,
  ⟨0xB0240, 0x4, 1, 0x4, 1, 0xFFFFFFFF, 0x0, 0x0, false, true, 0x0⟩,
  ⟨0xB0244, 0x4, 1, 0x4, 1, 0xFFFFFFFF, 0x0, 0x0, false, true, 0x10000000⟩,
  ⟨0xB0248, 0x4, 1, 0x4, 1, 0xFFFFFFFF, 0x0, 0x0, false, true, 0x0⟩,
  ⟨0xB024C, 0x4, 1, 0x4, 1, 0xFFFF, 0x0, 0x0, false, true, 0x1000⟩,
  ⟨0xB1000, 0x20, 256, 0x20, 1, 0x800033FF, 0x0, 0x0, false, true, 0x0⟩,
  ⟨0xB1004, 0x20, 256, 0x20, 1, 0xFFFFFFFF, 0x0, 0x0, false, true, 0x0⟩,
  ⟨0xB1008, 0x20, 256, 0x20, 1, 0xFFFFFFFF, 0x0, 0x0, false, true, 0x0⟩,
  ⟨0xB100C, 0x20, 256, 0x20, 1, 0x0, 0x0, 0x0, false, false, 0x0⟩]

/-- Register rows of the SCN window (R361). -/
def rowsScnB : List RegRow := [
  ⟨0xB1010, 0x20, 256, 0x20, 1, 0x0, 0x0, 0x0, false, false, 0x0⟩,
  ⟨0xB3000, 0x20, 64, 0x20, 1, 0xF00000FF, 0x0, 0x0, false, true, 0x0⟩,
  ⟨0xB3004, 0x20, 64, 0x20, 1, 0xFFFFFFFF, 0x0, 0x0, false, true, 0x0⟩,
  ⟨0xB3008, 0x20, 64, 0x20, 1, 0xFFFFFFFF, 0x0, 0x0, false, true, 0x0⟩,
  ⟨0xB300C, 0x20, 64, 0x20, 1, 0xFFFFFFFF, 0x0, 0x0, false, true, 0x0⟩,
  ⟨0xB3010, 0x20, 64, 0x20, 1, 0x0, 0x0, 0x0, false, false, 0x0⟩,
  ⟨0xB3014, 0x20, 64, 0x20, 1, 0x0, 0x0, 0x0, false, false, 0x0⟩,
  ⟨0xB3018, 0x20, 64, 0x20, 1, 0x0, 0x0, 0x0, true, false, 0x0⟩,
  ⟨0xB8000, 0x4, 1, 0x4, 1, 0x1, 0x0, 0x0, false, true, 0x1⟩,
  ⟨0xB8004, 0x4, 1, 0x4, 1, 0x0, 0x0, 0x0, false, false, 0x0⟩,
  ⟨0xB8008, 0x4, 1, 0x4, 1, 0x0, 0x0, 0x0, true, false, 0x0⟩,
  ⟨0xB8100, 0x20, 64, 0x20, 1, 0x0, 0x0, 0x0, false, false, 0x0⟩,
  ⟨0xB8104, 0x20, 64, 0x20, 1, 0x0, 0x0, 0x0, false, false, 0x0⟩,
  ⟨0xB8108, 0x20, 64, 0x20, 1, 0x0, 0x0, 0x0, false, false, 0x0⟩,
  ⟨0xB810C, 0x20, 64, 0x20, 1, 0x0, 0x0, 0x0, false, false, 0x0⟩,
  ⟨0xB8110, 0x20, 64, 0x20, 1, 0x0, 0x0, 0x0, false, false, 0x0⟩,
  ⟨0xB8114, 0x20, 64, 0x20, 1, 0x0, 0x0, 0x0, true, false, 0x0⟩]

/-- Register rows of the COR window (R397). -/
def rowsCorA : List RegRow := [
  ⟨0xC0000, 0x4, 1, 0x4, 1, 0x7, 0x0, 0x0, false, true, 0x6⟩,
  ⟨0xC0004, 0x4, 1, 0x4, 1, 0x800000FF, 0x0, 0x0, false, true, 0x80000000⟩,
  ⟨0xC0008, 0x4, 1, 0x4, 1, 0xFFFFFFFF, 0x0, 0x0, false, true, 0x0⟩,
  ⟨0xC000C, 0x4, 1, 0x4, 1, 0xF0F0F0F, 0x0, 0x0, false, true, 0x0⟩,
  ⟨0xC0010, 0x4, 1, 0x4, 1, 0xF0F0F0F, 0x0, 0x0, false, true, 0x0⟩,
  ⟨0xC0014, 0x4, 1, 0x4, 1, 0x3, 0x0, 0x0, false, true, 0x2⟩,
  ⟨0xC0018, 0x4, 1, 0x4, 1, 0x1, 0x0, 0x0, false, true, 0x1⟩,
  ⟨0xC0020, 0x4, 1, 0x4, 1, 0xFFFFFFFF, 0x0, 0x0, false, true, 0x0⟩,
  ⟨0xC0024, 0x4, 1, 0x4, 1, 0xFF, 0x0, 0x0, false, true, 0x0⟩,
  ⟨0xC0028, 0x4, 1, 0x4, 1, 0xFFFFFFFF, 0x0, 0x0, false, true, 0x0⟩,
  ⟨0xC002C, 0x4, 1, 0x4, 1, 0xFF, 0x0, 0x0, false, true, 0x0⟩,
  ⟨0xC0030, 0x4, 1, 0x4, 1, 0xFFFFFFFF, 0x0, 0x0, false, true, 0x0⟩,
  ⟨0xC0034, 0x4, 1, 0x4, 1, 0xFF, 0x0, 0x0, false, true, 0x0⟩,
  ⟨0xC0040, 0x4, 1, 0x4, 1, 0x7FF, 0x0, 0x0, false, true, 0x1⟩,
  ⟨0xC0044, 0x4, 1, 0x4, 1, 0xFFFFFF, 0x0, 0x0, false, true, 0x40000⟩,
  ⟨0xC0048, 0x4, 1, 0x4, 1, 0x0, 0x0, 0x0, false, false, 0x0⟩,
  ⟨0xC004C, 0x4, 1, 0x4, 1, 0x0, 0x0, 0x0, false, false, 0x0⟩,
  ⟨0xC0060, 0x4, 1, 0x4, 1, 0x0, 0x0, 0x0, false, false, 0x0⟩,
  ⟨0xC0064, 0x4, 1, 0x4, 1, 0x0, 0x0, 0x0, false, false, 0x0⟩,
  ⟨0xC0068, 0x4, 1, 0x4, 1, 0x0, 0x0, 0x0, false, false, 0x0⟩,
  ⟨0xC0070, 0x4, 1, 0x4, 1, 0x0, 0x0, 0x0, true, false, 0x0⟩,
  ⟨0xC0074, 0x4, 1, 0x4, 1, 0x0, 0x0, 0x0, true, false, 0x0⟩,
  ⟨0xC0078, 0x4, 1, 0x4, 1, 0x0, 0x0, 0x0, true, false, 0x0⟩,
  ⟨0xC007C, 0x4, 1, 0x4, 1, 0x0, 0x0, 0x0, true, false, 0x0⟩,
  ⟨0xC0080, 0x4, 1, 0x4, 1, 0x0, 0x0, 0x0, true, false, 0x0⟩,
  ⟨0xC0100, 0x20, 8, 0x20, 1, 0xFFFFFFFF, 0x0, 0x0, false, true, 0x0⟩,
  ⟨0xC0104, 0x20, 8, 0x20, 1, 0xFF, 0x0, 0x0, false, true, 0x0⟩,
  ⟨0xC0108, 0x20, 8, 0x20, 1, 0xFFFF, 0x0, 0x0, false, true, 0x0⟩,
  ⟨0xC010C, 0x20, 8, 0x20, 1, 0xFFFFFFFF, 0x0, 0x0, false, true, 0x40004000⟩,
  ⟨0xC0110, 0x20, 8, 0x20, 1, 0xFFFFFFFF, 0x0, 0x0, false, true, 0x40004000⟩]

/-- Register rows of the COR window (R397). -/
def rowsCorB : List RegRow := [
  ⟨0xC4000, 0x4, 4096, 0x4, 1, 0xFFFFF, 0x0, 0x0, false, true, 0x0⟩,
  ⟨0xC8000, 0x4, 4096, 0x4, 1, 0xFFFFF, 0x0, 0x0, false, true, 0x0⟩,
  ⟨0xCC000, 0x4, 4096, 0x4, 1, 0xFFFF, 0x0, 0x0, false, true, 0x4000⟩]

/-- Register rows of the FUR window (R437). -/
def rowsFur : List RegRow := [
  ⟨0xD0000, 0x4, 1, 0x4, 1, 0xFFF0003, 0x0, 0x0, false, true, 0x2000002⟩,
  ⟨0xD0004, 0x4, 1, 0x4, 1, 0x3F0F0FFF, 0x0, 0x0, false, true, 0x28⟩,
  ⟨0xD0008, 0x4, 1, 0x4, 1, 0xFFF, 0x0, 0x0, false, true, 0x3E8⟩,
  ⟨0xD000C, 0x4, 1, 0x4, 1, 0xFFFFFFFF, 0x0, 0x0, false, true, 0x7D000C8⟩,
  ⟨0xD0010, 0x4, 1, 0x4, 1, 0xFFFF, 0x0, 0x0, false, true, 0xFA0⟩,
  ⟨0xD0014, 0x4, 1, 0x4, 1, 0xFFFFFFFF, 0x0, 0x0, false, true, 0x76543210⟩,
  ⟨0xD0018, 0x4, 1, 0x4, 1, 0xFFFFFFFF, 0x0, 0x0, false, true, 0xFEDCBA98⟩,
  ⟨0xD001C, 0x4, 1, 0x4, 1, 0xFF, 0x0, 0x0, false, true, 0x80⟩,
  ⟨0xD0020, 0x4, 1, 0x4, 1, 0x0, 0x0, 0x0, false, false, 0x0⟩,
  ⟨0xD0024, 0x4, 1, 0x4, 1, 0x0, 0x0, 0x0, false, false, 0x0⟩,
  ⟨0xD0028, 0x4, 1, 0x4, 1, 0x0, 0x0, 0x0, false, false, 0x0⟩,
  ⟨0xD002C, 0x4, 1, 0x4, 1, 0x0, 0x0, 0x0, false, false, 0x0⟩,
  ⟨0xD0030, 0x4, 1, 0x4, 1, 0x0, 0x0, 0x0, false, false, 0x0⟩,
  ⟨0xD0040, 0x4, 1, 0x4, 1, 0x33F3F0E, 0x0, 0x1, false, false, 0x0⟩,
  ⟨0xD0044, 0x4, 1, 0x4, 1, 0xFFFF, 0x0, 0x0, false, false, 0x0⟩,
  ⟨0xD0048, 0x4, 4, 0x4, 1, 0xFFFFFFFF, 0x0, 0x0, false, false, 0x0⟩,
  ⟨0xD0060, 0x4, 1, 0x4, 1, 0x0, 0x0, 0x0, true, false, 0x0⟩,
  ⟨0xD0064, 0x4, 1, 0x4, 1, 0x0, 0x0, 0x0, true, false, 0x0⟩,
  ⟨0xD0068, 0x4, 1, 0x4, 1, 0x0, 0x0, 0x0, true, false, 0x0⟩,
  ⟨0xD0100, 0x20, 64, 0x20, 1, 0x873F0000, 0x0, 0x0, false, true, 0x0⟩,
  ⟨0xD0104, 0x20, 64, 0x20, 1, 0x3F3F3F3F, 0x0, 0x0, false, true, 0x0⟩,
  ⟨0xD0108, 0x20, 64, 0x20, 1, 0x0, 0x0, 0x0, false, false, 0x0⟩,
  ⟨0xD010C, 0x20, 64, 0x20, 1, 0x0, 0x0, 0x0, false, false, 0x0⟩,
  ⟨0xD0110, 0x20, 64, 0x20, 1, 0x0, 0x0, 0x0, true, false, 0x0⟩,
  ⟨0xD1000, 0x4, 384, 0x4, 1, 0xBF3F, 0x0, 0x0, false, true, 0x0⟩,
  ⟨0xD2000, 0x100, 64, 0x8, 32, 0xFFFFFFFF, 0x0, 0x0, false, true, 0x0⟩,
  ⟨0xD2004, 0x100, 64, 0x8, 32, 0xFF000000, 0x0, 0x0, false, true, 0x0⟩]

/-- Register rows of the LMP window (R465). -/
def rowsLmp : List RegRow := [
  ⟨0xE0000, 0x4, 1, 0x4, 1, 0xEFFF0003, 0x0, 0x0, false, true, 0xC1000000⟩,
  ⟨0xE0008, 0x4, 1, 0x4, 1, 0xFFFFFFFF, 0x0, 0x0, false, true, 0x0⟩,
  ⟨0xE000C, 0x4, 1, 0x4, 1, 0xFF, 0x0, 0x0, false, true, 0x0⟩,
  ⟨0xE0010, 0x4, 1, 0x4, 1, 0xFFFF, 0x0, 0x0, false, true, 0x0⟩,
  ⟨0xE0014, 0x4, 1, 0x4, 1, 0x0, 0x0, 0x0, false, false, 0x0⟩,
  ⟨0xE0018, 0x4, 1, 0x4, 1, 0x3F, 0x0, 0x0, false, false, 0x0⟩,
  ⟨0xE0020, 0x4, 1, 0x4, 1, 0x0, 0x0, 0x0, true, false, 0x0⟩,
  ⟨0xE0024, 0x4, 1, 0x4, 1, 0x0, 0x0, 0x0, true, false, 0x0⟩,
  ⟨0xE0028, 0x4, 1, 0x4, 1, 0x0, 0x0, 0x0, true, false, 0x0⟩,
  ⟨0xE002C, 0x4, 1, 0x4, 1, 0x0, 0x0, 0x0, true, false, 0x0⟩,
  ⟨0xE0030, 0x4, 1, 0x4, 1, 0x0, 0x0, 0x0, false, false, 0x0⟩,
  ⟨0xE0034, 0x4, 1, 0x4, 1, 0x0, 0x0, 0x0, false, false, 0x0⟩,
  ⟨0xE0040, 0x4, 128, 0x4, 1, 0x0, 0x0, 0x0, false, false, 0x0⟩,
  ⟨0xE4000, 0x4, 4096, 0x4, 1, 0x0, 0x0, 0x0, true, false, 0x0⟩,
  ⟨0xE8000, 0x4, 8192, 0x4, 1, 0x0, 0xFFFFFFFF, 0x0, false, false, 0x0⟩]

/-- Register rows of the CAL window (R489, R491). -/
def rowsCal : List RegRow := [
  ⟨0xF0000, 0x4, 1, 0x4, 1, 0xFF03, 0x0, 0x0, false, true, 0x0⟩,
  ⟨0xF0004, 0x4, 1, 0x4, 1, 0xCFFFFFFF, 0x0, 0x0, false, true, 0x337⟩,
  ⟨0xF0008, 0x4, 1, 0x4, 1, 0x0, 0x0, 0x1, false, false, 0x0⟩,
  ⟨0xF000C, 0x4, 1, 0x4, 1, 0x0, 0x0, 0x0, false, false, 0x0⟩,
  ⟨0xF0010, 0x4, 1, 0x4, 1, 0xFFFF1710, 0x2, 0x5, false, false, 0x1000⟩,
  ⟨0xF0014, 0x4, 1, 0x4, 1, 0xFFFFFFFF, 0x0, 0x0, false, false, 0x1000028F⟩,
  ⟨0xF0018, 0x4, 1, 0x4, 1, 0x0, 0x0, 0x0, false, false, 0x0⟩,
  ⟨0xF001C, 0x4, 1, 0x4, 1, 0x0, 0x0, 0x0, false, false, 0x0⟩,
  ⟨0xF0020, 0x4, 1, 0x4, 1, 0x0, 0x0, 0x0, false, false, 0x0⟩,
  ⟨0xF0024, 0x4, 1, 0x4, 1, 0xFFFF, 0x0, 0x0, false, true, 0x20⟩,
  ⟨0xF0028, 0x4, 1, 0x4, 1, 0x0, 0x0, 0x0, false, false, 0x0⟩,
  ⟨0xF0030, 0x4, 1, 0x4, 1, 0x0, 0x0, 0x0, false, false, 0x0⟩,
  ⟨0xF0034, 0x4, 1, 0x4, 1, 0x0, 0x0, 0x0, false, false, 0x0⟩,
  ⟨0xF0038, 0x4, 1, 0x4, 1, 0x0, 0x0, 0x0, false, false, 0x0⟩,
  ⟨0xF003C, 0x4, 1, 0x4, 1, 0x0, 0x0, 0x0, false, false, 0x0⟩,
  ⟨0xF0050, 0x4, 1, 0x4, 1, 0x0, 0x0, 0x0, true, false, 0x0⟩,
  ⟨0xF0054, 0x4, 1, 0x4, 1, 0x0, 0x0, 0x0, true, false, 0x0⟩,
  ⟨0xF0058, 0x4, 1, 0x4, 1, 0x0, 0x0, 0x0, true, false, 0x0⟩,
  ⟨0xF005C, 0x4, 1, 0x4, 1, 0x0, 0x0, 0x0, true, false, 0x0⟩,
  ⟨0xF0060, 0x4, 1, 0x4, 1, 0x0, 0x0, 0x0, true, false, 0x0⟩,
  ⟨0xF0100, 0x40, 8, 0x40, 1, 0xFFFFFFFF, 0x0, 0x0, false, true, 0x0⟩,
  ⟨0xF0104, 0x40, 8, 0x40, 1, 0xFFFFFFFF, 0x0, 0x0, false, true, 0x0⟩,
  ⟨0xF0108, 0x40, 8, 0x4, 4, 0xFFFFFFFF, 0x0, 0x0, false, true, 0x0⟩,
  ⟨0xF0118, 0x40, 8, 0x40, 1, 0x0, 0x0, 0x0, false, false, 0x0⟩,
  ⟨0xF011C, 0x40, 8, 0x40, 1, 0x0, 0x0, 0x0, false, false, 0x0⟩,
  ⟨0xF0120, 0x40, 8, 0x40, 1, 0x0, 0x0, 0x0, false, false, 0x0⟩,
  ⟨0xF0124, 0x40, 8, 0x40, 1, 0x0, 0x0, 0x0, false, false, 0x0⟩,
  ⟨0xF0128, 0x40, 8, 0x40, 1, 0x0, 0x0, 0x0, false, false, 0x0⟩,
  ⟨0xF012C, 0x40, 8, 0x4, 4, 0x0, 0x0, 0x0, false, false, 0x0⟩,
  ⟨0xF013C, 0x40, 8, 0x40, 1, 0x0, 0x0, 0x0, false, false, 0x0⟩]

/-- Register rows of the HKP window (R602). -/
def rowsHkp : List RegRow := [
  ⟨0x100000, 0x4, 1, 0x4, 1, 0xFFFF0000, 0x0, 0x0, false, true, 0xFFFF0000⟩,
  ⟨0x100004, 0x4, 1, 0x4, 1, 0xFFFF, 0x0, 0x0, false, true, 0xFFFF⟩,
  ⟨0x100008, 0x4, 1, 0x4, 1, 0x0, 0x0, 0x0, false, false, 0x0⟩,
  ⟨0x10000C, 0x4, 1, 0x4, 1, 0x0, 0x0, 0x0, false, false, 0x0⟩,
  ⟨0x100010, 0x4, 1, 0x4, 1, 0x0, 0x0, 0x0, false, false, 0x0⟩,
  ⟨0x100014, 0x4, 1, 0x4, 1, 0x0, 0x0, 0x0, false, false, 0x0⟩,
  ⟨0x100018, 0x4, 1, 0x4, 1, 0xFFFFFF, 0x0, 0x0, false, true, 0x20040⟩,
  ⟨0x10001C, 0x4, 1, 0x4, 1, 0x0, 0x0, 0x0, false, false, 0x0⟩,
  ⟨0x100020, 0x4, 1, 0x4, 1, 0xFFFFFFFF, 0x0, 0x0, false, true, 0x5F00050⟩,
  ⟨0x100024, 0x4, 1, 0x4, 1, 0xFFFFFFFF, 0x0, 0x0, false, true, 0x6900050⟩,
  ⟨0x100028, 0x4, 1, 0x4, 1, 0xFFFFFFFF, 0x0, 0x0, false, true, 0x7300050⟩,
  ⟨0x10002C, 0x4, 1, 0x4, 1, 0xFFFFFFFF, 0x0, 0x0, false, true, 0x4600050⟩,
  ⟨0x100030, 0x4, 1, 0x4, 1, 0xFFFFFFFF, 0x0, 0x0, false, true, 0x5000050⟩,
  ⟨0x100034, 0x4, 1, 0x4, 1, 0xFFFFFFFF, 0x0, 0x0, false, true, 0x5A00050⟩,
  ⟨0x100040, 0x4, 1, 0x4, 1, 0x0, 0x0, 0x0, true, false, 0x0⟩,
  ⟨0x100044, 0x4, 1, 0x4, 1, 0x0, 0x0, 0x0, true, false, 0x0⟩,
  ⟨0x100100, 0x4, 64, 0x4, 1, 0x0, 0x0, 0x0, false, false, 0x0⟩,
  ⟨0x100200, 0x10, 16, 0x10, 1, 0x0, 0x0, 0x0, false, false, 0x0⟩,
  ⟨0x100204, 0x10, 16, 0x10, 1, 0x0, 0x0, 0x0, false, false, 0x0⟩,
  ⟨0x100208, 0x10, 16, 0x10, 1, 0x0, 0x0, 0x0, false, false, 0x0⟩,
  ⟨0x100400, 0x4, 9, 0x4, 1, 0x0, 0x0, 0x0, false, false, 0x0⟩,
  ⟨0x100440, 0x4, 9, 0x4, 1, 0xFFFFFFFF, 0x0, 0x0, false, true, 0x0⟩,
  ⟨0x100500, 0x10, 8, 0x10, 1, 0xFFFFFFFF, 0x0, 0x0, false, true, 0x40830000⟩,
  ⟨0x100504, 0x10, 8, 0x10, 1, 0x0, 0x0, 0x0, false, false, 0x0⟩,
  ⟨0x100580, 0x10, 8, 0x10, 1, 0x1, 0x0, 0x0, false, true, 0x0⟩,
  ⟨0x100584, 0x10, 8, 0x10, 1, 0x0, 0x0, 0x0, false, false, 0x0⟩,
  ⟨0x100600, 0x100, 2, 0x4, 33, 0xFFFF, 0x0, 0x0, false, true, 0x0⟩]

/-- Register rows of the DMC window (R553). -/
def rowsDmcA : List RegRow := [
  ⟨0x110000, 0x4, 1, 0x4, 1, 0x30, 0x0, 0x100, false, false, 0x0⟩,
  ⟨0x110004, 0x4, 1, 0x4, 1, 0x0, 0x0, 0x0, false, false, 0x0⟩,
  ⟨0x110008, 0x4, 1, 0x4, 1, 0xF, 0x0, 0x0, false, false, 0xC⟩,
  ⟨0x11000C, 0x4, 1, 0x4, 1, 0xFF00FFFF, 0x0, 0x0, false, false, 0x10000064⟩,
  ⟨0x110010, 0x4, 1, 0x4, 1, 0xFFFF, 0x0, 0x0, false, false, 0x14⟩,
  ⟨0x110014, 0x4, 1, 0x4, 1, 0xFFFF00FF, 0x0, 0x0, false, false, 0xA320030⟩,
  ⟨0x110018, 0x4, 1, 0x4, 1, 0xFFFFFFFF, 0x0, 0x0, false, false, 0x12000C0⟩,
  ⟨0x11001C, 0x4, 1, 0x4, 1, 0x0, 0x0, 0x0, false, false, 0x0⟩,
  ⟨0x110020, 0x4, 1, 0x4, 1, 0x0, 0x0, 0x0, false, false, 0x0⟩,
  ⟨0x110024, 0x4, 1, 0x4, 1, 0x0, 0x0, 0x0, false, false, 0x0⟩,
  ⟨0x110028, 0x4, 1, 0x4, 1, 0x0, 0x0, 0x0, true, false, 0x0⟩,
  ⟨0x110030, 0x4, 1, 0x4, 1, 0xFFFF0030, 0x0, 0x1, false, false, 0x40000⟩,
  ⟨0x110034, 0x4, 1, 0x4, 1, 0x0, 0x0, 0x0, false, false, 0x0⟩,
  ⟨0x110100, 0x4, 1, 0x4, 1, 0x80003FFF, 0x0, 0x0, false, false, 0x80000C80⟩,
  ⟨0x110120, 0x20, 3, 0x20, 1, 0x80003FFF, 0x0, 0x0, false, false, 0x0⟩,
  ⟨0x110104, 0x4, 1, 0x4, 1, 0xFFFFFFFF, 0x0, 0x0, false, false, 0x1215122A⟩,
  ⟨0x110124, 0x20, 3, 0x20, 1, 0xFFFFFFFF, 0x0, 0x0, false, false, 0x0⟩,
  ⟨0x110108, 0x4, 1, 0x4, 1, 0xFFFFFFFF, 0x0, 0x0, false, false, 0x3F221405⟩,
  ⟨0x110128, 0x20, 3, 0x20, 1, 0xFFFFFFFF, 0x0, 0x0, false, false, 0x0⟩,
  ⟨0x11010C, 0x4, 1, 0x4, 1, 0xFFFFFFFF, 0x0, 0x0, false, false, 0x11808C8C⟩,
  ⟨0x11012C, 0x20, 3, 0x20, 1, 0xFFFFFFFF, 0x0, 0x0, false, false, 0x0⟩,
  ⟨0x110110, 0x4, 1, 0x4, 1, 0xFFFFFFFF, 0x0, 0x0, false, false, 0xF42140A⟩,
  ⟨0x110130, 0x20, 3, 0x20, 1, 0xFFFFFFFF, 0x0, 0x0, false, false, 0x0⟩,
  ⟨0x110200, 0x40, 2, 0x40, 1, 0x0, 0x0, 0x0, false, false, 0x0⟩,
  ⟨0x110204, 0x40, 2, 0x40, 1, 0x0, 0x0, 0x0, true, false, 0x0⟩,
  ⟨0x110208, 0x40, 2, 0x40, 1, 0x0, 0x0, 0x0, true, false, 0x0⟩,
  ⟨0x11020C, 0x40, 2, 0x40, 1, 0x0, 0x0, 0x0, true, false, 0x0⟩,
  ⟨0x110210, 0x40, 2, 0x40, 1, 0x0, 0x0, 0x0, true, false, 0x0⟩,
  ⟨0x110214, 0x40, 2, 0x40, 1, 0x0, 0x0, 0x0, true, false, 0x0⟩,
  ⟨0x110218, 0x40, 2, 0x40, 1, 0x0, 0x0, 0x0, true, false, 0x0⟩]

/-- Register rows of the DMC window (R553). -/
def rowsDmcB : List RegRow := [
  ⟨0x11021C, 0x40, 2, 0x40, 1, 0x0, 0x0, 0x0, false, false, 0x0⟩,
  ⟨0x110300, 0x4, 20, 0x4, 1, 0x0, 0x0, 0x0, false, false, 0x0⟩,
  ⟨0x110400, 0x4, 16, 0x4, 1, 0x0, 0x0, 0x0, true, false, 0x0⟩]

/-- Register rows of the MEC window (R578). -/
def rowsMec : List RegRow := [
  ⟨0x120000, 0x4, 1, 0x4, 1, 0x3, 0x0, 0x0, false, false, 0x3⟩,
  ⟨0x120008, 0x4, 1, 0x4, 1, 0xFFFFFFFF, 0x0, 0x0, false, false, 0x640400⟩,
  ⟨0x12000C, 0x4, 1, 0x4, 1, 0x0, 0x0, 0xFFFFF, false, false, 0x0⟩,
  ⟨0x120010, 0x4, 1, 0x4, 1, 0xFFFF00FF, 0x0, 0x0, false, false, 0x3C000A⟩,
  ⟨0x120014, 0x4, 1, 0x4, 1, 0x0, 0x0, 0x0, false, false, 0x0⟩,
  ⟨0x120018, 0x4, 1, 0x4, 1, 0x0, 0x0, 0x0, false, false, 0x0⟩,
  ⟨0x12001C, 0x4, 1, 0x4, 1, 0x0, 0x0, 0x0, true, false, 0x0⟩,
  ⟨0x120020, 0x4, 1, 0x4, 1, 0x0, 0x0, 0x0, false, false, 0x0⟩,
  ⟨0x120024, 0x4, 1, 0x4, 1, 0x0, 0x0, 0x0, false, false, 0x0⟩,
  ⟨0x120030, 0x4, 1, 0x4, 1, 0xFFFFFF, 0x0, 0x0, false, false, 0x0⟩,
  ⟨0x120034, 0x4, 1, 0x4, 1, 0x0, 0x0, 0x0, false, false, 0x0⟩,
  ⟨0x120038, 0x4, 1, 0x4, 1, 0xFFFFFF, 0x0, 0x0, false, false, 0x0⟩,
  ⟨0x12003C, 0x4, 1, 0x4, 1, 0x1FFFFFF, 0x0, 0x0, false, false, 0x0⟩,
  ⟨0x120040, 0x4, 1, 0x4, 1, 0x0, 0x2, 0x1, false, false, 0x0⟩,
  ⟨0x120050, 0x4, 1, 0x4, 1, 0x0, 0x0, 0x0, true, false, 0x0⟩,
  ⟨0x120054, 0x4, 1, 0x4, 1, 0x0, 0x0, 0x0, true, false, 0x0⟩,
  ⟨0x120058, 0x4, 1, 0x4, 1, 0x0, 0x0, 0x0, true, false, 0x0⟩,
  ⟨0x12005C, 0x4, 1, 0x4, 1, 0x0, 0x0, 0x0, true, false, 0x0⟩,
  ⟨0x120060, 0x4, 1, 0x4, 1, 0x0, 0x0, 0x0, true, false, 0x0⟩,
  ⟨0x120064, 0x4, 1, 0x4, 1, 0x0, 0x0, 0x0, true, false, 0x0⟩,
  ⟨0x120068, 0x4, 1, 0x4, 1, 0x0, 0x0, 0x0, false, false, 0x0⟩,
  ⟨0x12006C, 0x4, 1, 0x4, 1, 0x0, 0x0, 0x0, false, false, 0x0⟩,
  ⟨0x120070, 0x4, 1, 0x4, 1, 0x0, 0x0, 0x0, false, false, 0x0⟩,
  ⟨0x120074, 0x4, 1, 0x4, 1, 0x0, 0x0, 0x0, false, false, 0x0⟩,
  ⟨0x120080, 0x4, 1, 0x4, 1, 0x0, 0x0, 0x0, true, false, 0x0⟩,
  ⟨0x120084, 0x4, 1, 0x4, 1, 0x0, 0x0, 0x0, true, false, 0x0⟩,
  ⟨0x120088, 0x4, 1, 0x4, 1, 0x0, 0x0, 0x0, false, false, 0x0⟩,
  ⟨0x120100, 0x4, 20, 0x4, 1, 0x0, 0x0, 0x0, true, false, 0x0⟩,
  ⟨0x120180, 0x4, 2, 0x4, 1, 0x0, 0x0, 0x0, true, false, 0x0⟩]

/-- Register rows of the PCI window (R669, R688). -/
def rowsPci : List RegRow := [
  ⟨0x130000, 0x4, 1, 0x4, 1, 0x0, 0x0, 0x0, false, false, 0x0⟩,
  ⟨0x130004, 0x4, 1, 0x4, 1, 0x0, 0x0, 0x0, false, false, 0x0⟩,
  ⟨0x130008, 0x4, 1, 0x4, 1, 0x0, 0x0, 0x0, false, false, 0x0⟩,
  ⟨0x130010, 0x4, 1, 0x4, 1, 0x3FFF000, 0x0, 0x0, false, false, 0x0⟩,
  ⟨0x130014, 0x4, 1, 0x4, 1, 0xFFFC, 0x0, 0x0, false, false, 0x0⟩,
  ⟨0x130020, 0x4, 1, 0x4, 1, 0x0, 0x0, 0x0, true, false, 0x0⟩,
  ⟨0x130024, 0x4, 1, 0x4, 1, 0x0, 0x0, 0x0, true, false, 0x0⟩,
  ⟨0x130028, 0x4, 1, 0x4, 1, 0x0, 0x0, 0x0, true, false, 0x0⟩,
  ⟨0x13002C, 0x4, 1, 0x4, 1, 0x0, 0x0, 0x0, true, false, 0x0⟩,
  ⟨0x130030, 0x4, 1, 0x4, 1, 0x0, 0x0, 0x0, true, false, 0x0⟩,
  ⟨0x130034, 0x4, 1, 0x4, 1, 0x0, 0x0, 0x0, true, false, 0x0⟩,
  ⟨0x138000, 0x10, 512, 0x10, 1, 0xFFFFFFFC, 0x0, 0x0, false, false, 0x0⟩,
  ⟨0x138004, 0x10, 512, 0x10, 1, 0xFFFFFFFF, 0x0, 0x0, false, false, 0x0⟩,
  ⟨0x138008, 0x10, 512, 0x10, 1, 0xFFFFFFFF, 0x0, 0x0, false, false, 0x0⟩,
  ⟨0x13800C, 0x10, 512, 0x10, 1, 0x1, 0x0, 0x0, false, false, 0x1⟩,
  ⟨0x13A000, 0x4, 16, 0x4, 1, 0x0, 0x0, 0x0, false, false, 0x0⟩]

/-- Register rows of the MGE window (R689). -/
def rowsMge : List RegRow := [
  ⟨0x140000, 0x4, 1, 0x4, 1, 0xF, 0x0, 0x0, false, false, 0x9⟩,
  ⟨0x140004, 0x4, 1, 0x4, 1, 0x0, 0x0, 0x0, false, false, 0x0⟩,
  ⟨0x140008, 0x4, 1, 0x4, 1, 0xFFFFFFFF, 0x0, 0x0, false, false, 0x0⟩,
  ⟨0x14000C, 0x4, 1, 0x4, 1, 0xFFFF, 0x0, 0x0, false, false, 0x5C10⟩,
  ⟨0x140010, 0x4, 1, 0x4, 1, 0x0, 0x0, 0x0, false, false, 0x0⟩,
  ⟨0x140014, 0x4, 1, 0x4, 1, 0x0, 0x0, 0x0, false, false, 0x0⟩,
  ⟨0x140020, 0x4, 4, 0x4, 1, 0xFFFFFFFF, 0x0, 0x0, false, false, 0x0⟩,
  ⟨0x140030, 0x4, 1, 0x4, 1, 0xFFFFFFFF, 0x0, 0x0, false, false, 0x0⟩,
  ⟨0x140034, 0x4, 1, 0x4, 1, 0xFFFF, 0x0, 0x0, false, false, 0x0⟩,
  ⟨0x140040, 0x4, 1, 0x4, 1, 0x0, 0x0, 0x0, true, false, 0x0⟩,
  ⟨0x140044, 0x4, 1, 0x4, 1, 0x0, 0x0, 0x0, true, false, 0x0⟩,
  ⟨0x140048, 0x4, 1, 0x4, 1, 0x0, 0x0, 0x0, true, false, 0x0⟩,
  ⟨0x14004C, 0x4, 1, 0x4, 1, 0x0, 0x0, 0x0, true, false, 0x0⟩]

/-- Register rows of the DBG window (R690). -/
def rowsDbg : List RegRow := [
  ⟨0x150000, 0x4, 1, 0x4, 1, 0xF, 0x0, 0x0, false, false, 0x0⟩,
  ⟨0x150004, 0x4, 1, 0x4, 1, 0x3, 0x0, 0x0, false, false, 0x2⟩,
  ⟨0x150008, 0x4, 1, 0x4, 1, 0x0, 0x0, 0x0, false, false, 0x0⟩,
  ⟨0x15000C, 0x4, 1, 0x4, 1, 0x0, 0x0, 0x0, true, false, 0x0⟩,
  ⟨0x150010, 0x4, 1, 0x4, 1, 0x0, 0x0, 0x0, false, false, 0x0⟩]

/-- Register rows of the QUEUE window (R188). -/
def rowsQueue : List RegRow := [
  ⟨0x1000000, 0x40, 65536, 0x40, 1, 0xC00F0F0F, 0x0, 0x0, false, false, 0x0⟩,
  ⟨0x1000004, 0x40, 65536, 0x40, 1, 0x0, 0x0, 0x0, false, false, 0x0⟩,
  ⟨0x1000008, 0x40, 65536, 0x40, 1, 0xFFFFFFC0, 0x0, 0x0, false, false, 0x0⟩,
  ⟨0x100000C, 0x40, 65536, 0x40, 1, 0xFF, 0x0, 0x0, false, false, 0x0⟩,
  ⟨0x1000010, 0x40, 65536, 0x40, 1, 0xFFFFFFC0, 0x0, 0x0, false, false, 0x0⟩,
  ⟨0x1000014, 0x40, 65536, 0x40, 1, 0xFF, 0x0, 0x0, false, false, 0x0⟩,
  ⟨0x1000018, 0x40, 65536, 0x40, 1, 0xFFFF0000, 0x0, 0x0, false, false, 0x0⟩,
  ⟨0x100001C, 0x40, 65536, 0x40, 1, 0xFFFF, 0x0, 0x0, false, false, 0x0⟩,
  ⟨0x1000020, 0x40, 65536, 0x40, 1, 0x0, 0x0, 0x0, false, false, 0x0⟩,
  ⟨0x1000024, 0x40, 65536, 0x40, 1, 0x0, 0x0, 0x0, false, false, 0x0⟩,
  ⟨0x1000028, 0x40, 65536, 0x40, 1, 0x0, 0x0, 0x0, false, false, 0x0⟩,
  ⟨0x100002C, 0x40, 65536, 0x40, 1, 0x0, 0x0, 0x0, false, false, 0x0⟩,
  ⟨0x1000030, 0x40, 65536, 0x40, 1, 0x1FF01FF, 0x0, 0x0, false, false, 0x0⟩,
  ⟨0x1000034, 0x40, 65536, 0x40, 1, 0xFFFF, 0x0, 0x0, false, false, 0x64⟩,
  ⟨0x1000038, 0x40, 65536, 0x40, 1, 0x0, 0x0, 0x0, true, false, 0x0⟩]

/-- The rows of the window that device offset `o` lies in. -/
def rowsAt (o : Nat) : List RegRow :=
  match o / 0x10000 with
  | 0x0 => rowsGlb
  | 0x1 => rowsAon
  | 0x2 => rowsBoot
  | 0x3 => rowsEvt
  | 0x4 => rowsTmbA ++ rowsTmbB
  | 0x5 => rowsSlk
  | 0x6 => rowsSxq
  | 0x7 => rowsRed
  | 0x8 => rowsInpA ++ rowsInpB
  | 0x9 => rowsAudA ++ rowsAudB
  | 0xA => rowsCmpA ++ rowsCmpB
  | 0xB => rowsScnA ++ rowsScnB
  | 0xC => rowsCorA ++ rowsCorB
  | 0xD => rowsFur
  | 0xE => rowsLmp
  | 0xF => rowsCal
  | 0x10 => rowsHkp
  | 0x11 => rowsDmcA ++ rowsDmcB
  | 0x12 => rowsMec
  | 0x13 => rowsPci
  | 0x14 => rowsMge
  | 0x15 => rowsDbg
  | _ => if 0x1000000 ≤ o ∧ o < 0x1400000 then (if 0x10 ≤ o / 64 % 64 ∧ o / 64 % 64 < 0x38 then [] else rowsQueue) else []

/-- The register row of device offset `o`, if the spec has a register there. Queue descriptors of classes 0x10 to 0x37
have none (R187). -/
def regRow? (o : Nat) : Option RegRow :=
  (rowsAt o).find? (fun r => r.has o)

/-- R27: whether the register is shadowed. -/
def shadowed (o : Nat) : Bool :=
  match regRow? o with
  | some r => r.sh
  | none => false

/-- The reset values that the register maps give by a rule instead of a constant: the identity tables (R332, R373),
the rail windows (R587) and the VC of a queue descriptor's class (R186, R188). -/
def resetByRule (o : Nat) : Option Nat :=
  if 0xA4000 ≤ o ∧ o < 0xB0000 then
    let k := (o - 0xA4000) % 0x2000 / 4
    some (2 * k + (2 * k + 1) * 0x10000)
  else if 0xC4000 ≤ o ∧ o < 0xCC000 then
    let k := (o - 0xC4000) % 0x4000 / 4
    some (k * 256 + k / 16)
  else if 0x100440 ≤ o ∧ o < 0x100464 then
    some (([0x031402C8, 0x034802F8, 0x03B10357, 0x04EC0474, 0x020D01DB, 0x044F03E5, 0x076206AE, 0x0D890C3F,
      0x0E100708] : List Nat).getD ((o - 0x100440) / 4) 0)
  else if 0x1000000 ≤ o ∧ o < 0x1400000 ∧ o % 64 = 0 then
    some (if o / 64 % 64 < 8 ∨ 0x38 ≤ o / 64 % 64 then 0x20000000 else 0x30000000)
  else none

/-- What the register at device offset `o` reads after reset, as its register map says. Values that straps, fuses or
the start-up sequence give are 0 here and written at the release of PORST_N. -/
def resetReg (o : Nat) : Word :=
  match regRow? o with
  | none => 0
  | some r =>
    match resetByRule o with
    | some v => BitVec.ofNat 32 v
    | none => BitVec.ofNat 32 r.rst

end Sys2Proof.Machine
end

