-- ==== Sys2Proof/Machine/State.lean ====
section
/-!
DEFINITION. The state of the block as plain data: the registers (chapters 01 to 19), the memories, what each block holds
besides its registers, the pins and wires it has driven, the queue of waiting commands, and the state after reset.
-/

namespace Sys2Proof.Machine

/-- Why the machine stops. -/
inductive Fault where
  /-- Raised by no meaning: the spec gives every command an effect, and a command that its rules ignore leaves the
  state as it was. The constructor stands for the outcome that `Host.Outcome` asks for. Safe: it is never reached. -/
  | unreachable
  deriving DecidableEq, Repr

/-- Why a command has no meaning. -/
inductive Refusal where
  /-- Raised by `exec` for a row that has no meaning in this model, by its mnemonic. Safe: nothing can be proved of a
  run through it. -/
  | notModelled (mnemonic : String)
  deriving DecidableEq, Repr

/-- What the block puts on its pins and wires. -/
inductive Output where
  /-- R135: a sheaf leaves on a port, header and payload; `code` is the status code of a response (log entry 17). -/
  | sheaf (port : Port) (hdr payload : List Byte) (code : Nat)
  /-- R143: a link control unit leaves on a port. -/
  | lcu (port : Port) (unit : List Byte)
  /-- R129: an alignment marker lane group, by lane. -/
  | marker (port : Port) (blocks : List (List Byte))
  /-- R126: a skip lane group. -/
  | skip (port : Port)
  /-- R130: a timing set, with its kind, seq and 192-bit payload, and its two blocks on lane 0. -/
  | timing (port : Port) (kind seq payload : Nat) (blocks : List Byte × List Byte)
  /-- R159, R160: a port enters a training state, and the training sets that it sends there, by lane. -/
  | training (port : Port) (state : Nat) (sets : List (List Byte))
  /-- R134: a sheaf that was cut through and lost on the way in: its header left, and what follows is void. -/
  | voided (port : Port) (hdr : List Byte)
  /-- R14, R52: the value that a register read returned on a path. -/
  | read (path : Path) (v : Word)
  /-- R666, R672, R678: bytes of memory returned on a path; `bad` when they were uncorrectable. -/
  | bytes (path : Path) (b : List Byte) (bad : Bool)
  /-- R616, R669: an MSI-X message of a vector, with its address and data. -/
  | msix (vector addr : Nat) (data : Word)
  /-- R616, R188: an interrupt to the control cores, by source or line. -/
  | coreIrq (line : Nat)
  /-- A pin is driven. -/
  | pin (name : String) (level : Bool)
  /-- R351, R352: one line of the monitor output. -/
  | monLine (line : Nat) (px : List (Nat × Nat × Nat))
  /-- R411 to R418: a Furrow packet leaves on a lane. -/
  | furrow (lane : Nat) (pkt : List Byte)
  /-- R411, R412: the companion at a place of a lane's cascade forwards a packet that it has changed. -/
  | cascade (lane place : Nat) (pkt : List Byte)
  /-- R499: one audio sample, 24 bits, leaves on a channel of a port. -/
  | audio (port ch : Nat) (v : Int)
  /-- R263, R666: a request or a completion on PCIe: name, address and bytes. -/
  | tlp (kind : String) (addr : Nat) (b : List Byte)
  /-- R671 to R675: a frame leaves on the management port, to an IPv4 address and UDP port (or a MAC), with its payload. -/
  | udp (kind : String) (ip port : Nat) (b : List Byte)
  /-- R676 to R679: bytes on the monitor's UART. -/
  | uart (text : String)
  /-- R533 to R549: a command on the DRAM channels of a group. -/
  | dram (group : Nat) (cmd : String) (addr : Nat)
  /-- R526, R557, R565: what a DRAM read of a requester returned; `bad` when it is marked as an uncorrectable error. -/
  | dramData (requester addr : Nat) (b : List Byte) (bad : Bool)
  /-- R646: an operation on the flash. -/
  | flash (cmd : String) (addr len : Nat)
  /-- R91: bytes that the PTP engine presents to the firmware. -/
  | toFirmware (b : List Byte)
  /-- R681 to R686: the boundary scan takes or frees the pins, by the name of what it does. -/
  | scan (what : String)
  /-- R684 to R686: the pins carry the boundary register's update stage: driven, in pulses or in trains. -/
  | boundary (how : String) (cells : BoundaryCells)
  /-- R682, R683: the bits of a register that leave by TDO, as a number. -/
  | tdo (bits value : Nat)
  deriving DecidableEq, Repr

/-- R2, R587, R637, R654: what the factory has fused into the part, and what the board has fused since. -/
structure Fuses where
  uid : Nat
  grade : BitVec 2
  ethMac : Vector Nat 2
  mgeMac : Nat
  pciId : Word
  pciSubsys : Word
  roKv : Word
  roCal : Vector Word 16
  boot : Word
  keyHash : Vector Nat 2
  deriving DecidableEq, Repr

/-- A commit accepted and not yet completed (R32 to R40, R726). `asked` is the target the host asked for, `target` the
one it was retargeted to by R40, `late` that the window of `target` had closed at its arrival (R34), `arrived` the TB1 stamp
of that arrival (48 bits) and `cycle` its TCLK cycle, `early` that it arrived before the device's first tick (R726),
`reloadLate` that a reload passed its target (R727), `cmd` the command identifier, port and originator of a commit that came
as a message. -/
structure Commit where
  id : Nat
  asked : Nat
  target : Nat
  subtree : Bool
  early : Bool
  late : Bool
  arrived : Nat
  cycle : Nat
  reloadLate : Bool
  cmd : Option (Nat × Port × Nat)
  deriving DecidableEq, Repr

/-- R41: the completion of a subtree commit that the sender is collecting. `waiting` are the device indexes that have not
reported, `ownDone` says that the sender's own part is done and `applied` at which frame. -/
structure Subtree where
  id : Nat
  asked : Nat
  target : Nat
  cmdId : Nat
  devices : Nat
  onTime : Nat
  late : Nat
  refused : Nat
  waiting : List Nat
  ownDone : Bool
  cmd : Option (Nat × Port × Nat)
  applied : Nat
  deriving DecidableEq, Repr

/-- What GLB and the package pins hold besides the GLB registers. -/
structure Glb where
  /-- PORST_N is low or a reset is held (R695, R697, R599). -/
  held : Bool
  /-- What is fused into the part. -/
  fuses : Fuses
  commit : Option Commit
  subtree : List Subtree
  /-- R54: a capture is armed. -/
  snapArmed : Bool
  /-- R53: the high-word holding registers of PCIe, MGE, reach and the monitor. -/
  hold : Vector Word 4
  /-- R84: AON_SEC_HI and AON_SUBSEC as the last read of AON_SEC_LO latched them. -/
  aonLatch : Option (Word × Word)
  /-- R80: the TCLK cycle from which crystal cycles are counted on from the value that AON_SUBSEC held then. -/
  aonFrom : Nat
  /-- R644: a configuration set is being loaded, so a write reaches both sets. -/
  bothSets : Bool
  /-- R199: the version of the running image. -/
  image : Nat
  /-- R655: the die and panel values that HKP last copied into AON, as AON_RET3 holds them. -/
  aonTemps : Nat
  /-- R597, R599: THERM_N is driven low. -/
  therm : Bool
  deriving DecidableEq, Repr

/-- R69, R70: one time base. `cnt` is the whole count in units of 2^-42 ns, the 32-bit nanoseconds above the 16-bit
fraction above the 26 hidden bits; `integ` the servo's integral term (R85); `unlockRun` the consecutive measurements
above unlock_thr (R89); `changedAt` the TCLK cycle of the last step or set (R88), `fedAt` that of the last measurement, or of the
servo's start (R89). -/
structure Tb where
  cnt : Nat
  integ : Int
  unlockRun : Nat
  changedAt : Nat
  fedAt : Nat
  deriving DecidableEq, Repr

/-- R94 to R96: the hop-delay measurement of one port. `results` are the valid results held, oldest first, in units of
2^-17 ns; `req` the DELAY_REQ outstanding, by its seq and its departure stamp t1 in TB6 (48 bits). -/
structure Hop where
  results : List Nat
  invalidRun : Nat
  req : Option (Nat × Nat)
  deriving DecidableEq, Repr

/-- R103: the expected value of the last fed audio edge, as `num / den` in units of 2^-16 ns. -/
structure EdgeExp where
  num : Nat
  den : Nat
  deriving DecidableEq, Repr

/-- What TMB holds besides its registers. -/
structure Tmb where
  tb : Vector Tb 8
  /-- TCLK cycles since the release of PORST_N. -/
  tclk : Nat
  /-- R104: the next tick value of TB1 in ninths of a nanosecond, modulo 9 × 2^32. -/
  nextTick : Nat
  /-- R105, R106: the first tick is waited for, and its frame number. -/
  armed : Bool
  firstFrame : Nat
  /-- R104, R106: the rate code in force. -/
  rate : Nat
  hop : Vector Hop 4
  /-- R130: the seq of the next timing set of each port. -/
  timingSeq : Vector Nat 4
  /-- R99: the timing-upstream port of the device. -/
  upstream : Option Port
  /-- R97: timing hops from the time leader. -/
  hops : Nat
  /-- R92: the path delays of the last completed exchanges, oldest first, in units of 2^-17 ns. -/
  ptp : List Int
  /-- R111: the PTP master whose Sync messages TB0 last followed. -/
  ptpMaster : Option Nat
  /-- R103: per time base, the expected value of the last fed edge. -/
  edge : Vector (Option EdgeExp) 8
  /-- R101: SYNC_IN has been reported lost. -/
  syncInLost : Bool
  /-- R100: the TB0 stamp of the last edge of SYNC_IN. -/
  syncInTb0 : Nat
  deriving DecidableEq, Repr

/-- R135: a sheaf, its header field by field and its payload. -/
structure Sheaf where
  vc : Fin 4
  dir : Bool
  first : Bool
  last : Bool
  retx : Bool
  husk : Bool
  seq : Nat
  linkSeq : Nat
  dstQ : Nat
  srcQ : Nat
  frame : Nat
  stream : Nat
  index : Nat
  hop : Nat
  epoch : Nat
  crc : Nat
  /-- R44: the status code of a response or completion; the header has no field for it (log entry 17). -/
  code : Nat
  payload : List Byte
  deriving DecidableEq, Repr

/-- A sheaf waiting at a port; `buffer` is the port in whose receive buffer a forwarded sheaf stands (R142), and `counted` that this
port's books still hold it (R162). -/
structure Waiting where
  sheaf : Sheaf
  buffer : Option Port
  counted : Bool := true
  deriving DecidableEq, Repr

/-- R150 to R153: a VC2 or VC3 sheaf in the retransmission store, with its deadline in TB6 (48 bits) and the consecutive
deadlines it has missed; `due` that it is to be resent and has no deadline yet. -/
structure Unacked where
  sheaf : Sheaf
  deadline : Nat
  misses : Nat
  due : Bool
  deriving DecidableEq, Repr

/-- What a Slauf port holds besides its registers. -/
structure SlkPort where
  /-- Sheaves waiting to start, per VC, oldest first (R138). -/
  txq : Vector (List Waiting) 4
  /-- Sheaf starts since VC3 last started one, saturating at 255 (R138). -/
  sinceBulk : Nat
  /-- R150 to R153: the retransmission store of VC2 and of VC3, oldest first. -/
  store2 : List Unacked
  store3 : List Unacked
  /-- R148: link_seq of the next sheaf sent, and expected, on VC2 and on VC3. -/
  txSeq2 : Nat
  txSeq3 : Nat
  rxSeq2 : Nat
  rxSeq3 : Nat
  /-- R143: a sheaf has been accepted on the VC since training, so its acknowledgement is meaningful. -/
  ack2 : Bool
  ack3 : Bool
  /-- R142: F of each VC as the last link control unit sent it. -/
  reported : Vector Nat 4
  /-- R134: the unit stream has lost synchronisation. -/
  unitLost : Bool
  /-- R133, R134: units still to come before the next boundary position, and the header of the sheaf that arrives. -/
  rxLeft : Nat
  rxHead : List Byte
  /-- R129: the next marker_count. -/
  markerCount : Nat
  /-- R127: lane groups that the elastic buffer has duplicated less those it has deleted. -/
  elastic : Int
  /-- R163: TB7 instants, in ns, of the recent uncorrectable code words. -/
  uncorr : List Nat
  /-- R146: consecutive censuses that failed. -/
  censusRun : Nat
  /-- R145: a census is the next sheaf to start. -/
  censusDue : Bool
  /-- R162: the port has been ACTIVE since the release of PORST_N, and the peer UID of that time. -/
  lastPeer : Option Nat
  /-- R163: the state was entered by a retrain, which keeps the equaliser settings. -/
  retraining : Bool
  /-- R161, R166: the pair has been found incompatible, and version-mismatch has been raised for it. -/
  incompatible : Bool
  versionRaised : Bool
  /-- R162: the TS2 of the peer's last CONFIG, by receive lane. -/
  peerSets : Vector (List Byte) 4
  /-- R160: steps of the post-cursor and of the pre-cursor that the peer has asked for, from the preset. -/
  eqPost : Int
  eqPre : Int
  deriving DecidableEq, Repr

/-- A port right after reset, and after training where R162 clears its books. -/
def SlkPort.idle : SlkPort :=
  { txq := Vector.replicate 4 [], sinceBulk := 0, store2 := [], store3 := [], txSeq2 := 0, txSeq3 := 0,
    rxSeq2 := 0, rxSeq3 := 0, ack2 := false, ack3 := false, reported := Vector.replicate 4 0, unitLost := false, rxLeft := 0,
    rxHead := [], peerSets := Vector.replicate 4 [], eqPost := 0, eqPre := 0, markerCount := 0, elastic := 0, uncorr := [], censusRun := 0, censusDue := false, lastPeer := none,
    retraining := false, incompatible := false, versionRaised := false }

/-- R197: a command sent and not completed. `q` is its queue in this device, `slot` the ring index it was sent from, `cls` the
class of its request, `queried` that the first query has been sent. `via` is the path of a remote request of the
management port or the monitor, which answers there and not in a ring. -/
structure Outstanding where
  q : QueueIx
  slot : Nat
  cmdId : Nat
  dst : Nat
  cls : Nat
  port : Port
  queried : Bool
  via : Option Path
  deriving DecidableEq, Repr

/-- R196: the outcome of a VC2 command executed for an originator, with the class, code and body of its response. -/
structure Outcome where
  src : Nat
  cmdId : Nat
  cls : Nat
  code : Nat
  body : List Byte
  deriving DecidableEq, Repr

/-- R200 to R208: the roll call of one port of a sender. `held` are VC2 sheaves held until it ends (R200), `entries` the
32-byte entries of the most advanced message received, with their `epoch`, `assigned` those of the ASSIGN that is out,
`previous` the UIDs by position of the previous result (R207),
`gotReturn` and `gotAck` what has arrived, `ended` that the roll call has its result, `publish` that it waits for a publication point,
`retry` that a listen roll call is to be repeated. -/
structure PortRoll where
  running : Bool
  listen : Bool
  flags : Nat
  entries : List (List Byte)
  epoch : Nat
  assigned : List (List Byte)
  gotReturn : Bool
  gotAck : Bool
  ended : Bool
  publish : Bool
  previous : Option (List Nat)
  retry : Bool
  held : List Sheaf
  lastCode : Nat
  deriving DecidableEq, Repr

/-- What the exchange holds besides its registers and descriptors. -/
structure Sxq where
  /-- R191: inbound slots reserved for responses, by queue. -/
  reserved : List (Nat × Nat)
  /-- R192: the queues with a message posted and not sent, in the order of the out_tail writes. -/
  order : List QueueIx
  outstanding : List Outstanding
  /-- R196: newest first, at most 256 of each originator. -/
  outcomes : List Outcome
  fenced : List (Nat × Nat)
  /-- R200, R204: per origin UID, the newest roll call epoch seen, the port of arrival and the origin's index. -/
  seen : List (Nat × Nat × Port × Nat)
  roll : Vector PortRoll 4
  /-- R206: the roll call command that runs: its ports still rolling and whether one did badly. -/
  opPorts : List Port
  opBad : Bool
  opRunning : Bool
  /-- R213: the through pair in force, which follows SXQ_CTL.through_pair once both new through ports have
  retrained since the write; `pairSeen` are those that have. -/
  pairCD : Bool
  pairSeen : List Port
  /-- Sheaves that the device has taken, oldest first, before the exchange or a pixel or audio path uses them. -/
  taken : List (Port × Sheaf)
  /-- R618: the next event record placed in an inbound ring carries lost = 1. -/
  recordLost : List QueueIx
  deriving DecidableEq, Repr

/-- No roll call. -/
def PortRoll.idle : PortRoll :=
  { running := false, listen := false, flags := 0, entries := [], epoch := 0, assigned := [], gotReturn := false, gotAck := false, ended := false, publish := false,
    previous := none, retry := false, held := [], lastCode := 0 }

/-- R222: what a slot stores of one of the 4,096 newest sequence numbers: its payload_crc, its port of arrival and the
second-copy bit. -/
structure CopyEntry where
  seq : Nat
  crc : Nat
  port : Port
  second : Bool
  /-- R225: the TCLK cycle of arrival. -/
  cycle : Nat
  deriving DecidableEq, Repr

/-- R221, R222: a stream slot. `key` is the bound stream_id and VC; bit k of `seen` says that `newest` − k has been seen;
`mism` counts this frame interval's copy mismatches after the first, whose seq it names (R227). -/
structure StreamSlot where
  key : Option (Nat × Nat)
  newest : Nat
  seen : Nat
  store : List CopyEntry
  mism : Nat
  mismSeq : Nat
  quiet : Nat
  /-- R221, R224: no copy has been accepted since the slot was bound. -/
  fresh : Bool
  deriving DecidableEq, Repr

/-- R233, R234: a lease heard on a port. `frame` is the frame it is for, `sentEarly` that it was sent before frames start. -/
structure Lease where
  uid : Nat
  claim : Nat
  drop : Bool
  muted : Bool
  frame : Nat
  src : Nat
  deriving DecidableEq, Repr

/-- R229: what a sender sums over its own sheaves of one display frame on a ring port. -/
structure Digest where
  frame : Nat
  vc0 : Nat
  vc1 : Nat
  sum0 : Nat
  sum1 : Nat
  deriving DecidableEq, Repr

/-- What RED holds for one port. -/
structure RedPort where
  lease : Option Lease
  /-- R234: the TCLK cycle in which it arrived. -/
  leaseAt : Nat
  /-- R229: this sender's sums, by display frame, newest first. -/
  own : List Digest
  /-- R229: the digest sheaves received, by frame. -/
  peer : List (Nat × List Byte)
  /-- R229: the digests this sender has sent, by frame. -/
  sent : List (Nat × List Byte)
  /-- R243: the holder has been decided. -/
  decided : Bool
  /-- R237: the pair of claims for which the tie event has been raised. -/
  tieAt : Option (Nat × Nat)
  /-- R232: the verdict that persists has been acted on. -/
  acted : Bool
  /-- The peer's device index as its leases' source queue gives it. -/
  peerIdx : Nat
  /-- R244, R246: the claim and the drop flag of the last lease sent, by which the port is ranked until the next. -/
  told : Option (Nat × Bool)
  /-- R244: an unmute and an UNSHUN that take effect with the next lease. -/
  unmute : Bool
  unshun : Bool
  /-- R241: the sender whose VC0 and VC1 sheaves a tile discards on this port. -/
  shunned : Option Nat
  /-- R238: the frame whose missing lease has been counted. -/
  missed : Option Nat
  deriving DecidableEq, Repr

/-- What RED holds besides its registers. `holder` is a tile's holder: its UID, claim, index and port (R235). -/
structure Red where
  slots : Vector StreamSlot 16
  port : Vector RedPort 4
  holder : Option (Nat × Nat × Nat × Port)
  /-- R245: no-slot has been raised in this frame interval. -/
  noSlotRaised : Bool
  deriving DecidableEq, Repr

/-- A free slot. -/
def StreamSlot.free : StreamSlot :=
  { key := none, newest := 0, seen := 0, store := [], mism := 0, mismSeq := 0, quiet := 0, fresh := true }

/-- A port before its first lease. -/
def RedPort.idle : RedPort :=
  { lease := none, leaseAt := 0, told := none, unmute := false, unshun := false, shunned := none, missed := none, own := [], peer := [], sent := [], decided := false, tieAt := none, acted := false, peerIdx := 0 }

/-- R275: how a source is presented to the compositor until the next tick: a buffer of a slot, a slot's constant fill, or
nothing. -/
inductive Pres where
  | frame (slot buf : Nat)
  | fill (slot : Nat)
  | absent
  deriving DecidableEq, Repr

/-- R258, R260, R274: the frame of an ST 2110-20 stream in capture: the last sequence number, its timestamp, whether it is broken, as it
is until a marker has been seen, the width and height that its rows reach, and whether a second field has been seen. -/
structure Packets where
  seq : Option Nat
  ts : Option Nat
  broken : Bool
  width : Nat
  height : Nat
  second : Bool
  deriving DecidableEq, Repr

/-- R260: no packet of the stream has been seen. -/
def Packets.none : Packets := { seq := .none, ts := .none, broken := true, width := 0, height := 0, second := false }

/-- What INP holds of a source slot besides its registers. `newest` and `held` are buffers (R270, R272), `newestSeq` and `seq`
count complete frames, `since` counts those completed since the last tick, `good` the consecutive good frames (R276, R277),
`buf` is the buffer of the frame in capture, `newestAt` the completion stamp of the newest frame in TB1 and `lastAt` the TCLK cycle of
the last complete frame or change of state (R274); `from_` the least sequence that may be selected (R276), `pull` the command identifier of the pull in flight (R263),
`overrun` that the slot's overrun of this frame interval has been raised (R280), `heldOver` that INP was reset and the held frame
is repeated until the next complete one (R279). -/
structure Source where
  newest : Option Nat
  newestSeq : Nat
  held : Option Nat
  heldSeq : Nat
  seq : Nat
  since : Nat
  good : Nat
  from_ : Nat
  packets : Packets
  buf : Option Nat
  newestAt : Nat
  lastAt : Nat
  pull : Option Nat
  overrun : Bool
  heldOver : Bool
  pres : Pres
  deriving DecidableEq, Repr

/-- A slot that captures nothing. -/
def Source.off : Source :=
  { newest := none, newestSeq := 0, held := none, heldSeq := 0, seq := 0, since := 0, good := 0, from_ := 0,
    packets := Packets.none, buf := none, newestAt := 0, lastAt := 0, pull := none, overrun := false, heldOver := false, pres := .absent }

/-- A rectangle by its first corner and its size. -/
structure Rect where
  x : Nat
  y : Nat
  w : Nat
  h : Nat
  deriving DecidableEq, Repr

/-- R305, R320: the accumulator of a pixel, one value per component. -/
structure Acc where
  c0 : Nat
  c1 : Nat
  c2 : Nat
  deriving DecidableEq, Repr

/-- R320: a Loaf entry: the number of its tile, the tile's part of the window, and the accumulator of each of its pixels after the last
base layer, in raster order. -/
structure LoafEntry where
  tile : Nat
  rect : Rect
  accs : List Acc
  deriving DecidableEq, Repr

/-- R320 to R327: the Loaf. Tiles that the static base needs are numbered in raster order; `entries` are those that the Loaf
holds, `use` the numbers of those that it held at the last tick and so may be used, `needed` and `cap` how many are needed and how many
it can hold, `tag` the low 8 bits of the commit that started the flattening, `begun` that there has been a first flattening, `told` that
its loaf-done event has been raised, `restart` that a reset of CMP or a configuration load asks for a new one. -/
structure Loaf where
  entries : List LoafEntry
  use : List Nat
  needed : Nat
  cap : Nat
  tag : Nat
  begun : Bool
  told : Bool
  restart : Bool
  deriving DecidableEq, Repr

/-- R310, R311: a complete canvas: its address, pitch and window. -/
structure Canvas where
  addr : Nat
  pitch : Nat
  win : Rect
  deriving DecidableEq, Repr

/-- What CMP holds besides its registers. `frame` is the display frame of the canvas in progress, `done` that the canvas of this
interval has completed, `latest` the most recent complete canvas and `scan` the one that scan-out reads from the last tick on,
`zeroed` the fetches of this canvas that returned an uncorrectable error, by layer, address and length (R313), `repeated`
that scan-out sends the previous canvas again (R26), `dropped` that a reset has abandoned the canvas of this interval (R327). -/
structure Cmp where
  frame : Nat
  done : Bool
  latest : Option Canvas
  scan : Option Canvas
  zeroed : List (Nat × Nat × Nat)
  repeated : Bool
  dropped : Bool
  loaf : Loaf
  deriving DecidableEq, Repr

/-- R338, R343: what scan-out still has to send on a port in this interval: the regions, the sheaf index of the first, and the
digest of a ring port. -/
structure ScnPort where
  todo : List Nat
  idx : Nat
  digest : Bool
  deriving DecidableEq, Repr

/-- What SCN holds besides its registers. `frame` is the display frame in transport, `canvas` the canvas it is read from (none
while none is valid), `repeated` its repeat flag (R342), `sigs` the signatures T0 of the frame by watch region, `running` that a
transport is in progress; `line` the monitor's underflow event of this monitor frame has been raised (R352). -/
structure Scn where
  port : Vector ScnPort 4
  frame : Nat
  canvas : Option Canvas
  repeated : Bool
  sigs : List (Nat × Nat)
  running : Bool
  monRaised : Bool
  deriving DecidableEq, Repr

/-- R340, R353: a watch region as a region header lists it, its rectangle relative to the region. -/
structure Watch where
  id : Nat
  policy : Nat
  expEn : Bool
  rect : Rect
  expect : Nat
  deriving DecidableEq, Repr

/-- R390 to R393: a frame-store buffer: its address, the geometry and watch regions of the frame written into it, and T2 of those
(watch region and signature); `fails` the failed checks of that frame by watch region, `raised` the watch regions whose event has been
raised for it (R357). `blankAll` and `blank` are what R358 drives at grey level 0 while the buffer is displayed: the whole
region, or panel rectangles. -/
structure FrameBuf where
  addr : Nat
  frame : Nat
  panelW : Nat
  panelH : Nat
  emitters : Nat
  margin : Nat × Nat
  watches : List Watch
  t2 : List (Nat × Nat)
  fails : List (Nat × Nat)
  raised : List Nat
  blankAll : Bool
  blank : List Rect
  deriving DecidableEq, Repr

/-- What COR holds besides its registers. `stream` is the stream of frame D, once known, and `early` the sheaves that came before
its header (stream, index, payload; a trailer's index is none); `bad` that the frame cannot become complete (R370, R373, R395); `got` the data sheaves
received, `px` the receive store by raster index, `next` how many panel pixels are corrected, `zeroed` the table words of this
frame that were uncorrectable (set, or none for the seam table, address and length, R378); `t1` the signatures of the frame once
correction is `done`, `finish` the time of the last frame-store write in ns after the tick. `p` is the temperature position (none: undefined, R385), `round` the
valid panel readings of the last completed housekeeping round by their bit in COR_TEMP_CTL.sensors, `roundSeen` that a round has
ended since power-up or reset (R396). -/
structure Cor where
  header : Bool
  stream : Option Nat
  early : List (Nat × Option Nat × List Byte)
  tcs : Nat
  bad : Bool
  watches : List Watch
  got : List Nat
  px : List (Nat × Nat)
  trailer : Option (List (Nat × Nat))
  next : Nat
  zeroed : List (Option (Fin 8) × Nat × Nat)
  done : Bool
  t1 : List (Nat × Nat)
  finish : Nat
  buf : Vector FrameBuf 2
  p : Option Nat
  tempValid : Bool
  round : List (Nat × Int)
  roundSeen : Bool
  deriving DecidableEq, Repr

/-- A frame-store buffer that nothing has been written into. -/
def FrameBuf.empty : FrameBuf :=
  { addr := 0, frame := 0, panelW := 0, panelH := 0, emitters := 1, margin := (0, 0), watches := [], t2 := [],
    fails := [], raised := [], blankAll := false, blank := [] }

/-- No frame received, corrected or displayed. -/
def Cor.idle : Cor :=
  { header := false, stream := .none, early := [], tcs := 0, bad := false, watches := [], got := [], px := [],
    trailer := .none, next := 0, zeroed := [], done := false, t1 := [], finish := 0,
    buf := Vector.replicate 2 FrameBuf.empty, p := .none, tempValid := false, round := [], roundSeen := false }

/-- R404: a Furrow packet before it is sent. -/
structure FurPkt where
  type : Nat
  flags : Nat
  bcast : Bool
  addr : Nat
  arg : Nat
  at_ : Nat
  payload : List Byte
  deriving DecidableEq, Repr

/-- R412: what a WRITE or READ on its way round a lane is for: the access of FUR_ACC_CTL, the registers of R429 and R433, an
arming write of LMP, or LMP's read of the FAULT words of a sink and line, with the frame in which its lap began where it ends one, and
its clear. -/
inductive OpKind where
  | access
  | config
  | arm
  | fault (sink row : Nat) (lap : Option Nat)
  | clear
  deriving DecidableEq, Repr

/-- R412: a WRITE or READ awaited at FRTN: its lane, the seq it was sent with and how often it has failed. -/
structure FurOp where
  lane : Nat
  seq : Nat
  fails : Nat
  pkt : FurPkt
  kind : OpKind
  deriving DecidableEq, Repr

/-- R409 to R418: a companion. `id` is its ID register (0: nothing is attached there), `pos` its position and its index within its
kind; its step counter reads `base` more than the tile's; `front` and `back` hold the lines written with their 48 on-times;
`line` is the line in effect (none: LINE 0xFF, or no line yet), `row` the row output that is on, `lit` the channels of the line and
their on-times; `waitSync` that it drives nothing until a SYNC (R416). Registers that are shadow have two values. -/
structure Companion where
  id : Word
  pos : Option (Nat × Nat)
  locked : Bool
  waitSync : Bool
  base : Nat
  late : Nat
  missed : Nat
  slip : Nat
  crcErr : Nat
  ghost : Nat × Nat
  current : Nat × Nat
  rowFirst : Nat × Nat
  arm : Nat
  faults : List (Nat × Nat)
  held : List FurPkt
  front : List (Nat × List Nat)
  back : List (Nat × List Nat)
  line : Option Nat
  row : Option Nat
  lit : List (Nat × Nat)
  deriving DecidableEq, Repr

/-- Nothing attached, or a companion just powered up. -/
def Companion.absent : Companion :=
  { id := 0, pos := .none, locked := false, waitSync := true, base := 0, late := 0, missed := 0, slip := 0, crcErr := 0,
    ghost := (0x28, 0x28), current := (0x80, 0x80), rowFirst := (0, 0), arm := 0, faults := [], held := [], front := [],
    back := [], line := .none, row := .none, lit := [] }

/-- What FUR holds besides its registers. `seq` is the next seq of each lane, `ops` the WRITEs and READs awaited, oldest first,
`restart` the lanes that restart at the next tick (R431), `ran` those that have come up since they last started (R430), `syncOut` those
whose SYNC of this tick has not returned within 20 µs and `syncMissed` those of the tick before (R430), `joined` those that take part in this frame's subframes, `found` the ID
words of each lane by position (R411). Of the frame in progress: the step counter `c0` at its tick, its `gap` and how many subframes
`shown` fit, those `started`, those uploaded with the slots of at least 8 steps (R444) and the drive sums by sensor and class (R474), `lates` the late ones and whether
the event has been raised, `skip` that the rest is skipped (R434), `apply` that the first LINE applies new values (R433), until one has,
and `bad` the fetches of the next upload that were uncorrectable (R427). -/
structure Fur where
  seq : List (Nat × Nat)
  ops : List FurOp
  restart : List Nat
  ran : List Nat
  syncOut : List Nat
  syncMissed : List Nat
  joined : List Nat
  found : List (Nat × List Word)
  running : Bool
  c0 : Nat
  gap : Nat
  shown : Nat
  started : List Nat
  uploads : List (Nat × List (Nat × Nat) × List (List Nat))
  lates : List Nat
  lateRaised : Bool
  skip : Bool
  apply : Bool
  bad : List (Nat × Nat)
  comp : List (Nat × Companion)
  deriving DecidableEq, Repr

/-- R446, R447: a TEST of this frame: its execution step after the tick, its line, the subframe it follows, and the armed
channels by lane and sink, those whose arming write has still to be sent and those sent. -/
structure LampTest where
  at_ : Nat
  row : Nat
  after : Nat
  toArm : List (Nat × Nat × Nat)
  armed : List (Nat × Nat × Nat)
  deriving DecidableEq, Repr

/-- What LMP holds besides its registers. A line of a sink has the key (32 × lane + sink) × 64 + line, and its 48 channels are a
mask. `faults` holds four masks for each line: open suspect, open present, short suspect, short present (R449); `seen` the slots
observed since the line was last due (R445) and `since` those observed since its last read (R449); `tests` this frame's TESTs,
`sent` the execution steps after the tick of those sent, `results` the lines to be read after a TEST (R448), `sweep` the next sink and line of each lane and the frame in which its
lap began. `groups` is the group table in force, by group, as 9-byte numbers (R453), `next` the loaded one with its generation that
takes effect at the next tick, `loading` that a commit asks for a load, and `present` the exact present count of each group, with
those in no group under 4,096 (R452, R454). -/
structure Lmp where
  faults : List (Nat × Nat)
  seen : List (Nat × Nat)
  since : List (Nat × Nat)
  tests : List LampTest
  sent : List Nat
  results : List (Nat × Nat × Nat)
  missRaised : Bool
  sweep : List (Nat × Nat × Nat × Nat)
  groups : List (Nat × Nat)
  next : Option (Nat × List (Nat × Nat))
  loading : Bool
  present : List (Nat × Nat)
  deriving DecidableEq, Repr

/-- R471, R472: a 64-tap filter: its inputs, newest first, and the outputs still to be flagged invalid and settling. -/
structure Fir where
  hist : List Nat
  invalid : Nat
  settling : Nat
  deriving DecidableEq, Repr

/-- R470 to R475: a light sensor in the frame in progress: its lit and dark filters, the sums and counts of their valid outputs, and
whether a conversion has been saturated. -/
structure Sensor where
  lit : Fir
  dark : Fir
  litSum : Nat
  litN : Nat
  darkSum : Nat
  darkN : Nat
  sat : Bool
  deriving DecidableEq, Repr

/-- R478: the sums of a sensor over the frames it has contributed: n, D_k, L, L², D_k × D_l and D_k × L. -/
structure SensAcc where
  n : Nat
  d : List Nat
  l : Int
  ll : Int
  dd : List (List Nat)
  dl : List Int
  deriving DecidableEq, Repr

/-- R477 to R482: a solve. `anchor`, `dest`, `tag` and `cmd` are as at the write, `step` that accumulation has stopped and the step
runs, `ready` that it has finished, `passed` the sensors that passed, `gain` the active gains of the destination set when the step
began, `result` the new gain and spread of each solved class, `temps` the sum and count of T over contributed frames, `last` the
multiple of 64 of the last partial publication, `satSeen` the sensors whose saturation has been reported, `targets` the targets
at the start of the solve. -/
structure Solve where
  anchor : Bool
  dest : Nat
  step : Bool
  ready : Bool
  passed : List Nat
  gain : List Nat
  result : List (Option (Nat × Nat))
  temps : Int × Nat
  last : Nat
  satSeen : List Nat
  targets : List (List Nat)
  measured : Nat
  acc : List SensAcc
  deriving DecidableEq, Repr

/-- What CAL holds besides its registers. `drive` are the sums of on-times of the frame in progress by sensor and class (R474),
`everRan` that FUR_STATUS.state has read running (R487), `nextQ` the first sample instant of the frame not yet taken; of tick D, `ran` that FUR was running and every enabled lane up, and `temp`
T where temp_valid was 1 (R476). -/
structure Cal where
  sens : List Sensor
  drive : List (List Nat)
  everRan : Bool
  nextQ : Nat
  ran : Bool
  temp : Option Int
  solve : Option Solve
  deriving DecidableEq, Repr

/-- A filter without history, and a sensor that has measured nothing. -/
def Fir.clear : Fir := { hist := [], invalid := 0, settling := 0 }
def Sensor.clear : Sensor :=
  { lit := Fir.clear, dark := Fir.clear, litSum := 0, litN := 0, darkSum := 0, darkN := 0, sat := false }

/-- R506: one audio sample, 24 bits, with its flags. -/
structure AudVal where
  v : Int
  mute : Bool
  settle : Bool
  deriving DecidableEq, Repr

/-- R502, R507: an ASRC engine: the ports it serves; `started` that its history is full, and `acc` the sum of the ratios of its outputs
in units of 2^-30. -/
structure Engine where
  ports : List Nat
  started : Bool
  acc : Nat
  deriving DecidableEq, Repr

/-- R511, R514: a received audio sheaf that is held: the presentation time of its first sample (48 bits of TB0), the system
rate, its channels, flags and samples. -/
structure HeldAudio where
  stream : Nat
  pt : Nat
  fs : Nat
  channels : Nat
  mute : Nat
  settle : Nat
  samples : List Int
  deriving DecidableEq, Repr

/-- R511: what a sender has still to send of a stream: the frame, its next sheaf, and the sheaves sent since the tick. -/
structure StreamCursor where
  frame : Nat
  next : Nat
  sent : Nat
  deriving DecidableEq, Repr

/-- What AUD holds besides its registers. `anchor` is D0 and N0 (R494), `sys` the system samples by 512 × sample + channel, `got` the
direct input ports that have given the current grid sample and `fed` those that have given any, `misaligned` the ports found so,
`cursors` the sender streams, `produced` the sample after the last one sent (R508), `held` the received sheaves, `lateRaised` that
audio-late has been raised in this frame, `mutedFrame` the frame in which AUD was last reset (R518). -/
structure Aud where
  anchor : Option (Nat × Nat)
  sys : List (Nat × AudVal)
  engines : List Engine
  got : List Nat
  fed : List Nat
  misaligned : List Nat
  cursors : List (Nat × StreamCursor)
  produced : Nat
  held : List HeldAudio
  lateRaised : Bool
  mutedFrame : Option Nat
  deriving DecidableEq, Repr

/-- An engine that is not used. -/
def Engine.idle : Engine := { ports := [], started := false, acc := 0 }

/-- R532: a request within one 256-byte access as the DRAM controller queues it: the requester, the level (0 urgent, 1 real-time, 2
normal, 3 idle), its device memory address and length, for a write its bytes (none written for a Gleaner write-back, which
restores what is stored), the code words that it writes poisoned (R563), and the TCLK cycle of its arrival. -/
structure DramReq where
  req : Nat
  level : Nat
  addr : Nat
  len : Nat
  write : Bool
  data : List Byte
  poison : List Nat
  merged : Bool
  arrived : Nat
  deriving DecidableEq, Repr

/-- What the DRAM controller holds of a group besides its registers. `queue` are the requests, oldest first; `reading` the reads
issued whose bursts have not been decoded, with the 256 bytes read; `rows` the open row by bank (R531), `hits` the consecutive
open-row requests chosen ahead of the oldest (R533), `act` the activation counters of the 16 banks, `watch` the requesters of the
ACTs observed by bank (R542), `throttled` the throttled requesters with the bank, `last` the TCLK cycle of each requester's last
request, `derate` the derating polled and not yet applied (R541), `forced` that forced-refresh has been raised in this frame interval, `quiet` the TCLK
cycle of the last arrival or issue of a request (R538) and `calm` that in which a counter last stood at warn or above (R542). -/
structure DmcGroup where
  queue : List DramReq
  reading : List (DramReq × List Byte)
  rows : List (Nat × Nat)
  hits : Nat
  act : Vector Nat 16
  watch : List (Nat × List Nat)
  throttled : List (Nat × Nat)
  last : List (Nat × Nat)
  derate : Nat
  forced : Bool
  quiet : Nat
  calm : Nat
  deriving DecidableEq, Repr

/-- What DMC holds besides its registers: its groups, the density of the population (true: 32 Gb, R524, known once trained), the
frequency change queued by target and op_tag (R545) with the TCLK cycle of its go, and that an operating point has finished training since the last publication
point (R548). -/
structure Dmc where
  grp : Vector DmcGroup 2
  dense : Bool
  freq : Option (Nat × Nat)
  freqAt : Nat
  publish : Bool
  deriving DecidableEq, Repr

/-- An idle group. -/
def DmcGroup.idle : DmcGroup :=
  { queue := [], reading := [], rows := [], hits := 0, act := Vector.replicate 16 0, watch := [], throttled := [],
    last := [], derate := 0, forced := false, quiet := 0, calm := 0 }

/-- What MEC holds besides its registers. `valid` are the valid granules (R564), in rising order; `fills` the fills in progress,
oldest first, with the write that began them (R566); `locks` the 256-byte accesses locked by a read-modify-write (R562), by group
and DRAM offset div 256; `poison` the code words stored poisoned, by DRAM offset div 16 (R563). `scrub` are the scrub queues of the
groups and `back` the accesses to be written back (R559, R571), `pos` the Gleaner's next access of each group and `readAt` the
TCLK cycle of its last read there (R570), `lapStart` the TCLK cycle
at which the lap began and `slow` that lap-slow has been raised in it. `trim` is the range of the trim in progress (R567); `recent` are
the TCLK cycles of the corrections of each channel within its window (R560, R579) and `burst` that of the last correctable-burst. -/
structure Mec where
  valid : List Nat
  fills : List (Nat × DramReq)
  locks : List Nat
  poison : List Nat
  scrub : Vector (List Nat) 2
  back : List Nat
  pos : Vector Nat 2
  readAt : Vector Nat 2
  lapStart : Nat
  slow : Bool
  trim : Option (Nat × Nat)
  recent : List (Nat × Nat)
  burst : List (Nat × Nat)
  deriving DecidableEq, Repr

/-- What HKP holds besides its registers. `slots` counts the slots ended since the release of PORST_N. `vcore` is the most recent valid
VDD_CORE reading in mV; `ro` the most recent valid reading of each oscillator, with the slot count at which it was made, and `roOk` the
oscillators whose last reading was valid (R585, R586); `vLow` the held V_low of each diode in units of 5 µV (R583, R588); `panel` the most
recent valid reading of each panel sensor with its slot count (R590), `round` the valid ones of the round in progress (R584); `railOut` and
`railIn` the consecutive rounds in which each rail was out of its window, or in it (R587); `ntcBad` the tables found bad (R589); `blind` that
panel-blind has been raised (R590); `shut` the cause of the shut-down in progress (R597, R598). -/
structure Hkp where
  slots : Nat
  vcore : Option Int
  ro : List (Nat × Int × Nat)
  roOk : List Nat
  vLow : List (Nat × Nat)
  panel : List (Nat × Int × Nat)
  round : List (Nat × Int)
  railOut : Vector Nat 9
  railIn : Vector Nat 9
  ntcBad : List Nat
  blind : Bool
  shut : Option Nat
  deriving DecidableEq, Repr

/-- R606 to R610: an occurrence in its stage: the stamp word with the source number, its seq, instance and frame, its
detail area (16 or 40 bytes), and the routing it had when it was staged (R621). -/
structure Staged where
  src : Nat
  stamp : Nat
  lost : Bool
  seq : Nat
  inst : Nat
  frame : Nat
  detail : List Byte
  cfg : Word
  deriving DecidableEq, Repr

/-- What EVT holds besides its registers. -/
structure Evt where
  /-- R607: the occurrences staged, oldest first; at most 64 of each source. -/
  stage : List Staged
  /-- R607: the sources whose next accepted occurrence carries lost = 1. -/
  lostNext : List Nat
  /-- R608: the source the round-robin served last. -/
  lastServed : Nat
  /-- R611: the Granary ring, by ring position; a position not listed holds zeros. -/
  gring : List (Nat × List Byte)
  /-- R612: the TCLK cycles in which the entries not yet drained were written, oldest first. -/
  writtenAt : List Nat
  /-- R616: MSI-X requests whose record is in the Granary ring and waits to be drained: the index after it and the vector. -/
  msixWait : List (Nat × Nat)
  /-- R616: vectors whose message may be sent. -/
  msixReady : List Nat
  /-- R616: vectors in their holdoff, the TCLK cycles in which it ends, and the vectors with a request held. -/
  holdoff : List Nat
  holdEnds : List (Nat × Nat)
  heldReq : List Nat
  /-- R618, R675: occurrences to be sent toward the holder: source, TCLK cycle of the record, and entry bytes. -/
  forward : List (Nat × Nat × List Byte)
  /-- R623: ring-high has been raised and not fallen; the DRAM ring has overwritten since EVT_DRAM_RD was written;
  forward-drop has been raised in this frame interval. -/
  ringHigh : Bool
  overwrote : Bool
  fwdDropRaised : Bool
  /-- R621: shut-down has begun, so the writer takes nothing more. -/
  stopped : Bool
  deriving DecidableEq, Repr

/-- R646: an update command: its words, its identifier and, of one that came as a message, the port it came in on and its
originator. -/
structure Update where
  op : Nat
  region : Nat
  arg : Nat
  offset : Nat
  length : Nat
  id : Nat
  sender : Option (Port × Nat)
  deriving DecidableEq, Repr

/-- What the flash operation in progress serves: an update command that is held, or the load of a slot in a pause by R648
or R651; `trial` says that the slot is put in trial. -/
inductive FlashJob where
  | update
  | load (slot : Nat) (trial : Bool)
  | fallBack (slot : Nat)
  deriving DecidableEq, Repr

/-- R643, R644: a configuration set whose records are running: its place, its number and version, the index of the next
record, the records that have not run, and the TCLK cycle since which the first of them waits. -/
structure CfgLoad where
  chain : Bool
  set : Nat
  version : Nat
  next : Nat
  recs : List (List Byte)
  since : Nat
  deriving DecidableEq, Repr

/-- What BOOT/FWU holds besides its registers. -/
structure Boot where
  /-- R627: the boot ROM has started. -/
  rom : Bool
  /-- R639: the boot ROM is choosing a flash slot. -/
  choosing : Bool
  /-- R639, R652: an image runs. -/
  running : Bool
  /-- R646: the update command held. -/
  held : Option Update
  /-- R646: the flash operation in progress. -/
  job : Option FlashJob
  /-- R649: update commands and roll call triggers that wait for the end of the pause. -/
  waiting : List Update
  rollWait : List Port
  /-- R650: the trial deadline, in TCLK cycles, and the slot that was current before the trial. -/
  trialEnd : Option Nat
  before : Option Nat
  /-- R637: the key slots whose signatures the running image carries. -/
  keys : List Nat
  /-- R643: the configuration set whose records run; a load has begun since the start. -/
  load : Option CfgLoad
  loadBegun : Bool
  deriving DecidableEq, Repr

/-- R662, R663, R669, R670: what the PCI endpoint holds besides its registers: the link, and of its configuration space Bus
Master Enable, Memory Space Enable, MSI-X Enable and Function Mask. -/
structure Pci where
  link : Bool
  bme : Bool
  mse : Bool
  msixEn : Bool
  msixMask : Bool
  /-- R687: poisoned-completion has been raised in this frame interval. -/
  poisonRaised : Bool
  deriving DecidableEq, Repr

/-- R674: a response that the management port keeps, with the address and UDP port of its request and its seq. -/
structure MgeReply where
  ip : Nat
  port : Nat
  seq : Nat
  body : List Byte
  deriving DecidableEq, Repr

/-- R673: a remote request of the management port that waits for its completion, with its target and its request body. -/
structure MgeRemote where
  ip : Nat
  port : Nat
  seq : Nat
  cmdId : Nat
  dst : Nat
  req : List Byte
  deriving DecidableEq, Repr

/-- What the management port holds besides its registers: `kept` newest first, `waiting` oldest first, and whether request-denied
has been raised in this frame interval (R687). -/
structure Mge where
  kept : List MgeReply
  waiting : List MgeRemote
  denied : Bool
  deriving DecidableEq, Repr

/-- R679: the binary load that the monitor is receiving: into BOOT_STAGE or the chain buffer, from `off`, `len` bytes with CRC-32C `crc`. -/
structure MonLoad where
  chain : Bool
  off : Nat
  len : Nat
  crc : Nat
  deriving DecidableEq, Repr

/-- R678: an @ command that waits for its completion. -/
structure MonRemote where
  cmdId : Nat
  dst : Nat
  req : List Byte
  deriving DecidableEq, Repr

/-- What DBG holds besides its registers: the monitor's lines that wait for the end of a pause (R680), the load in progress, the @ commands
sent and the TCLK cycle of the last line (R690), and the boundary register of the test access port (R684), bit k cell k: its shift stage
and its update stage. -/
structure Mon where
  waiting : List MonLine
  load : Option MonLoad
  remote : List MonRemote
  lineAt : Nat
  shift : BoundaryCells
  update : BoundaryCells
  deriving DecidableEq, Repr

/-- The machine's state. Every field but `pending`, `freeCtr` and `out` is state that the spec names; `pending` is the queue of
waiting commands, first in, first out, `freeCtr` counts the free values taken (the model's own field, log entry 2), and
`out` is what the block has put on its pins and wires so far, oldest first (the model's own field, log entry 5). -/
structure State where
  /-- The waiting commands, first in, first out. -/
  pending : List Instr
  /-- The number of free values taken so far (the model's own field; log entry 2). -/
  freeCtr : Nat
  /-- What the block has put on its pins and wires, oldest first (the model's own field; log entry 5). -/
  out : List Output
  /-- R27: the registers as software reads them at their own offsets (the shadow set of the shadowed ones). Addresses rise strictly; a register not listed reads its reset value. -/
  regs : List (Nat × Word)
  /-- R27: the active set of the shadowed registers, in the same form. -/
  act : List (Nat × Word)
  /-- Granary (from 0x0400_0000) and DRAM (from 0x40_0000_0000) by device memory address (R665). Addresses rise strictly; a byte not listed reads zero (R575, R562). -/
  mem : List Host.Cell
  /-- The flash, by byte offset; a byte not listed reads 0xFF, as an erased one does (R629). -/
  flash : List Host.Cell
  /-- GLB and the package. -/
  glb : Glb
  /-- The time bases and the timing engine. -/
  tmb : Tmb
  /-- The four Slauf ports. -/
  slk : Vector SlkPort 4
  /-- The sheaf exchange and roll call. -/
  sxq : Sxq
  /-- Duplicate discard, leases and digests. -/
  red : Red
  /-- The sixteen source slots of INP. -/
  src : Vector Source 16
  /-- The compositor. -/
  cmp : Cmp
  /-- Scan-out. -/
  scn : Scn
  /-- Tile reception, correction and the frame store. -/
  cor : Cor
  /-- The Furrow drive, and the companions on its lanes by 64 × lane + place. -/
  fur : Fur
  /-- Lamp diagnostics. -/
  lmp : Lmp
  /-- Calibration. -/
  cal : Cal
  /-- Audio. -/
  aud : Aud
  /-- The DRAM controller. -/
  dmc : Dmc
  /-- DRAM protection, the granule bitmap and the Gleaner. -/
  mec : Mec
  /-- The housekeeping round. -/
  hkp : Hkp
  /-- The event stages and the Ledger. -/
  evt : Evt
  /-- Start-up and firmware update. -/
  boot : Boot
  /-- The PCIe endpoint. -/
  pci : Pci
  /-- The management port. -/
  mge : Mge
  /-- The Gelle monitor. -/
  mon : Mon
  deriving DecidableEq, Repr

/-- The machine right after reset: the first VBAT has just been applied and PORST_N is low. Every register reads the value
of its register map, no memory byte has been written, and no command waits (R110, R622, R654; log entries 1, 3, 6). -/
def State.reset : State where
  pending := []
  freeCtr := 0
  out := []
  regs := []
  act := []
  mem := []
  flash := []
  glb := { held := true, fuses := { uid := 1, grade := 0, ethMac := Vector.replicate 2 0, mgeMac := 0, pciId := 0, pciSubsys := 0, roKv := 0, roCal := Vector.replicate 16 0, boot := 0, keyHash := Vector.replicate 2 0 }, commit := none, subtree := [], snapArmed := false, hold := Vector.replicate 4 0, aonLatch := none, aonFrom := 0, bothSets := false, image := 0, aonTemps := 0x80008000, therm := false }
  tmb := { tb := Vector.replicate 8 { cnt := 0, integ := 0, unlockRun := 0, changedAt := 0, fedAt := 0 }, tclk := 0, nextTick := 0, armed := false, firstFrame := 0, rate := 9, hop := Vector.replicate 4 { results := [], invalidRun := 0, req := none }, timingSeq := Vector.replicate 4 0, upstream := none, hops := 0, ptp := [], ptpMaster := none, edge := Vector.replicate 8 none, syncInLost := false, syncInTb0 := 0 }
  slk := Vector.replicate 4 SlkPort.idle
  sxq := { reserved := [], order := [], outstanding := [], outcomes := [], fenced := [], seen := [], roll := Vector.replicate 4 PortRoll.idle, opPorts := [], opBad := false, opRunning := false, pairCD := false, pairSeen := [], taken := [], recordLost := [] }
  red := { slots := Vector.replicate 16 StreamSlot.free, port := Vector.replicate 4 RedPort.idle, holder := none, noSlotRaised := false }
  src := Vector.replicate 16 Source.off
  cmp := { frame := 0, done := false, latest := none, scan := none, zeroed := [], repeated := false, dropped := false, loaf := { entries := [], use := [], needed := 0, cap := 0, tag := 0, begun := false, told := false, restart := false } }
  scn := { port := Vector.replicate 4 { todo := [], idx := 0, digest := false }, frame := 0, canvas := none, repeated := false, sigs := [], running := false, monRaised := false }
  cor := Cor.idle
  fur := { seq := [], ops := [], restart := [], ran := [], syncOut := [], syncMissed := [], joined := [], found := [], running := false, c0 := 0, gap := 0, shown := 0, started := [], uploads := [], lates := [], lateRaised := false, skip := false, apply := false, bad := [], comp := [] }
  lmp := { faults := [], seen := [], since := [], tests := [], sent := [], results := [], missRaised := false, sweep := [], groups := [], next := none, loading := false, present := [] }
  cal := { sens := List.replicate 8 Sensor.clear, drive := [], everRan := false, nextQ := 0, ran := false, temp := none, solve := none }
  aud := { anchor := none, sys := [], engines := List.replicate 8 Engine.idle, got := [], fed := [], misaligned := [], cursors := [], produced := 0, held := [], lateRaised := false, mutedFrame := none }
  dmc := { grp := Vector.replicate 2 DmcGroup.idle, dense := false, freq := none, freqAt := 0, publish := false }
  mec := { valid := [], fills := [], locks := [], poison := [], scrub := Vector.replicate 2 [], back := [], pos := Vector.replicate 2 0, readAt := Vector.replicate 2 0, lapStart := 0, slow := false, trim := none, recent := [], burst := [] }
  hkp := { slots := 0, vcore := none, ro := [], roOk := [], vLow := [], panel := [], round := [], railOut := Vector.replicate 9 0, railIn := Vector.replicate 9 0, ntcBad := [], blind := false, shut := none }
  evt := { stage := [], lostNext := [], lastServed := 511, gring := [], writtenAt := [], msixWait := [], msixReady := [], holdoff := [], holdEnds := [], heldReq := [], forward := [], ringHigh := false, overwrote := false, fwdDropRaised := false, stopped := false }
  boot := { rom := false, choosing := false, running := false, held := none, job := none, waiting := [], rollWait := [], trialEnd := none, before := none, keys := [], load := none, loadBegun := false }
  pci := { link := false, bme := false, mse := false, msixEn := false, msixMask := false, poisonRaised := false }
  mge := { kept := [], waiting := [], denied := false }
  mon := { waiting := [], load := none, remote := [], lineAt := 0, shift := 0, update := 0 }

end Sys2Proof.Machine
end

