-- ==== Sys2Proof/Machine/Operands.lean ====
section
/-!
DEFINITION. Operand forms: little-endian bytes and words, the detail area of an event record (R610), the header of a
sheaf (R135), the link control unit (R143), the timing payloads (R97, R131) and the slot and message layouts (R189).
-/

namespace Sys2Proof.Machine

/-- `n` bytes of a number, least significant first. -/
def leBytes : Nat → Nat → List Byte
  | 0, _ => []
  | n + 1, v => BitVec.ofNat 8 v :: leBytes n (v / 256)

/-- The number that bytes spell, least significant first. -/
def leNat : List Byte → Nat
  | [] => 0
  | b :: t => b.toNat + 256 * leNat t

/-- `n` bytes of a number, most significant first. -/
def beBytes (n v : Nat) : List Byte := (leBytes n v).reverse

/-- The number that bytes spell, most significant first. -/
def beNat (b : List Byte) : Nat := leNat b.reverse

/-- `n` zero bytes. -/
def zeros (n : Nat) : List Byte := List.replicate n 0

/-- The `n` bytes of a list from position `i`, with zeros past its end. -/
def slice (b : List Byte) (i n : Nat) : List Byte :=
  let t := (b.drop i).take n
  t ++ zeros (n - t.length)

/-- The little-endian number in the `n` bytes from position `i`. -/
def leAt (b : List Byte) (i n : Nat) : Nat := leNat (slice b i n)

/-- 32-bit words as bytes. -/
def wordsBytes (ws : List Word) : List Byte := ws.flatMap (fun w => leBytes 4 w.toNat)

/-- The words that bytes spell, with zeros past the end. -/
def bytesWords (n : Nat) (b : List Byte) : List Word :=
  (List.range n).map (fun i => BitVec.ofNat 32 (leAt b (4 * i) 4))

/-- R610: values placed in a detail area, each at the next offset that is a multiple of its size. -/
def packFrom (at0 : Nat) : List (Nat × Nat) → List Byte
  | [] => []
  | (n, v) :: t =>
    let pad := (n - at0 % n) % n
    zeros pad ++ leBytes n v ++ packFrom (at0 + pad + n) t

/-- R610: the detail area of an event, 16 bytes, or 40 where the values need more. -/
def detailArea (vs : List (Nat × Nat)) : List Byte :=
  let b := packFrom 0 vs
  if b.length ≤ 16 then slice b 0 16 else slice b 0 40

/-- R135: the 32 bytes of a sheaf's header, with its CRC. -/
def Sheaf.header (s : Sheaf) : List Byte :=
  let w0 := 0x5A + s.vc.val * 2 ^ 8 + b2n s.husk * 2 ^ 10 + b2n s.retx * 2 ^ 12 + b2n s.last * 2 ^ 13 +
    b2n s.first * 2 ^ 14 + b2n s.dir * 2 ^ 15 + s.payload.length % 2 ^ 13 * 2 ^ 16
  let b := leBytes 4 w0 ++ leBytes 2 s.seq ++ leBytes 2 s.linkSeq ++ leBytes 2 s.dstQ ++ leBytes 2 s.srcQ ++
    leBytes 4 s.frame ++ leBytes 2 s.stream ++ leBytes 2 s.index ++ leBytes 1 s.hop ++ leBytes 1 0 ++
    leBytes 4 s.crc ++ leBytes 2 0 ++ leBytes 1 s.epoch ++ leBytes 1 0
  b ++ leBytes 2 (crc16 b)

/-- R135, R136: the sheaf that 32 header bytes and a payload spell; none where the start byte, the CRC or the length
is wrong. -/
def parseSheaf (h payload : List Byte) : Option Sheaf :=
  let w0 := leAt h 0 4
  if h.length ≠ 32 ∨ bits w0 7 0 ≠ 0x5A ∨ leAt h 30 2 ≠ crc16 (slice h 0 30) ∨ 4096 < bits w0 28 16 then none
  else
    some { vc := Fin.ofNat 4 (bits w0 9 8), dir := w0.testBit 15, first := w0.testBit 14, last := w0.testBit 13,
           retx := w0.testBit 12, husk := w0.testBit 10, seq := leAt h 4 2, linkSeq := leAt h 6 2, dstQ := leAt h 8 2,
           srcQ := leAt h 10 2, frame := leAt h 12 4, stream := leAt h 16 2, index := leAt h 18 2, hop := leAt h 20 1,
           crc := leAt h 22 4, code := 0, epoch := leAt h 28 1, payload := slice payload 0 (bits w0 28 16) }

/-- R140: the bushels a sheaf occupies. -/
def Sheaf.bushels (s : Sheaf) : Nat := ceilDiv (32 + s.payload.length) 256

/-- R156: the husk of a sheaf. -/
def Sheaf.toHusk (s : Sheaf) : Sheaf := { s with husk := true, payload := [], crc := 0 }

/-- R135: the payload as it leaves, padded with zero bytes to whole units. -/
def Sheaf.padded (s : Sheaf) : List Byte := s.payload ++ zeros (16 * ceilDiv s.payload.length 16 - s.payload.length)

/-- R139: link-local sheaves. -/
def Sheaf.linkLocal (s : Sheaf) : Bool := s.stream == 0xFFFF

/-- R185: the device index and the class of a queue index. -/
def qDev (q : Nat) : Nat := q / 64 % 1024
def qCls (q : Nat) : Nat := q % 64

/-- R186: the virtual channel of a class. -/
def classVc (c : Nat) : Fin 4 :=
  if c < 8 then 2 else if c < 0x10 then 3 else if c < 0x30 then 0 else if c < 0x38 then 1 else 2

/-- R143: the 16 bytes of a link control unit. -/
def lcuBytes (f0 f1 f2 f3 ack2 ack3 : Nat) (v2 v3 : Bool) : List Byte :=
  let b := leBytes 1 0x3C ++ leBytes 1 (b2n v2 + 2 * b2n v3) ++ leBytes 2 ack2 ++ leBytes 2 ack3 ++ leBytes 2 f0 ++
    leBytes 2 f1 ++ leBytes 2 f2 ++ leBytes 2 f3
  b ++ leBytes 2 (crc16 b)

/-- R97: the 192-bit payload of a SYNC set. -/
def syncPayload (b : SyncBlock) : Nat :=
  bits b.tb0 47 16 * 2 ^ 160 + bits b.tb0 15 0 * 2 ^ 144 + bits b.tb1 47 16 * 2 ^ 112 + bits b.tb1 15 0 * 2 ^ 96 +
    b.nextFrame % 2 ^ 32 * 2 ^ 64 + b.nextTickNs % 2 ^ 32 * 2 ^ 32 + b.nextTickRem % 16 * 2 ^ 28 + b.rate % 32 * 2 ^ 23 +
    b.hops % 128 * 2 ^ 16 + b.leaderState % 4 * 2 ^ 14 + b2n b.frameValid * 2 ^ 13

/-- R131: the payload of a DELAY_RESP. -/
def delayRespPayload (t2 t3 seq : Nat) : Nat :=
  t2 % 2 ^ 48 * 2 ^ 144 + t3 % 2 ^ 48 * 2 ^ 96 + seq % 256 * 2 ^ 88

/-- R189: the 16-byte header of a slot. -/
def slotHeader (cmdId bodyLen status peer target : Nat) : List Byte :=
  leBytes 4 cmdId ++ leBytes 2 bodyLen ++ leBytes 1 status ++ leBytes 1 0 ++ leBytes 2 peer ++ leBytes 2 0 ++
    leBytes 4 target

/-- R47: a status word. -/
def statusWord (phase code : Nat) (partialValid : Bool) (progress seq tag : Nat) : Nat :=
  phase % 8 * 2 ^ 29 + code % 16 * 2 ^ 25 + b2n partialValid * 2 ^ 24 + progress % 128 * 2 ^ 16 + seq % 256 * 2 ^ 8 + tag % 256

end Sys2Proof.Machine
end

