-- ==== Sys2Proof/Machine/Crypto.lean ====
section
/-!
DEFINITION. SHA-384 of FIPS 180-4 and the P-384 signature check of FIPS 186-5, which R635 and R636 name. The spec points at
the standards, so their constants are PRESUMED from them (log entry 26).
-/

namespace Sys2Proof.Machine

/-! ### SHA-384 -/

/-- The greatest `r` of `k` bits with `r ^ e ≤ n`. -/
def rootBits (e n : Nat) : Nat → Nat → Nat
  | 0, r => r
  | k + 1, r => rootBits e n k (if (r + 2 ^ k) ^ e ≤ n then r + 2 ^ k else r)

/-- The first eighty primes. -/
def primes80 : List Nat :=
  (List.range 410).filter (fun n => decide (2 ≤ n) && (List.range n).all (fun d => decide (d < 2) || n % d != 0))

/-- FIPS 180-4: the round constants, the first 64 fraction bits of the primes' cube roots. -/
def shaK : List (BitVec 64) := primes80.map (fun p => BitVec.ofNat 64 (rootBits 3 (p * 2 ^ 192) 68 0))

/-- FIPS 180-4: the initial value, the first 64 fraction bits of the square roots of the ninth to sixteenth prime. -/
def shaInit : List (BitVec 64) := ((primes80.drop 8).take 8).map (fun p => BitVec.ofNat 64 (rootBits 2 (p * 2 ^ 128) 68 0))

/-- FIPS 180-4: the functions of a round. -/
def shaSum0 (x : BitVec 64) : BitVec 64 := x.rotateRight 28 ^^^ x.rotateRight 34 ^^^ x.rotateRight 39
def shaSum1 (x : BitVec 64) : BitVec 64 := x.rotateRight 14 ^^^ x.rotateRight 18 ^^^ x.rotateRight 41
def shaMix0 (x : BitVec 64) : BitVec 64 := x.rotateRight 1 ^^^ x.rotateRight 8 ^^^ (x >>> 7)
def shaMix1 (x : BitVec 64) : BitVec 64 := x.rotateRight 19 ^^^ x.rotateRight 61 ^^^ (x >>> 6)

/-- FIPS 180-4: one round over the working variables and the last sixteen words of the schedule. -/
def shaRound (x : List (BitVec 64) × List (BitVec 64)) (k : BitVec 64) : List (BitVec 64) × List (BitVec 64) :=
  match x.1, x.2 with
  | [a, b, c, d, e, f, g, h], w0 :: w =>
    let t1 := h + shaSum1 e + ((e &&& f) ^^^ (~~~e &&& g)) + k + w0
    let t2 := shaSum0 a + ((a &&& b) ^^^ (a &&& c) ^^^ (b &&& c))
    let next := shaMix1 (w.getD 13 0) + w.getD 8 0 + shaMix0 (w.getD 0 0) + w0
    ([t1 + t2, a, b, c, d + t1, e, f, g], w ++ [next])
  | v, w => (v, w)

/-- FIPS 180-4: a block of 128 bytes is taken into the hash value. -/
def shaBlock (hv : List (BitVec 64)) (block : List Byte) : List (BitVec 64) :=
  let w := (List.range 16).map (fun i => BitVec.ofNat 64 (beNat (slice block (8 * i) 8)))
  List.zipWith (· + ·) hv (shaK.foldl shaRound (hv, w)).1

/-- The blocks of a padded message, one for each element of the first list. -/
def shaBlocks (hv : List (BitVec 64)) : Nat → List Byte → List (BitVec 64)
  | 0, _ => hv
  | n + 1, m => shaBlocks (shaBlock hv (m.take 128)) n (m.drop 128)

/-- FIPS 180-4: the SHA-384 hash of a message, as a number whose first byte is the most significant. -/
def sha384 (m : List Byte) : Nat :=
  let pad := (239 - m.length % 128) % 128
  let p := m ++ [0x80] ++ zeros pad ++ beBytes 16 (8 * m.length)
  ((shaBlocks shaInit (p.length / 128) p).take 6).foldl (fun n w => n * 2 ^ 64 + w.toNat) 0

/-! ### ECDSA over P-384 -/

/-- P-384: the field, the order and the coefficient b, and the base point. -/
abbrev p384P : Nat := 2 ^ 384 - 2 ^ 128 - 2 ^ 96 + 2 ^ 32 - 1
abbrev p384N : Nat := 0xffffffffffffffffffffffffffffffffffffffffffffffffc7634d81f4372ddf581a0db248b0a77aecec196accc52973
abbrev p384B : Nat := 0xb3312fa7e23ee7e4988e056be3f82d19181d9c6efe8141120314088f5013875ac656398d8a2ed19d2a85c8edd3ec2aef
abbrev p384Gx : Nat := 0xaa87ca22be8b05378eb1c71ef320ad746e1d3b628ba79b9859f741e082542a385502f25dbf55296c3a545e3872760ab7
abbrev p384Gy : Nat := 0x3617de4a96262c6f5d9e98bf9292dc29f8f41dbd289a147ce9da3113b5f0b8c00a60b1ce1d7e819d7a431d7c90ea0e5f

/-- `b ^ e` modulo `m`, where `e` has at most `k` bits. -/
def powMod (m : Nat) : Nat → Nat → Nat → Nat
  | 0, _, _ => 1
  | k + 1, b, e => (if e % 2 = 1 then b else 1) * powMod m k (b * b % m) (e / 2) % m

/-- The inverse modulo a prime of 384 bits. -/
def invMod (m a : Nat) : Nat := powMod m 384 (a % m) (m - 2)

/-- A point of the curve; none is the point at infinity. -/
abbrev P384Point := Option (Nat × Nat)

/-- The sum of two points. -/
def p384Add (a b : P384Point) : P384Point :=
  match a, b with
  | none, q => q
  | q, none => q
  | some (x1, y1), some (x2, y2) =>
    if x1 = x2 ∧ (y1 + y2) % p384P = 0 then none
    else
      let l :=
        if x1 = x2 then (3 * x1 * x1 + (p384P - 3)) * invMod p384P (2 * y1) % p384P
        else (y2 + p384P - y1) * invMod p384P (x2 + p384P - x1) % p384P
      let x3 := (l * l + 2 * p384P - x1 - x2) % p384P
      some (x3, (l * (x1 + p384P - x3) + p384P - y1) % p384P)

/-- A multiple of a point, by a number of at most `k` bits. -/
def p384Mul : Nat → P384Point → Nat → P384Point
  | 0, _, _ => none
  | k + 1, q, n =>
    let r := p384Mul k (p384Add q q) (n / 2)
    if n % 2 = 1 then p384Add q r else r

/-- A pair of numbers is a point of the curve. -/
def onCurve (x y : Nat) : Bool :=
  decide (x < p384P) && decide (y < p384P) && (y * y) % p384P == (x * x * x + (p384P - 3) * x + p384B) % p384P

/-- FIPS 186-5: the signature (`r`, `t`) of the hash `z` verifies with the public key (`x`, `y`). -/
def ecdsaVerify (x y r t z : Nat) : Bool :=
  if !onCurve x y || r == 0 || t == 0 || decide (p384N ≤ r) || decide (p384N ≤ t) then false
  else
    let w := invMod p384N t
    match p384Add (p384Mul 384 (some (p384Gx, p384Gy)) (z * w % p384N)) (p384Mul 384 (some (x, y)) (r * w % p384N)) with
    | none => false
    | some (px, _) => px % p384N == r

end Sys2Proof.Machine
end

