-- ==== Sys2Proof/Machine/Block.lean ====
section
/-!
DEFINITION. Ordered sets of a Slauf port as blocks of 16 bytes (chapter 03, R124, R129, R130, R160): markers, timing sets and the
training sets TS1 and TS2.
-/

namespace Sys2Proof.Machine

/-- R161: the link version of this device. -/
abbrev linkVersion : Nat := 0x10

/-- R124: a single-block set: the CRC-32C of bytes 4 to 15 in bytes 0 to 3. -/
def sealed (tail : List Byte) : List Byte := leBytes 4 (crc32c tail) ++ tail

/-- R124: the CRC of a single-block set is correct. -/
def blockOk (b : List Byte) : Bool := leAt b 0 4 == crc32c (slice b 4 12)

/-- R124: byte 15, the type of an ordered set. -/
def blockType (b : List Byte) : Nat := leAt b 15 1

/-- R129, R160: the lane field of a marker or a training set. -/
def blockLane (b : List Byte) : Nat := leAt b 14 1 / 16

/-- R129: the alignment marker on a lane. -/
def markerBlock (lane count next : Nat) : List Byte :=
  sealed (zeros 6 ++ leBytes 2 next ++ leBytes 1 count ++ leBytes 1 0 ++ leBytes 1 (lane * 16) ++ leBytes 1 0xA0)

/-- R129: next_unit of a marker. -/
def markerNext (b : List Byte) : Nat := leAt b 10 2

/-- R129: next_unit, where `left` units of the sheaf in progress and `idle` idle units follow the marker before a unit that begins a
header or a link control unit: 1,024 code words hold 16,384 units. -/
def nextUnitOf (left idle : Nat) : Nat := if left + idle < 16384 then left + idle else 0xFFFF

/-- R130: the two blocks of a timing set. -/
def timingBlocks (kind seq payload : Nat) : List Byte × List Byte :=
  let b0 := leBytes 13 (payload / 2 ^ 88) ++ leBytes 1 seq ++ leBytes 1 kind ++ leBytes 1 0xD1
  let b1 := leBytes 11 payload ++ leBytes 1 0xD2
  (b0, leBytes 4 (crc32c (b0 ++ b1)) ++ b1)

/-- R160: TS1 on a lane. -/
def ts1Block (lane preset request : Nat) : List Byte :=
  sealed (zeros 8 ++ leBytes 1 request ++ leBytes 1 preset ++ leBytes 1 (lane * 16) ++ leBytes 1 0xE1)

/-- R160: TS2 on a lane. -/
def ts2Block (lane port role uid : Nat) : List Byte :=
  sealed (zeros 4 ++ leBytes 4 (uid / 2 ^ (32 * lane)) ++ leBytes 1 0 ++ leBytes 1 linkVersion ++
    leBytes 1 (lane * 16 + port * 4 + role) ++ leBytes 1 0xE2)

/-- R160: the request field of TS1. -/
def ts1Request (b : List Byte) : Nat := leAt b 12 1

/-- R160: the change that a 2-bit pair of a request asks for, applied to a coefficient that is counted in steps from its preset. -/
def pairStep (pair : Nat) (x : Int) : Int :=
  if pair = 1 then x + 1 else if pair = 2 then x - 1 else if pair = 3 then 0 else x

/-- R160: a nibble of a request: its two pairs, the low one first (DESIGN CHOICE, log entry 66). -/
def nibbleStep (n : Nat) (x : Int) : Int := pairStep (n / 4 % 4) (pairStep (n % 4) x)

/-- R120, R160: the set that carries a lane number, among the sets of the four receive lanes. -/
def laneSet (sets : Vector (List Byte) 4) (k : Nat) : List Byte := (sets.toList.find? (fun b => blockLane b == k)).getD []

/-- R159: the four lanes are numbered. -/
def lanesNumbered (sets : Vector (List Byte) 4) : Bool :=
  (List.range 4).all (fun k => sets.toList.any (fun b => blockLane b == k))

/-- R169: the lane order is reversed. -/
def lanesReversed (sets : Vector (List Byte) 4) : Bool := sets.toList.map blockLane == [3, 2, 1, 0]

/-- R160, R162: what the TS2 of a peer tell: its UID, port letter, strapped role and version. -/
def peerUidOf (sets : Vector (List Byte) 4) : Nat :=
  ((List.range 4).map (fun k => leAt (laneSet sets k) 8 4 * 2 ^ (32 * k))).sum
def peerPortOf (sets : Vector (List Byte) 4) : Nat := bits (leAt (laneSet sets 0) 14 1) 3 2
def peerRoleOf (sets : Vector (List Byte) 4) : Nat := bits (leAt (laneSet sets 0) 14 1) 1 0
def peerVersionOf (sets : Vector (List Byte) 4) : Nat := leAt (laneSet sets 0) 13 1

end Sys2Proof.Machine
end

