-- ==== Sys2Proof/Machine/Ops.lean ====
section
/-!
DEFINITION. The named operations over registers, memory and time that every block's meanings use, and the occurrence of
an event (R606, R607, R615, R616).
-/

namespace Sys2Proof.Machine

/-! ### Sparse stores in canonical form -/

/-- What a sparse store holds at key `k`, where `d` gives what an unlisted key holds. -/
def sGet {α : Type} (d : Nat → α) : List (Nat × α) → Nat → α
  | [], k => d k
  | (k', v) :: t, k => if k = k' then v else sGet d t k

/-- A sparse store with `v` at key `k`. A value equal to what an unlisted key holds is not listed. -/
def sPut {α : Type} [DecidableEq α] (d : Nat → α) : List (Nat × α) → Nat → α → List (Nat × α)
  | [], k, v => if v = d k then [] else [(k, v)]
  | (k', v') :: t, k, v =>
    if k < k' then (if v = d k then (k', v') :: t else (k, v) :: (k', v') :: t)
    else if k = k' then (if v = d k then t else (k, v) :: t)
    else (k', v') :: sPut d t k v

/-- The canonical form: keys rise strictly above `lo`, and no entry equals what an unlisted key holds. -/
def sWf {α : Type} [DecidableEq α] (d : Nat → α) : Nat → List (Nat × α) → Bool
  | _, [] => true
  | lo, (k, v) :: t => decide (lo ≤ k) && decide (v ≠ d k) && sWf d (k + 1) t

/-! ### The state with one part changed -/

/-- The state with what GLB holds besides its registers changed. -/
def State.modGlb (s : State) (f : Glb → Glb) : State := { s with glb := f s.glb }

/-- The state with what TMB holds besides its registers changed. -/
def State.modTmb (s : State) (f : Tmb → Tmb) : State := { s with tmb := f s.tmb }

/-- The state with what the exchange holds besides its registers changed. -/
def State.modSxq (s : State) (f : Sxq → Sxq) : State := { s with sxq := f s.sxq }

/-- The state with what RED holds besides its registers changed. -/
def State.modRedAll (s : State) (f : Red → Red) : State := { s with red := f s.red }

/-- The state with what the compositor holds besides its registers changed. -/
def State.modCmp (s : State) (f : Cmp → Cmp) : State := { s with cmp := f s.cmp }

/-- The state with what scan-out holds besides its registers changed. -/
def State.modScnAll (s : State) (f : Scn → Scn) : State := { s with scn := f s.scn }

/-- The state with what the tile correction holds besides its registers changed. -/
def State.modCor (s : State) (f : Cor → Cor) : State := { s with cor := f s.cor }

/-- The state with what the Furrow drive holds besides its registers changed. -/
def State.modFur (s : State) (f : Fur → Fur) : State := { s with fur := f s.fur }

/-- The state with what lamp diagnostics holds besides its registers changed. -/
def State.modLmp (s : State) (f : Lmp → Lmp) : State := { s with lmp := f s.lmp }

/-- The state with what calibration holds besides its registers changed. -/
def State.modCal (s : State) (f : Cal → Cal) : State := { s with cal := f s.cal }

/-- The state with what AUD holds besides its registers changed. -/
def State.modAud (s : State) (f : Aud → Aud) : State := { s with aud := f s.aud }

/-- The state with what DMC holds besides its registers changed. -/
def State.modDmc (s : State) (f : Dmc → Dmc) : State := { s with dmc := f s.dmc }

/-- The state with what MEC holds besides its registers changed. -/
def State.modMec (s : State) (f : Mec → Mec) : State := { s with mec := f s.mec }

/-- The state with what HKP holds besides its registers changed. -/
def State.modHkp (s : State) (f : Hkp → Hkp) : State := { s with hkp := f s.hkp }

/-- The state with what EVT holds besides its registers changed. -/
def State.modEvt (s : State) (f : Evt → Evt) : State := { s with evt := f s.evt }

/-- The state with what BOOT/FWU holds besides its registers changed. -/
def State.modBoot (s : State) (f : Boot → Boot) : State := { s with boot := f s.boot }

/-- The state with what the PCI endpoint holds besides its registers changed. -/
def State.modPci (s : State) (f : Pci → Pci) : State := { s with pci := f s.pci }

/-- The state with what the management port holds besides its registers changed. -/
def State.modMge (s : State) (f : Mge → Mge) : State := { s with mge := f s.mge }

/-- The state with what the monitor holds besides its registers changed. -/
def State.modMon (s : State) (f : Mon → Mon) : State := { s with mon := f s.mon }

/-- The state with only some registers left as they are; the others read their reset values. -/
def State.keepRegs (s : State) (p : Nat → Bool) : State := { s with regs := s.regs.filter (fun r => p r.1) }

/-- The state with only some bytes of memory left as they are; the others read as bytes that nothing has written. -/
def State.keepMem (s : State) (p : Nat → Bool) : State := { s with mem := s.mem.filter (fun c => p c.1) }

/-- The state with only some bytes of flash left as they are; the others read erased. -/
def State.keepFlash (s : State) (p : Nat → Bool) : State := { s with flash := s.flash.filter (fun c => p c.1) }

/-! ### Registers -/

/-- The register at device offset `o` as the block holds it (the shadow value of a shadowed one). -/
def State.rd (s : State) (o : Nat) : Word := sGet resetReg s.regs o

/-- The state with register `o` at `v`. -/
def State.wr (s : State) (o : Nat) (v : Word) : State := { s with regs := sPut resetReg s.regs o v }

/-- R27: the active value of the register at `o`; that of a register without a shadow is its one value. -/
def State.rdA (s : State) (o : Nat) : Word := if shadowed o then sGet resetReg s.act o else s.rd o

/-- The state with the active value of register `o` at `v`. -/
def State.wrA (s : State) (o : Nat) (v : Word) : State := { s with act := sPut resetReg s.act o v }

/-- Bits [hi:lo] of a register. -/
def State.fld (s : State) (o hi lo : Nat) : Nat := bits (s.rd o).toNat hi lo

/-- Bits [hi:lo] of a register's active value. -/
def State.fldA (s : State) (o hi lo : Nat) : Nat := bits (s.rdA o).toNat hi lo

/-- One bit of a register. -/
def State.bit (s : State) (o i : Nat) : Bool := (s.rd o).toNat.testBit i

/-- One bit of a register's active value. -/
def State.bitA (s : State) (o i : Nat) : Bool := (s.rdA o).toNat.testBit i

/-- The state with a register at the low 32 bits of a number. -/
def State.wrN (s : State) (o v : Nat) : State := s.wr o (BitVec.ofNat 32 v)

/-- The state with bits [hi:lo] of a register replaced. -/
def State.setFld (s : State) (o hi lo v : Nat) : State := s.wrN o (putBits (s.rd o).toNat hi lo v)

/-- The state with one bit of a register set or cleared. -/
def State.setBit (s : State) (o i : Nat) (b : Bool) : State := s.setFld o i i (b2n b)

/-- R167, R212, R246, R624: a 32-bit counter advanced by `n`, which saturates at 0xFFFF_FFFF. -/
def State.inc (s : State) (o : Nat) (n : Nat := 1) : State := s.wrN o (min 0xFFFFFFFF ((s.rd o).toNat + n))

/-- A counter in bits [hi:lo] advanced by `n`, which saturates. -/
def State.incFld (s : State) (o hi lo : Nat) (n : Nat := 1) : State :=
  s.setFld o hi lo (min (2 ^ (hi + 1 - lo) - 1) (s.fld o hi lo + n))

/-- R46: a counter advanced by `n` modulo 2^32. -/
def State.bump (s : State) (o : Nat) (n : Nat := 1) : State := s.wrN o ((s.rd o).toNat + n)

/-- A counter moved back by `n` modulo 2^32. -/
def State.unbump (s : State) (o : Nat) (n : Nat := 1) : State := s.wrN o (subMod 32 (s.rd o).toNat n)

/-- A counter in bits [hi:lo] advanced by `n` modulo its width. -/
def State.bumpFld (s : State) (o hi lo : Nat) (n : Nat := 1) : State := s.setFld o hi lo (s.fld o hi lo + n)

/-- A 64-bit value in the two words at `o` and `o + 4`. -/
def State.wr64 (s : State) (o v : Nat) : State := (s.wrN o v).wrN (o + 4) (v / 2 ^ 32)

/-- The 64-bit value of the two words at `o` and `o + 4`. -/
def State.rd64 (s : State) (o : Nat) : Nat := (s.rd o).toNat + 2 ^ 32 * (s.rd (o + 4)).toNat

/-- The active 40-bit address in the two words at `o` and `o + 4`. -/
def State.addrA (s : State) (o : Nat) : Nat := (s.rdA o).toNat + 2 ^ 32 * s.fldA (o + 4) 7 0

/-- The 40-bit address in the two words at `o` and `o + 4`. -/
def State.addr (s : State) (o : Nat) : Nat := (s.rd o).toNat + 2 ^ 32 * s.fld (o + 4) 7 0

/-! ### Outputs and free values -/

/-- The state after the block puts `o` on its pins or wires. -/
def State.emit (s : State) (o : Output) : State := { s with out := s.out ++ [o] }

/-- The next free value, and the state that has taken it (log entry 2). -/
def State.free (s : State) : Nat × State := (Config.freeNat s.freeCtr, { s with freeCtr := s.freeCtr + 1 })

/-- R80: the crystal cycles that end in `k` TCLK cycles from cycle `t` on. -/
def crystalCycles (t : Nat) : Nat → Nat
  | 0 => 0
  | k + 1 => b2n (Config.crystalEdge (t + k)) + crystalCycles t k

/-- R80: AON_SUBSEC now: the count it was last set to and the crystal cycles since. Its passage through 32,767 is a command of its own,
until which it stands there (log entry 65). -/
def State.aonSub (s : State) : Nat :=
  min 32767 (s.fld Reg.AON_SUBSEC 14 0 + crystalCycles s.glb.aonFrom (s.tmb.tclk - s.glb.aonFrom))

/-- R80: AON_SUBSEC is set to `v` now. -/
def State.aonSet (s : State) (v : Nat) : State :=
  (s.wrN Reg.AON_SUBSEC v).modGlb (fun g => { g with aonFrom := s.tmb.tclk })

/-- R80: AON_SUBSEC after the time in reset, which no TCLK cycle measures: it has counted on by a free value and has not run back
within the second (log entry 2). -/
def State.aonLook (s : State) : State :=
  let v := s.free
  let old := s.aonSub
  v.2.aonSet (old + v.1 % (2 ^ 15 - old))

/-- A conditional effect. -/
def State.when (s : State) (c : Bool) (f : State → State) : State := if c then f s else s

/-- R1, R26: a command's effect where its condition holds; otherwise the command changes nothing. -/
def gate (c : Bool) (f : State → State) (s : State) : Host.Outcome State Fault Refusal :=
  .next (if c then f s else s)

/-! ### Modes and roles -/

/-- R59: the running mode, 0 sender, 1 tile, 2 fallow, 3 factory test. -/
def State.mode (s : State) : Nat := s.fld Reg.GLB_STATE 31 30

/-- R11: the strapped role. -/
def State.role (s : State) : Nat := s.fld Reg.GLB_IDENT 5 4

/-- The device is out of reset. -/
def State.live (s : State) : Bool := !s.glb.held

/-! ### The DRAM population -/

/-- R9, R523: the ECC groups of the role. -/
def State.groups (s : State) : Nat := if s.role = 0 then 2 else if s.role = 1 then 1 else 0

/-- R525: the data capacity of the population in bytes. -/
def State.dramCap (s : State) : Nat := s.groups * ((if s.dmc.dense then 32 else 16) * 2 ^ 30)

/-- R554: DMC_STATUS.state. -/
def State.dmcState (s : State) : Nat := s.fld Reg.DMC_STATUS 31 29

/-- R732: DRAM is in use: the DMC runs, or changes frequency. -/
def State.dramUp (s : State) : Bool := s.dmcState == 2 || s.dmcState == 3

/-! ### Memory -/

/-- R665: the device memory addresses of Granary and of DRAM. -/
abbrev granaryBase : Nat := 0x04000000
abbrev granarySize : Nat := 0x03000000
abbrev dramBase : Nat := 0x4000000000

/-- What a byte of Granary or DRAM that nothing has written reads as: zero (R562, R575). -/
def memDefault (_ : Nat) : Byte := 0

/-- One byte of device memory. -/
def State.byte (s : State) (a : Nat) : Byte := sGet memDefault s.mem a

/-- The state with one byte of device memory written. -/
def State.setByte (s : State) (a : Nat) (b : Byte) : State := { s with mem := sPut memDefault s.mem a b }

/-- R735, R525, R526, R732: whether an access to the byte at device memory address `a` reaches memory: DRAM within the population
while the DMC runs, and the Granary that the strap powers. Addresses in neither hold nothing (log entry 24). -/
def State.memOk (s : State) (a : Nat) : Bool :=
  if dramBase ≤ a then s.dramUp && decide (a < dramBase + s.dramCap)
  else decide (granaryBase ≤ a) && decide (a < granaryBase + granarySize) &&
    !(s.role == 2 && decide (granaryBase + 0x400000 ≤ a))

/-- A byte of device memory as an access reads it: zero where the access does not reach memory (R526, R732, R735). -/
def State.memByte (s : State) (a : Nat) : Byte := if s.memOk a then s.byte a else 0

/-- `n` bytes of device memory from address `a`. -/
def State.rdMem (s : State) (a n : Nat) : List Byte := (List.range n).map (fun i => s.memByte (a + i))

/-- The bytes from address `a` upward replaced. -/
def State.wrRaw (s : State) (a : Nat) : List Byte → State
  | [] => s
  | b :: t => (s.setByte a b).wrRaw (a + 1) t

/-- The little-endian number in `n` bytes of device memory. -/
def State.memLe (s : State) (a n : Nat) : Nat := leNat (s.rdMem a n)

/-- The canonical form of memory. -/
def Memory.wf (m : List Host.Cell) : Bool := sWf memDefault 0 m

/-- What a byte of flash that nothing has programmed reads as (R629). -/
def flashDefault (_ : Nat) : Byte := 0xFF

/-- `n` bytes of the flash from offset `a`. -/
def State.rdFlash (s : State) (a n : Nat) : List Byte := (List.range n).map (fun i => sGet flashDefault s.flash (a + i))

/-- The state with one byte of the flash written. -/
def State.setFlash (s : State) (a : Nat) (b : Byte) : State := { s with flash := sPut flashDefault s.flash a b }

/-- The state with flash bytes replaced from offset `a` upward. -/
def State.wrFlash (s : State) (a : Nat) : List Byte → State
  | [] => s
  | b :: t => (s.setFlash a b).wrFlash (a + 1) t

/-! ### Roles in use -/

/-- R1: the device runs as a sender, or as a tile. -/
def State.sender (s : State) : Bool := s.live && s.mode == 0
def State.tile (s : State) : Bool := s.live && s.mode == 1
def State.fallow (s : State) : Bool := s.live && s.mode == 2

/-- R9: what the role powers: SLK ports, and the device windows by their number in the register map. -/
def portOn (role : Nat) (p : Port) : Bool := role == 0 || role == 1 || (role == 2 && decide (p.val < 2))

/-- R9: whether the role powers the block of register window `w` (device offset div 64 KiB). In factory test the spec
lists no block; the model powers those of the fallow column but the link (log entry 11). -/
def windowOn (role w : Nat) : Bool :=
  match w with
  | 0x0 => true
  | 0x1 => true
  | 0x2 => true
  | 0x15 => true
  | 0x10 => true
  | 0x3 => true
  | 0x4 => true
  | 0x5 => role != 3
  | 0x6 => role != 3
  | 0x7 => role == 0 || role == 1
  | 0x8 => role == 0
  | 0x9 => role == 0 || role == 1
  | 0xA => role == 0
  | 0xB => role == 0 || role == 1
  | 0xC => role == 1
  | 0xD => role == 1
  | 0xE => role == 1
  | 0xF => role == 1
  | 0x11 => role == 0 || role == 1
  | 0x12 => role == 0 || role == 1
  | 0x13 => role == 0
  | 0x14 => role == 0
  | _ => role != 3

/-- R25, R59: GLB_FRAME is valid. -/
def State.frameValid (s : State) : Bool := s.bit Reg.GLB_STATE 23

/-- The number of the current frame interval. -/
def State.frame (s : State) : Nat := (s.rd Reg.GLB_FRAME).toNat

/-- R609: the frame as records and leases carry it. -/
def State.frameOrNone (s : State) : Nat := if s.frameValid then s.frame else 0xFFFFFFFF

/-- The unit UID (R58). -/
def State.uid (s : State) : Nat := s.glb.fuses.uid

/-- R178, R60, R210: the device's own index: that of its configuration on a sender, and the assigned one on any other device, a
device strapped as a sender in fallow mode among them. -/
def State.selfIdx (s : State) : Nat :=
  if s.mode == 0 then s.fld Reg.SXQ_INDEX_SELF 9 0 else s.fld Reg.GLB_DEVIDX 9 0

/-! ### Time -/

/-- R70: the visible 48 bits of a time base, nanoseconds above fraction. -/
def State.tb48 (s : State) (n : TbIx) : Nat := s.tmb.tb[n].cnt / 2 ^ 26 % 2 ^ 48

/-- R70: the nanosecond field of a time base. -/
def State.tbNs (s : State) (n : TbIx) : Nat := s.tmb.tb[n].cnt / 2 ^ 42 % 2 ^ 32

/-- R73: a bare stamp of 48 bits of a time base. -/
def stampOf (n : Nat) (t : Nat) : Nat := t % 2 ^ 48 * 2 ^ 16 + n % 8 * 2 ^ 13

/-- R73: the bare stamp of a time base now. -/
def State.stamp (s : State) (n : TbIx) : Nat := stampOf n.val (s.tb48 n)

/-- R76: the signed difference of two 48-bit counts. -/
def diff48 (a b : Nat) : Int := sx 48 (subMod 48 a b)

/-! ### Events -/

/-- R615: the entries an occurrence takes. -/
def entriesOf (detail : List Byte) : Nat := if detail.length ≤ 16 then 1 else 2

/-- R616: the message and interrupt that an occurrence requests at once, by its routing: those without a record, and the
control cores. -/
def State.route (s : State) (cfg : Word) (src : Nat) (noRecord : Bool) : State :=
  let r := bits cfg.toNat 29 28
  let s := if r / 2 = 1 then s.emit (.coreIrq src) else s
  if noRecord && r % 2 == 1 && s.role == 0 then
    s.modEvt (fun g => { g with msixReady := s.evt.msixReady ++ [bits cfg.toNat 8 0] })
  else s

/-- R606, R607, R615, R616: an occurrence of event source `src`, of unit `inst`, with the stamp word `stamp` and the
values that it carries. -/
def State.raiseAt (s : State) (src inst stamp : Nat) (vals : List (Nat × Nat)) : State :=
  let d := detailArea vals
  let n := entriesOf d
  let cfg := s.rd (Reg.EVT_SRC_CFG src)
  let seq := s.fld (Reg.EVT_SEQ src) 15 0
  let s := s.setFld (Reg.EVT_SEQ src) 15 0 (seq + 1)
  let s := s.setBit (Reg.EVT_PEND (src / 32)) (src % 32) true
  if !cfg.toNat.testBit 31 then
    ((s.bump Reg.EVT_PRODUCED).bump Reg.EVT_DROPPED).route cfg src true
  else if (s.evt.stage.filter (fun e => e.src == src)).length < 64 then
    let e : Staged := { src := src, stamp := stamp, lost := s.evt.lostNext.contains src, seq := seq, inst := inst,
                        frame := s.frameOrNone, detail := d, cfg := cfg }
    let s := s.modEvt (fun g => { g with stage := s.evt.stage ++ [e], lostNext := s.evt.lostNext.filter (· != src) })
    ((s.bump Reg.EVT_PRODUCED n).bump Reg.EVT_STAGED n).route cfg src false
  else
    let s := s.modEvt (fun g => { g with lostNext := src :: s.evt.lostNext.filter (· != src) })
    (((s.inc (Reg.EVT_LOSS src)).bump Reg.EVT_PRODUCED n).bump Reg.EVT_DROPPED n).route cfg src true

/-- An occurrence stamped now in time base `tb`. -/
def State.raise (s : State) (src inst : Nat) (tb : TbIx) (vals : List (Nat × Nat)) : State :=
  s.raiseAt src inst (s.stamp tb) vals

/-- The instance of an event that has none (R609). -/
abbrev noInst : Nat := 0xFFFF

/-- R26, R65: an engine's overrun flag is set. -/
def State.overrun (s : State) (i : Nat) : State := s.setBit Reg.GLB_OVERRUN i true

/-! ### Writes to memory -/

/-- A number put into a list in rising order, once. -/
def insertOnce (n : Nat) : List Nat → List Nat
  | [] => [n]
  | m :: t => if n < m then n :: m :: t else if n = m then m :: t else m :: insertOnce n t

/-- R526, R552: an access to no DRAM: DMC_ADDR_ERR and the address-error event, with the requester and the address. -/
def State.addrError (s : State) (req a : Nat) : State :=
  (s.inc Reg.DMC_ADDR_ERR).raise 440 noInst 0 [(1, req), (8, a)]

/-- R564: the granule of a DRAM address. -/
def granuleOf (a : Nat) : Nat := (a - dramBase) / 4096

/-- R564, R578: a granule's valid bit is set. -/
def State.setValid (s : State) (g : Nat) : State :=
  if s.mec.valid.contains g then s
  else (s.modMec (fun b => { b with valid := insertOnce g s.mec.valid })).bump Reg.MEC_GRAN_VALID

/-- R566: a write to a granule whose bit is 0 fills it, and its bit is set. -/
def State.fillGranule (s : State) (g : Nat) : State :=
  if s.mec.valid.contains g then s else (s.inc Reg.MEC_FILLS).setValid g

/-- R526, R561, R563, R566, R732, R735: requester `req` writes bytes from address `a` upward, and code words covered whole lose their
poison. Where they do not reach memory they are
discarded, in DRAM with an address error for each 256-byte access. -/
def State.wrMem (s : State) (req a : Nat) (b : List Byte) : State :=
  let n := b.length
  if n = 0 then s
  else if s.memOk a && s.memOk (a + n - 1) then
    if dramBase ≤ a then
      let s := (List.range (granuleOf (a + n - 1) + 1 - granuleOf a)).foldl (fun (s : State) i => s.fillGranule (granuleOf a + i)) s
      let lo := ceilDiv (a - dramBase) 16
      let hi := (a + n - dramBase) / 16
      (s.modMec (fun g => { g with poison := s.mec.poison.filter (fun w => !(decide (lo ≤ w) && decide (w < hi))) })).wrRaw a b
    else s.wrRaw a b
  else if dramBase ≤ a then
    (List.range ((a + n - 1) / 256 + 1 - a / 256)).foldl (fun s i => s.addrError req (max a ((a / 256 + i) * 256))) s
  else s

/-- R59, R728: the device enters fallow mode. -/
def State.enterFallow (s : State) (cause : Nat) : State :=
  ((s.setFld Reg.GLB_STATE 31 30 2).setFld Reg.GLB_STATE 29 26 cause).raise 1 noInst 0 [(1, cause)]

/-! ### Commands and their books (R46) -/

/-- R46: a command is posted to the device. -/
def State.cmdPosted (s : State) : State := (s.bump Reg.GLB_CMD_POSTED).bump Reg.GLB_CMD_PENDING

/-- R46: a pending command completes with a code. -/
def State.cmdDone (s : State) (code : Nat) : State :=
  (if code = Code.DISCARDED then s.bump Reg.GLB_CMD_DISCARDED else s.bump Reg.GLB_CMD_COMPLETED).unbump
    Reg.GLB_CMD_PENDING

/-! ### Ports -/

/-- The four ports. -/
def ports : List Port := [0, 1, 2, 3]

/-- The state with what a port holds changed. -/
def State.modSlk (s : State) (p : Port) (f : SlkPort → SlkPort) : State :=
  { s with slk := s.slk.set p (f s.slk[p]) }

/-- The state with a port's roll call changed. -/
def State.modRoll (s : State) (p : Port) (f : PortRoll → PortRoll) : State :=
  s.modSxq (fun x => { x with roll := x.roll.set p (f x.roll[p]) })

/-- The state with what RED holds of a port changed. -/
def State.modRed (s : State) (p : Port) (f : RedPort → RedPort) : State :=
  s.modRedAll (fun x => { x with port := x.port.set p (f x.port[p]) })

/-- The state with a time base changed. -/
def State.modTb (s : State) (n : TbIx) (f : Tb → Tb) : State :=
  s.modTmb (fun x => { x with tb := x.tb.set n (f x.tb[n]) })

/-- The port of a number. -/
def portOf (n : Nat) : Port := Fin.ofNat 4 n

end Sys2Proof.Machine
end

