-- ==== Sys2Proof/Machine/Tmb.lean ====
section
/-!
DEFINITION. The time bases, the servo, the reference sources and the always-on counter (chapter 02, R68 to R116, R733).
Offsets and stamps are numbers in units of 2^-16 ns; a tick value is in ninths of a nanosecond.
-/

namespace Sys2Proof.Machine

/-- R111, R605: the event sources of TMB. -/
abbrev Ev.wrap : Nat := 64
abbrev Ev.step : Nat := 65
abbrev Ev.lock : Nat := 66
abbrev Ev.unlock : Nat := 67
abbrev Ev.holdover : Nat := 68
abbrev Ev.clamp : Nat := 69
abbrev Ev.tb1Far : Nat := 70
abbrev Ev.frameValid : Nat := 71
abbrev Ev.frameMismatch : Nat := 72
abbrev Ev.syncInLost : Nat := 73
abbrev Ev.syncInBack : Nat := 74
abbrev Ev.hopRange : Nat := 75
abbrev Ev.sourceChange : Nat := 76
abbrev Ev.ptpMaster : Nat := 77
abbrev Ev.announceTimeout : Nat := 78
abbrev Ev.linkLong : Nat := 105

/-- R115: the servo states. -/
abbrev Servo.off : Nat := 0
abbrev Servo.acquisition : Nat := 1
abbrev Servo.locked : Nat := 2
abbrev Servo.holdover : Nat := 3
abbrev Servo.freeRunning : Nat := 4

/-! ### Counting -/

/-- R69, R71: the amount a time base advances in one TCLK cycle, in units of 2^-42 ns. -/
def State.tbInc (s : State) (n : TbIx) : Int :=
  5 * 2 ^ 40 + 5 * (if n.val = 7 then 0 else sx 32 (s.rd (Reg.TMB_TB_FREQ n.val)).toNat)

/-- R69, R70, R78: one time base after `k` TCLK cycles, and a wrap event for every rollover of its nanosecond field, stamped in the
cycle of that rollover. -/
def State.tbAdvance (s : State) (k : Nat) (n : TbIx) : State :=
  let c := s.tmb.tb[n].cnt
  let inc := (s.tbInc n).toNat
  let c' := c + k * inc
  let s := s.modTb n (fun t => { t with cnt := c' % 2 ^ 74 })
  (List.range (c' / 2 ^ 74)).foldl (fun (s : State) i =>
    s.raiseAt Ev.wrap n.val (stampOf n.val ((c + ceilDiv ((i + 1) * 2 ^ 74 - c) inc * inc) % 2 ^ 74 / 2 ^ 26)) []) s

/-- The eight time bases. -/
def timeBases : List TbIx := [0, 1, 2, 3, 4, 5, 6, 7]

/-- Time passes by `k` TCLK cycles in which no frequency word changes. -/
def State.pass (s : State) (k : Nat) : State :=
  let s := timeBases.foldl (fun s n => s.tbAdvance k n) s
  s.modTmb (fun g => { g with tclk := s.tmb.tclk + k })

/-- R72: TB6's frequency word takes TB0's, where the two differ. -/
def State.copyFreq (s : State) : State :=
  if s.rd (Reg.TMB_TB_FREQ 6) = s.rd (Reg.TMB_TB_FREQ 0) then s else s.wr (Reg.TMB_TB_FREQ 6) (s.rd (Reg.TMB_TB_FREQ 0))

/-- R72: time passes by `k` TCLK cycles (log entry 4); TB6 takes TB0's frequency word in the cycle after a change to it, so the first
cycle still adds TB6's old increment. -/
def State.advance (s : State) (k : Nat) : State :=
  match k with
  | 0 => s
  | k + 1 => ((s.pass 1).copyFreq).pass k

/-- R112: a frequency word takes effect. -/
def State.setFreq (s : State) (n : TbIx) (f : Int) : State := s.wrN (Reg.TMB_TB_FREQ n.val) (tc 32 f)

/-! ### The servo -/

/-- R115: the state of a servo. -/
def State.servo (s : State) (n : TbIx) : Nat := s.fld (Reg.TMB_TB_SERVO_STATUS n.val) 31 29

/-- The state with a servo's state field at `x`. -/
def State.setServo (s : State) (n : TbIx) (x : Nat) : State := s.setFld (Reg.TMB_TB_SERVO_STATUS n.val) 31 29 x

/-- R68: the sources that a time base's servo may use, by the running role. -/
def sourcePermitted (isSender : Bool) (n src : Nat) : Bool :=
  if src = 0 then true
  else if n = 0 then src == 2 || (isSender && src == 1)
  else if n = 1 then src == 2 || (isSender && (src == 3 || src == 4))
  else if n ≤ 5 then src == 5
  else false

/-- R113: the source in force; one that R68 does not permit acts as none. -/
def State.servoSource (s : State) (n : TbIx) : Nat :=
  let src := s.fld (Reg.TMB_TB_SERVO_CTL n.val) 6 4
  if sourcePermitted (s.mode == 0) n.val src then src else 0

/-- R112: adj_limit. -/
def State.adjLimit (s : State) (n : TbIx) : Int := (s.fld (Reg.TMB_TB_SERVO_LIMIT n.val) 30 0 : Nat)

/-- R115: clamped reads 1 while freq or integ is at adj_limit. -/
def State.refreshClamped (s : State) (n : TbIx) : State :=
  let lim := s.adjLimit n
  let f := sx 32 (s.rd (Reg.TMB_TB_FREQ n.val)).toNat
  let i := s.tmb.tb[n].integ
  s.setBit (Reg.TMB_TB_SERVO_STATUS n.val) 28 (decide (lim ≤ f.natAbs) || decide (lim ≤ i.natAbs))

/-- R89, R111: a servo that was locked and no longer is raises unlock; an entry into holdover raises the holdover event instead. -/
def State.unlockIf (s : State) (n : TbIx) (was : Nat) : State :=
  if was = Servo.locked ∧ s.servo n ≠ Servo.locked then s.raise Ev.unlock n.val n [] else s

/-- R86, R90: the count of a time base changes by the signed amount `e` in one cycle, its hidden fraction kept or cleared. R86 returns the
servo to acquisition; one whose mode is off has nothing to acquire and stays off by R89 (DESIGN CHOICE, log entry 10). -/
def State.tbJump (s : State) (n : TbIx) (e : Int) (clearHidden : Bool) : State :=
  let pre := s.stamp n
  let c := s.tmb.tb[n].cnt
  let hidden := if clearHidden then 0 else c % 2 ^ 26
  let c' := tc 48 ((c / 2 ^ 26 : Nat) + e) * 2 ^ 26 + hidden
  let s := s.modTb n (fun t => { t with cnt := c', changedAt := s.tmb.tclk, unlockRun := 0 })
  let s := s.wr64 (Reg.TMB_TB_STEP_LO n.val) (tc 64 e)
  let s := s.incFld (Reg.TMB_TB_SERVO_STATUS n.val) 23 16
  let s := s.setFld (Reg.TMB_TB_SERVO_STATUS n.val) 4 0 0
  let was := s.servo n
  let s := if was = Servo.off then s else s.setServo n Servo.acquisition
  (s.raise Ev.step n.val n [(8, pre), (8, s.stamp n)]).unlockIf n was

/-- R86: a step. -/
def State.tbStep (s : State) (n : TbIx) (e : Int) : State := s.tbJump n e false

/-- R89: the servo enters holdover, where freq is integ. -/
def State.enterHoldover (s : State) (n : TbIx) : State :=
  if s.servo n = Servo.holdover then s
  else (((s.setServo n Servo.holdover).setFreq n s.tmb.tb[n].integ).refreshClamped n).raise Ev.holdover n.val n []

/-- R89: lock and unlock by the measurement `e`. -/
def State.servoLock (s : State) (n : TbIx) (e : Int) : State :=
  let st := Reg.TMB_TB_SERVO_STATUS n.val
  let lockThr := s.fld (Reg.TMB_TB_SERVO_LOCK n.val) 15 0 * 2 ^ 14
  let unlockThr := s.fld (Reg.TMB_TB_SERVO_LOCK n.val) 31 16 * 2 ^ 14
  let s := if e.natAbs ≤ lockThr then s.setFld st 4 0 (min 16 (s.fld st 4 0 + 1)) else s.setFld st 4 0 0
  if s.servo n = Servo.acquisition then
    if 16 ≤ s.fld st 4 0 then
      ((s.modTb n (fun t => { t with unlockRun := 0 })).setServo n Servo.locked).raise Ev.lock n.val n []
    else s
  else if s.servo n = Servo.locked then
    if unlockThr < e.natAbs then
      if 3 ≤ s.tmb.tb[n].unlockRun then
        ((s.modTb n (fun t => { t with unlockRun := 0 })).setServo n Servo.acquisition).raise Ev.unlock n.val n []
      else s.modTb n (fun t => { t with unlockRun := t.unlockRun + 1 })
    else s.modTb n (fun t => { t with unlockRun := 0 })
  else s

/-- R85: the proportional and integral terms. -/
def State.servoAdjust (s : State) (n : TbIx) (e : Int) : State :=
  let g := Reg.TMB_TB_SERVO_GAIN n.val
  let lim := s.adjLimit n
  let i0 := s.tmb.tb[n].integ + asr (e * (s.fld g 15 8 : Nat)) (s.fld g 4 0)
  let i1 := clampI (-lim) lim i0
  let f0 := i1 + asr (e * (s.fld g 31 24 : Nat)) (s.fld g 20 16)
  let f1 := clampI (-lim) lim f0
  let s := (s.modTb n (fun t => { t with integ := i1 })).setFreq n f1
  let s := s.refreshClamped n
  if i0 = i1 ∧ f0 = f1 then s else s.raise Ev.clamp n.val n []

/-- R87: whether the servo may step. -/
def State.stepPermitted (s : State) (n : TbIx) : Bool :=
  !s.bit (Reg.TMB_TB_SERVO_CTL n.val) 7 && !(n.val == 1 && s.frameValid)

/-- R112: the rate of TMB_TBn_AUDIO in Hz; none for the codes the table does not give. -/
def audioRate (code : Nat) : Option Nat :=
  match code with
  | 0 => some 44100
  | 1 => some 48000
  | 2 => some 88200
  | 3 => some 96000
  | 4 => some 176400
  | 5 => some 192000
  | _ => none

/-- R492: fs_sys. -/
def State.fsSys (s : State) : Nat := if s.bitA Reg.AUD_CTL 4 then 96000 else 48000

/-- R501: ρ of a group as u2.30, which saturates. -/
def State.ratioOf (s : State) (g : Nat) : Nat :=
  let f := fun (n : Nat) => (2 ^ 40 : Int) + sx 32 (s.rd (Reg.TMB_TB_FREQ n)).toNat
  let fs := (audioRate (s.fldA (Reg.AUD_GRP_CTL g) 26 24)).getD 0
  min 0xFFFFFFFF (((fs : Int) * f (2 + g) * 2 ^ 30).fdiv ((s.fsSys : Int) * f 0)).toNat

/-- R506: the settling count of an engine is at least `n`. -/
def State.settleAsrc (s : State) (a n : Nat) : State :=
  s.setFld (Reg.AUD_ASRC_STATUS a) 6 0 (max n (s.fld (Reg.AUD_ASRC_STATUS a) 6 0))

/-- R502: engine `a` serves the group. -/
def State.engineOf (s : State) (a g : Nat) : Bool :=
  s.bit (Reg.AUD_ASRC_STATUS a) 31 && s.fld (Reg.AUD_ASRC_STATUS a) 29 28 == g

/-- R501, R506: the ratio of a group at a feed of its servo. -/
def State.ratioFeed (s : State) (g : Nat) : State :=
  if s.bitA (Reg.AUD_GRP_CTL g) 31 && !s.bitA (Reg.AUD_GRP_CTL g) 30 then
    let old := (s.rd (Reg.AUD_GRP_RATIO g)).toNat
    let new := s.ratioOf g
    let s := s.wrN (Reg.AUD_GRP_RATIO g) new
    if old ≠ 0 ∧ old < 100 * (max old new - min old new) then
      (List.range 8).foldl (fun s a => if s.engineOf a g then s.settleAsrc a 64 else s) s
    else s
  else s

/-- R505, R521: the state of a group, and of the ports that follow it, changes. -/
def State.setGroup (s : State) (g st cause : Nat) : State :=
  let s := (s.setFld (Reg.AUD_GRP_STATUS g) 31 29 st).setFld (Reg.AUD_GRP_STATUS g) 28 25 cause
  (List.range 16).foldl (fun s p =>
    if s.bitA (Reg.AUD_PORT_CTL p) 31 && s.fldA (Reg.AUD_PORT_CTL p) 29 28 == g &&
        !(s.fld (Reg.AUD_PORT_STATUS p) 31 29 == 4 &&
          (s.fld (Reg.AUD_PORT_STATUS p) 28 25 == 4 || s.fld (Reg.AUD_PORT_STATUS p) 28 25 == 6)) then
      (s.setFld (Reg.AUD_PORT_STATUS p) 31 29 st).setFld (Reg.AUD_PORT_STATUS p) 28 25 cause
    else s) s

/-- R498, R500: the time base of a group. -/
def groupTb (g : Nat) : TbIx := Fin.ofNat 8 (2 + g % 4)

/-- R500, R519: a measuring or running group is lost. -/
def State.groupLost (s : State) (g : Nat) : State :=
  if s.fld (Reg.AUD_GRP_STATUS g) 31 29 = 1 ∨ s.fld (Reg.AUD_GRP_STATUS g) 31 29 = 2 then
    let s := s.setGroup g 3 1
    let s := if s.fld (Reg.TMB_TB_SERVO_CTL (2 + g)) 1 0 = 1 then s.enterHoldover (groupTb g) else s
    s.raise 224 g (groupTb g) []
  else s

/-- R500, R501: what a feed of the servo of TB2 to TB5 does to its audio group. -/
def State.feedGroup (s : State) (n : TbIx) : State :=
  if 2 ≤ n.val ∧ n.val ≤ 5 then
    let s := s.ratioFeed (n.val - 2)
    if s.bit (Reg.TMB_TB_SERVO_STATUS n.val) 28 then s.groupLost (n.val - 2) else s
  else s

/-- R85 to R89, R113: one offset measurement, whose local stamp was taken in TCLK cycle `taken`. With source none, or a source that acts
as none, nothing feeds the servo. -/
def State.servoFeed (s : State) (n : TbIx) (e : Int) (taken : Nat) : State :=
  if s.fld (Reg.TMB_TB_SERVO_CTL n.val) 1 0 ≠ 1 ∨ s.servoSource n = 0 ∨ 6 ≤ n.val ∨ taken < s.tmb.tb[n].changedAt then s
  else
    let s := s.modTb n (fun t => { t with fedAt := s.tmb.tclk })
    let s := if s.servo n = Servo.holdover then
        (s.setServo n Servo.acquisition).setFld (Reg.TMB_TB_SERVO_STATUS n.val) 4 0 0 else s
    let s := s.wr64 (Reg.TMB_TB_OFFSET_LO n.val) (tc 64 e)
    let big := decide (1000000 * 2 ^ 16 < e.natAbs)
    if big && s.stepPermitted n then s.tbStep n e
    else
      let s := if big && n.val == 1 then s.raise Ev.tb1Far noInst 1 [] else s
      ((s.servoAdjust n e).servoLock n e).feedGroup n

/-- R90: whether a set of the time base is accepted. -/
def State.setAccepted (s : State) (n : TbIx) : Bool := decide (n.val < 6) && !(n.val == 1 && s.frameValid)

/-- R90: the time base takes the SET value. -/
def State.tbSetNow (s : State) (n : TbIx) : State :=
  let new := (s.rd (Reg.TMB_TB_SET_HI n.val)).toNat * 2 ^ 16 + s.fld (Reg.TMB_TB_SET_LO n.val) 31 16
  s.tbJump n (diff48 new (s.tb48 n)) true

/-- R89, R90, R113, R115: a write of TMB_TBn_SERVO_CTL. -/
def State.servoCtlWrite (s : State) (n : TbIx) (v : Word) : State :=
  if 6 ≤ n.val then s
  else
    let r := Reg.TMB_TB_SERVO_CTL n.val
    let old := s.fld r 1 0
    let new := bits v.toNat 1 0
    let s := s.wr r (v &&& 0xF3)
    let setBit := v.toNat.testBit 8
    let bad := !sourcePermitted (s.mode == 0) n.val (bits v.toNat 6 4) || (setBit && !s.setAccepted n)
    let s := if setBit && s.setAccepted n then s.tbSetNow n else s
    let s := s.setBit (Reg.TMB_TB_SERVO_STATUS n.val) 27 bad
    let was := s.servo n
    if old = new then s
    else if new = 1 then
      (((s.modTb n (fun t => { t with fedAt := s.tmb.tclk })).setServo n Servo.acquisition).setFld
        (Reg.TMB_TB_SERVO_STATUS n.val) 4 0 0).unlockIf n was
    else if new = 2 then s.enterHoldover n
    else (s.setServo n Servo.off).unlockIf n was

/-- R112: a write of TMB_TBn_FREQ presets both freq and integ. -/
def State.freqWrite (s : State) (n : TbIx) (v : Word) : State :=
  if 6 ≤ n.val then s
  else ((s.modTb n (fun t => { t with integ := sx 32 v.toNat })).setFreq n (sx 32 v.toNat)).refreshClamped n

/-! ### Ticks: periods and comparisons -/

/-- R104: the frame period of a rate code in ninths of a nanosecond. -/
def period9 (code : Nat) : Nat :=
  match code with
  | 0x00 => 375375000
  | 0x01 => 375000000
  | 0x02 => 360000000
  | 0x03 => 300300000
  | 0x04 => 300000000
  | 0x05 => 187687500
  | 0x06 => 187500000
  | 0x07 => 180000000
  | 0x08 => 150150000
  | 0x09 => 150000000
  | 0x0A => 100000000
  | 0x0B => 93750000
  | 0x0C => 90000000
  | 0x0D => 75075000
  | 0x0E => 75000000
  | 0x0F => 62500000
  | 0x10 => 50000000
  | 0x11 => 46875000
  | 0x12 => 45000000
  | 0x13 => 37537500
  | 0x14 => 37500000
  | _ => 150000000

/-- R104: a rate code that is reserved. -/
def rateReserved (code : Nat) : Bool := decide (0x15 ≤ code)

/-- R104: the denominator of a period's remainder: 1, 3 or 9. -/
def periodDen (code : Nat) : Nat :=
  if period9 code % 9 = 0 then 1 else if period9 code % 3 = 0 then 3 else 9

/-- A tick value of whole nanoseconds and a remainder numerator, in ninths. -/
def tickValue (ns rem den : Nat) : Nat := (ns * 9 + rem * (9 / den)) % (9 * 2 ^ 32)

/-- TB1 now in units of 2^-16 ninths of a nanosecond. -/
def State.tb1Nines (s : State) : Nat := s.tb48 1 * 9

/-- The signed distance from the next tick to TB1 now, in units of 2^-16 ninths of a nanosecond. -/
def State.sinceNextTick (s : State) : Int :=
  let m := 9 * 2 ^ 48
  let d := (s.tb1Nines + m - s.tmb.nextTick * 2 ^ 16 % m) % m
  if 2 * d < m then (d : Int) else (d : Int) - m

/-- The same distance with TB1's hidden fraction, in units of 2^-42 ninths of a nanosecond. -/
def State.tickDist (s : State) : Int :=
  let m := 9 * 2 ^ 74
  let d := (s.tmb.tb[(1 : TbIx)].cnt * 9 + m - s.tmb.nextTick * 2 ^ 42 % m) % m
  if 2 * d < m then (d : Int) else (d : Int) - m

/-- R104: ticks run, or the first one is waited for. -/
def State.ticking (s : State) : Bool := s.live && (s.frameValid || s.tmb.armed)

/-- R104, R105: TCLK cycles until the cycle nearest the instant at which TB1, whole count, reaches the next tick value; before the first
tick the value is always ahead, by up to 2^32 ns. -/
def State.cyclesToTick (s : State) : Nat :=
  let d := -s.tickDist
  let d := if d < 0 ∧ !s.frameValid then d + 9 * 2 ^ 74 else d
  let inc := 9 * (s.tbInc 1).toNat
  if d ≤ 0 then 0 else (2 * d.toNat + inc) / (2 * inc)

/-- R104: time passes by `k` TCLK cycles and `f` happens, unless a tick falls due on the way: then nothing happens, for the tick is the
next event (log entry 4). -/
def State.wait (s : State) (k : Nat) (f : State → State) : State :=
  if s.ticking && decide (s.cyclesToTick < k) then s else f (s.advance k)

/-- R97, R104: the frame number of the next tick. -/
def State.nextFrame (s : State) : Nat := if s.frameValid then (s.frame + 1) % 2 ^ 32 else s.tmb.firstFrame

/-- R104, R116: the rate code in force: that of the SYNC blocks where TB1's source is chain, else the active
TMB_FRAME_CTL.rate. -/
def State.rateNow (s : State) : Nat :=
  if s.servoSource 1 = 2 then s.tmb.rate else s.fldA Reg.TMB_FRAME_CTL 4 0

/-! ### Ports as the timing engine sees them -/

/-- R169: the port is ACTIVE. -/
def State.active (s : State) (p : Port) : Bool := s.fld (Reg.SLK_STATUS p.val) 31 29 == 6

/-- R214: the kind of a sender's port: 0 off, 1 chain, 2 ring, 3 tie link. -/
def State.kind (s : State) (p : Port) : Nat := s.fld (Reg.SXQ_PORT_CHAIN p.val) 31 30

/-- R175, R209: the through pair of a tile or a device in fallow mode. -/
def State.pair (s : State) : Port × Port := if s.sxq.pairCD && s.role != 2 then (2, 3) else (0, 1)

/-- The other through port. -/
def State.otherThrough (s : State) (p : Port) : Port := if p = s.pair.1 then s.pair.2 else s.pair.1

/-- R175: the port is one of the through pair. -/
def State.isThrough (s : State) (p : Port) : Bool := p == s.pair.1 || p == s.pair.2

/-- R99: the timing-upstream port. -/
def State.upstreamPort (s : State) : Option Port :=
  let t := s.fld Reg.TMB_CHAIN_CTL 2 0
  if 4 ≤ t then some (portOf (t - 4))
  else if s.mode == 0 then none
  else s.tmb.upstream

/-- R99, R235: the holder's leases now arrive on port `p`, or there is no holder; without one the port stays as it was. -/
def State.followHolder (s : State) (p : Option Port) : State :=
  match p with
  | none => s
  | some p =>
    let before := s.upstreamPort
    let s := s.modTmb (fun g => { g with upstream := some p })
    if before ≠ s.upstreamPort then s.raise Ev.sourceChange noInst 0 [] else s

/-- R130: a timing set is sent on a port. -/
def State.sendTiming (s : State) (p : Port) (kind payload : Nat) : State :=
  let q := s.tmb.timingSeq[p]
  (s.modTmb (fun g => { g with timingSeq := s.tmb.timingSeq.set p ((q + 1) % 256) })).emit
    (.timing p kind q payload (timingBlocks kind q payload))

/-- R121, R124: invalid sync headers and ordered sets that fail their CRC. -/
def State.blockErrs (s : State) (p : Port) (n : Nat) : State := if n = 0 then s else s.inc (Reg.SLK_BLOCK_ERR p.val) n

/-- R124: a timing set arrives with its filler sets: what fails its CRC is counted, and a failing timing set is ignored. -/
def State.setRx (s : State) (p : Port) (r : SetRx) (f : State → State) : State :=
  let s := s.blockErrs p (r.fillers.val + b2n (!r.ok))
  if r.ok then f s else s

/-! ### Hop delay -/

/-- The state with a port's hop measurement changed. -/
def State.modHop (s : State) (p : Port) (f : Hop → Hop) : State :=
  s.modTmb (fun x => { x with hop := x.hop.set p (f x.hop[p]) })

/-- R94, R96, R154: TMB_HOP_DELAY and valid follow the results held; link-long is raised as the delay passes 600 ns. -/
def State.hopRefresh (s : State) (p : Port) : State :=
  let rs := s.tmb.hop[p].results
  let before := (s.rd (Reg.TMB_HOP_DELAY p.val)).toNat
  let mean := if rs.length = 0 then 0 else rs.sum / (rs.length * 2 ^ 9)
  let s := (s.wrN (Reg.TMB_HOP_DELAY p.val) mean).setBit (Reg.TMB_HOP_STATUS p.val) 31 (decide (0 < rs.length))
  if before ≤ 600 * 256 ∧ 600 * 256 < mean then s.raise Ev.linkLong p.val 0 [] else s

/-- R96: the port holds no valid results. -/
def State.hopClear (s : State) (p : Port) : State :=
  (s.modHop p (fun _ => { results := [], invalidRun := 0, req := none })).hopRefresh p

/-- R95: an exchange is invalid. -/
def State.hopInvalid (s : State) (p : Port) : State :=
  let s := s.incFld (Reg.TMB_HOP_STATUS p.val) 15 0
  let run := s.tmb.hop[p].invalidRun + 1
  if run < 16 then s.modHop p (fun h => { h with invalidRun := run, req := none })
  else (s.hopClear p).raise Ev.hopRange p.val 6 []

/-- R95, R96: a valid result, in units of 2^-17 ns. -/
def State.hopValid (s : State) (p : Port) (r : Nat) : State :=
  (s.modHop p (fun h => { results := (h.results ++ [r]).drop (h.results.length - 15), invalidRun := 0, req := none })).hopRefresh p

/-- R95: whether a result differs from the mean of 16 held ones by more than 1 ns. -/
def offMean (rs : List Nat) (r : Int) : Bool :=
  rs.length == 16 && decide (16 * 2 ^ 17 < (16 * r - rs.sum).natAbs)

/-! ### The commands -/

/-- R78, R72: TCLK cycles until the nanosecond field of a time base rolls over; TB6's first cycle still adds its old increment. -/
def State.cyclesToWrap (s : State) (n : TbIx) : Nat :=
  let first := (s.tbInc n).toNat
  let inc := (s.tbInc (if n.val = 6 then 0 else n)).toNat
  if 2 ^ 74 ≤ s.tmb.tb[n].cnt + first then 1 else 1 + ceilDiv (2 ^ 74 - (s.tmb.tb[n].cnt + first)) inc

/-- R78: a time base's nanosecond field rolls over: time runs to that instant, unless a tick comes first. -/
def execTbWrap (n : TbIx) (s : State) : Host.Outcome State Fault Refusal :=
  gate s.live (fun s => s.wait (s.cyclesToWrap n) id) s

/-- R85 to R89: an offset measurement feeds the servo of time base `n`. -/
def execServoMeasurement (n : TbIx) (e : Int) (taken : Nat) (s : State) : Host.Outcome State Fault Refusal :=
  gate s.live (fun s => s.servoFeed n e taken) s

/-- R89, R112: TCLK cycles until no measurement has arrived for TMB_TBn_HOLDOVER µs. -/
def State.holdoverLeft (s : State) (n : TbIx) : Nat :=
  s.tmb.tb[n].fedAt + 800 * max 1 (s.rd (Reg.TMB_TB_HOLDOVER n.val)).toNat - s.tmb.tclk

/-- R89: no measurement arrives for the holdover time of a running servo: time runs to that instant, unless a tick comes first.
`announce` says that the firmware's best master clock algorithm reports the announce timeout of TB0's PTP master with it (R111; log
entry 65). -/
def execServoHoldoverTimeout (n : TbIx) (announce : Bool) (s : State) : Host.Outcome State Fault Refusal :=
  gate (s.live && decide (n.val < 6) && s.fld (Reg.TMB_TB_SERVO_CTL n.val) 1 0 == 1)
    (fun s => s.wait (s.holdoverLeft n) (fun s =>
      (s.enterHoldover n).when (announce && n.val == 0 && s.servoSource 0 == 1)
        (fun s => s.raise Ev.announceTimeout noInst 0 []))) s

/-- R89: a write of mode 0b10 to TMB_TBn_SERVO_CTL. -/
def execServoForceHoldover (n : TbIx) (s : State) : Host.Outcome State Fault Refusal :=
  gate (s.live && decide (n.val < 6))
    (fun s => s.servoCtlWrite n (BitVec.ofNat 32 (putBits (s.rd (Reg.TMB_TB_SERVO_CTL n.val)).toNat 1 0 2))) s

/-- R90: a write of TMB_TBn_SERVO_CTL.set. -/
def execTbSet (n : TbIx) (s : State) : Host.Outcome State Fault Refusal :=
  gate s.live
    (fun s => s.servoCtlWrite n (BitVec.ofNat 32 (putBits (s.rd (Reg.TMB_TB_SERVO_CTL n.val)).toNat 8 8 1))) s

/-- R112: a write of TMB_TBn_FREQ. -/
def execTbFreqWrite (n : TbIx) (v : Word) (s : State) : Host.Outcome State Fault Refusal :=
  gate s.live (fun s => s.freqWrite n v) s

/-- R81: a write of 1 to AON_SEC_CTL.load. -/
def execAonSecLoadRequest (s : State) : Host.Outcome State Fault Refusal :=
  gate s.live (fun s => s.setBit Reg.AON_SEC_CTL 0 true) s

/-- R80, R81, R657: AON_SUBSEC passes from 32,767 to 0. The always-on domain counts whether or not the device is held. -/
def execAonSecondRollover (s : State) : Host.Outcome State Fault Refusal :=
  let s := s.aonSet 0
  if s.bit Reg.AON_SEC_CTL 0 then
    let s := ((s.wr Reg.AON_SEC_LO (s.rd Reg.AON_SEC_SET_LO)).wrN Reg.AON_SEC_HI
      (2 ^ 31 + s.fld Reg.AON_SEC_SET_HI 15 0)).wr Reg.AON_SEC_CTL 0
    .next (s.when s.live (fun s => s.raise 18 noInst 0 []))
  else
    let sec := ((s.rd Reg.AON_SEC_LO).toNat + 2 ^ 32 * s.fld Reg.AON_SEC_HI 15 0 + 1) % 2 ^ 48
    .next ((s.wrN Reg.AON_SEC_LO sec).setFld Reg.AON_SEC_HI 15 0 (sec / 2 ^ 32))

/-- R92: mean_path_delay in units of 2^-16 ns, rounded toward minus infinity (log entry 12). -/
def ptpMean (ds : List Int) : Int := if ds.length = 0 then 0 else ds.sum.fdiv (2 * ds.length)

/-- R91, R116: the PTP engine takes messages of a domain that arrive on a port: enabled, on the port and in the domain of TMB_PTP_CTL. -/
def State.ptpTakes (s : State) (port : Fin 2) (domain : Nat) : Bool :=
  s.sender && s.bit Reg.TMB_PTP_CTL 0 && s.fld Reg.TMB_PTP_CTL 1 1 == port.val && domain == s.fld Reg.TMB_PTP_CTL 14 8

/-- R111: the master whose Sync messages TB0 follows; a change raises the PTP master change event. -/
def State.ptpFrom (s : State) (master : Nat) : State :=
  let before := s.tmb.ptpMaster
  let s := s.modTmb (fun g => { g with ptpMaster := some master })
  if before.isSome && before != some master then s.raise Ev.ptpMaster noInst 0 [] else s

/-- R92: the origin of a Sync in units of 2^-16 ns modulo 2^32 ns. -/
def ptpOrigin (m : PtpSync) : Nat := ((m.sec * 1000000000 + m.ns) * 2 ^ 16 + m.frac) % 2 ^ 48

/-- R91 to R93, R111: a PTP Sync is received. -/
def execPtpSyncRx (m : PtpSync) (s : State) : Host.Outcome State Fault Refusal :=
  gate (s.ptpTakes m.port m.domain)
    (fun s =>
      let s := ((s.wrN Reg.TMB_PTP_LAST_SEC_LO m.sec).wrN Reg.TMB_PTP_LAST_SEC_HI (m.sec / 2 ^ 32 % 2 ^ 16)).wr64
        Reg.TMB_PTP_LAST_T2_LO (stampOf 0 m.t2)
      let s := (s.ptpFrom m.master).when (!m.tlv.isEmpty) (fun s => s.emit (.toFirmware m.tlv))
      if s.servoSource 0 = 1 then
        s.servoFeed 0 (sx 48 (tc 48 (diff48 (ptpOrigin m) m.t2 + ptpMean s.tmb.ptp))) m.taken
      else s) s

/-- R92: twice the path delay of an exchange, formed modulo 2^32 ns, in units of 2^-16 ns. -/
def ptpDelay (t1 t2 t3 t4 : Nat) : Int := sx 48 (tc 48 (diff48 t2 t1 + diff48 t4 t3))

/-- R91, R92: a completed delay exchange with its four stamps. -/
def execPtpDelayRespRx (port : Fin 2) (domain t1 t2 t3 t4 : Nat) (s : State) : Host.Outcome State Fault Refusal :=
  gate (s.ptpTakes port domain)
    (fun s =>
      let k := max 1 (s.fld Reg.TMB_PTP_CTL 19 16)
      let ds := s.tmb.ptp ++ [ptpDelay t1 t2 t3 t4]
      let s := s.modTmb (fun g => { g with ptp := ds.drop (ds.length - k) })
      s.wrN Reg.TMB_PTP_PATH_DELAY (tc 32 (asr (ptpMean s.tmb.ptp) 8))) s

/-- R94: the delay_interval timer expires. -/
def execHopDelayInterval (s : State) : Host.Outcome State Fault Refusal :=
  gate s.live
    (fun s =>
      match s.upstreamPort with
      | none => s
      | some p =>
        if s.active p then
          let q := s.tmb.timingSeq[p]
          (s.modHop p (fun h => { h with req := some (q, s.tb48 6) })).sendTiming p 2 0
        else s) s

/-- R94: the device answers a DELAY_REQ within 2 µs; `turn` is how long it takes, in units of 2^-16 ns. -/
def respTurn (turn : Nat) : Nat := min turn (2000 * 2 ^ 16)

/-- R94, R124, R131, R175: a DELAY_REQ arrives, and the DELAY_RESP leaves; a tile answers on its through pair. -/
def execDelayReqRx (p : Port) (r : SetRx) (seq turn : Nat) (s : State) : Host.Outcome State Fault Refusal :=
  gate (s.live && s.active p)
    (fun s => s.setRx p r (fun s =>
      if s.mode == 0 || s.isThrough p then s.sendTiming p 3 (delayRespPayload (s.tb48 6) (s.tb48 6 + respTurn turn) seq) else s)) s

/-- R94 to R96: a DELAY_RESP arrives. -/
def State.delayResp (s : State) (p : Port) (seq t2 t3 : Nat) : State :=
  match s.tmb.hop[p].req with
  | none => s
  | some (q, t1) =>
    if q ≠ seq then s
    else
      let round := diff48 (s.tb48 6) t1
      let held := diff48 t3 t2
      let r := round - held
      if 10000 * 2 ^ 16 < round ∨ 2000 * 2 ^ 16 < held ∨ 5000 * 2 ^ 17 < r ∨ offMean s.tmb.hop[p].results r then
        s.hopInvalid p
      else s.hopValid p r.toNat

/-- R94 to R96, R124: DELAY_RESP_RX. -/
def execDelayRespRx (p : Port) (r : SetRx) (seq t2 t3 : Nat) (s : State) : Host.Outcome State Fault Refusal :=
  gate (s.live && s.active p) (fun s => s.setRx p r (fun s => s.delayResp p seq t2 t3)) s

/-- R95: no DELAY_RESP has arrived within 10 µs. -/
def execDelayRespTimeout (p : Port) (s : State) : Host.Outcome State Fault Refusal :=
  gate (s.live && s.tmb.hop[p].req.isSome) (fun s => s.hopInvalid p) s

/-- R97: timing hops from the time leader, the sender whose TB0 and TB1 sources are not chain. -/
def State.hopsNow (s : State) : Nat := if s.mode = 0 ∧ s.servoSource 0 ≠ 2 ∧ s.servoSource 1 ≠ 2 then 0 else s.tmb.hops

/-- R97: the SYNC block as it leaves now. The next tick is held in ninths of a nanosecond; after a change to a rate of a smaller
denominator, whose remainder cannot carry every ninth, next_tick_rem is rounded down (DESIGN CHOICE, log entry 65). -/
def State.syncNow (s : State) : SyncBlock :=
  let t := s.tmb.nextTick
  let st := s.servo 0
  { seq := 0, tb0 := s.tb48 0, tb1 := s.tb48 1, nextFrame := s.nextFrame, nextTickNs := t / 9,
    nextTickRem := t % 9 / (9 / periodDen s.rateNow), rate := s.rateNow, hops := s.hopsNow,
    leaderState := if st = Servo.freeRunning then 0 else st, frameValid := s.frameValid }

/-- R97: the downstream ports. -/
def State.downstream (s : State) : List Port :=
  if s.mode == 0 then ports.filter (fun p => s.bit (Reg.SLK_CTL p.val) 0 && s.kind p != 0 && s.upstreamPort != some p)
  else match s.upstreamPort with
    | none => []
    | some p => [s.otherThrough p]

/-- R97: the sync_interval timer expires. -/
def execSyncInterval (s : State) : Host.Outcome State Fault Refusal :=
  gate s.live
    (fun s => s.downstream.foldl
      (fun s p => if s.active p then s.sendTiming p 1 (syncPayload s.syncNow) else s) s) s

/-- R98: the offset of a time base against a SYNC block that arrived on port `p` now. -/
def State.chainOffset (s : State) (p : Port) (n : TbIx) (tb : Nat) : Int :=
  let delay := ((s.rd (Reg.TMB_HOP_DELAY p.val)).toNat : Int) * 256
  let asym := sx 32 (s.rd (Reg.TMB_HOP_ASYM p.val)).toNat * 256
  sx 48 (tc 48 (diff48 tb (s.tb48 n) + delay + asym))

/-- R33, R35, R40: an arrival `ago` units of 2^-16 ns before now lies in the window of frame `f`, which closes `guard` ns
before the tick of `f`. Equality is in time. -/
def State.inWindow (s : State) (f guard ago : Nat) : Bool :=
  decide (s.sinceNextTick - 9 * ago ≤ (sx 32 (subMod 32 f s.nextFrame) * period9 s.rateNow - 9 * guard) * 2 ^ 16)

/-- R63: guard_local and guard_subtree in ns. -/
def State.guardLocal (s : State) : Nat := max 10 (s.fld Reg.GLB_COMMIT_GUARD 15 0) * 10
def State.guardSubtree (s : State) : Nat := max 1 (s.fld Reg.GLB_COMMIT_GUARD 31 16) * 1000

/-- How long ago the pending commit arrived, in units of 2^-16 ns of TB1. -/
def State.commitAge (s : State) (c : Commit) : Nat :=
  if 2 ^ 30 < s.tmb.tclk - c.cycle then 2 ^ 48 else (diff48 (s.tb48 1) c.arrived).toNat

/-- R727: a reload of the frame count, after which the next tick begins frame `next`, passes the target of the pending commit,
or leaves it to be judged in the new numbering. Whether the new count lies beyond the target is judged on the plain unsigned numbers, as
R726 compares them; R727 does not say (DESIGN CHOICE, log entry 65). -/
def State.reloadCommit (s : State) (next : Nat) : State :=
  let judge := fun (c : Commit) =>
    if c.early then c
    else if c.target < next then { c with reloadLate := true }
    else { c with late := !s.inWindow c.target s.guardLocal (s.commitAge c) }
  s.modGlb (fun g => { g with commit := s.glb.commit.map judge })

/-- R106, R727: the frame count and the next tick are taken from a SYNC block. -/
def State.loadFrames (s : State) (b : SyncBlock) : State :=
  let s := s.modTmb (fun g => { g with
      nextTick := tickValue b.nextTickNs b.nextTickRem (periodDen b.rate), rate := b.rate })
  if s.frameValid then
    (s.wrN Reg.GLB_FRAME (b.nextFrame + 2 ^ 32 - 1)).reloadCommit b.nextFrame
  else s.modTmb (fun g => { g with armed := true, firstFrame := b.nextFrame })

/-- R106: whether a SYNC block agrees with the device's own count. -/
def State.framesAgree (s : State) (b : SyncBlock) : Bool :=
  let m : Int := 9 * 2 ^ 32
  let mine := ((s.tmb.nextTick : Int) + sx 32 (subMod 32 b.nextFrame s.nextFrame) * period9 s.rateNow) % m
  b.rate == s.rateNow && mine == (tickValue b.nextTickNs b.nextTickRem (periodDen b.rate) : Int)

/-- R106: the frame count check of a SYNC block; `locked` is the TB1 servo's lock before the block. A block with frame_valid = 0 carries no
valid count, so it is neither taken as the first block nor checked; R106 names no such exception (DESIGN CHOICE, log entry 65). -/
def State.frameCheck (s : State) (b : SyncBlock) (locked : Bool) : State :=
  if s.servoSource 1 ≠ 2 ∨ !b.frameValid then s
  else if s.frameValid || s.tmb.armed then
    if s.framesAgree b then s else (s.raise Ev.frameMismatch noInst 1 []).loadFrames b
  else if locked then s.loadFrames b
  else s

/-- R98, R99, R106: a SYNC block arrives on the upstream port `p`. -/
def State.syncTaken (s : State) (p : Port) (b : SyncBlock) : State :=
  let locked := s.servo 1 == Servo.locked
  let e0 := s.chainOffset p 0 b.tb0
  let e1 := s.chainOffset p 1 b.tb1
  let now := s.tmb.tclk
  let use := s.bit (Reg.TMB_HOP_STATUS p.val) 31
  let s := if use && s.servoSource 0 == 2 then s.servoFeed 0 e0 now else s
  let s := if use && s.servoSource 1 == 2 then s.servoFeed 1 e1 now else s
  let s := s.modTmb (fun g => { g with hops := min 127 (b.hops + 1) })
  s.frameCheck b locked

/-- R98, R99, R106, R124: SYNC_RX. -/
def execSyncRx (p : Port) (r : SetRx) (b : SyncBlock) (s : State) : Host.Outcome State Fault Refusal :=
  gate (s.live && s.active p)
    (fun s => s.setRx p r (fun s =>
      if s.upstreamPort == some p && !(s.mode == 0 && s.kind p == 0) then s.syncTaken p b else s)) s

/-- R100: the offset of TB1 by a SYNC_IN edge now: the nearest tick whose frame number is a multiple of the divisor, less
TMB_FRAME_OFFSET, less the edge. Before the first tick the ticks are counted from a TB1 value of zero (log entry 13). -/
def State.syncInOffset (s : State) : Int :=
  let p := (period9 s.rateNow : Int) * 2 ^ 16
  let d := (max 1 (s.fld Reg.TMB_SYNCIN_CTL 7 0) : Int)
  let running := s.frameValid || s.tmb.armed
  let x : Int := if running then s.sinceNextTick else s.tb1Nines
  let nf : Int := if running then s.nextFrame else 0
  let r := nf % d
  let j := (2 * (x + r * p) + d * p).fdiv (2 * d * p)
  let off := sx 32 (s.rdA Reg.TMB_FRAME_OFFSET).toNat * 2 ^ 16
  sx 48 (tc 48 (((j * d - r) * p - x).fdiv 9 - off))

/-- R100, R101: a rising edge of SYNC_IN. R116 names sync_in_present without saying when it changes: an edge sets it (DESIGN CHOICE, log
entry 65). -/
def execSyncInEdge (s : State) : Host.Outcome State Fault Refusal :=
  gate s.live
    (fun s =>
      let s := (s.wr64 Reg.TMB_SYNCIN_STAMP_LO (s.stamp 1)).setBit Reg.TMB_FRAME_STATUS 29 true
      let s := s.modTmb (fun g => { g with syncInTb0 := s.stamp 0 })
      let s := if s.tmb.syncInLost then
          (s.modTmb (fun g => { g with syncInLost := false })).raise Ev.syncInBack noInst 0 [] else s
      if s.servoSource 1 = 3 then s.servoFeed 1 s.syncInOffset s.tmb.tclk else s) s

/-- R89, R101: no SYNC_IN edge for twice the expected interval: TB1 enters holdover; a servo that is off holds its frequency. The loss, which
R101 knows only where TB1's source is SYNC_IN, clears sync_in_present (DESIGN CHOICE, log entry 65). -/
def execSyncInLost (s : State) : Host.Outcome State Fault Refusal :=
  gate (s.sender && s.servoSource 1 == 3 && !s.tmb.syncInLost)
    (fun s =>
      let s := (s.modTmb (fun g => { g with syncInLost := true })).setBit Reg.TMB_FRAME_STATUS 29 false
      (if s.fld (Reg.TMB_TB_SERVO_CTL 1) 1 0 = 1 then s.enterHoldover 1 else s).raise Ev.syncInLost noInst 0 []) s

/-- R102: the 125 µs feed of TB1 from TB0. -/
def execTb1OffsetFeed (s : State) : Host.Outcome State Fault Refusal :=
  gate (s.sender && s.servoSource 1 == 4)
    (fun s =>
      let off := sx 32 (s.rdA Reg.TMB_FRAME_OFFSET).toNat * 2 ^ 16
      s.servoFeed 1 (sx 48 (tc 48 (diff48 (s.tb48 0) (s.tb48 1) + off))) s.tmb.tclk) s

/-- R103: a divisor-th edge of an audio group's frame clock. The first fed edge is its own expected value (log entry 14). -/
def State.audioEdge (s : State) (n : TbIx) : State :=
  match audioRate (s.fld (Reg.TMB_TB_AUDIO n.val) 18 16) with
  | none => s
  | some fs =>
    let div := max 1 (s.fld (Reg.TMB_TB_AUDIO n.val) 15 0)
    let now := s.tb48 n
    match s.tmb.edge[n] with
    | some e =>
      if e.den = fs then
        let num := (e.num + div * 1000000000 * 2 ^ 16) % (2 ^ 48 * fs)
        let s := s.modTmb (fun g => { g with edge := s.tmb.edge.set n (some { num := num, den := fs }) })
        s.servoFeed n (diff48 (num / fs) now) s.tmb.tclk
      else s.modTmb (fun g => { g with edge := s.tmb.edge.set n (some { num := now * fs, den := fs }) })
    | none => s.modTmb (fun g => { g with edge := s.tmb.edge.set n (some { num := now * fs, den := fs }) })

/-- R103: time base 2 to 5 is fed by its audio group. -/
def execAudioEdgeFeed (n : TbIx) (s : State) : Host.Outcome State Fault Refusal :=
  gate (s.live && decide (2 ≤ n.val) && decide (n.val ≤ 5) && s.servoSource n == 5) (fun s => s.audioEdge n) s

/-- R105, R733: whether a write of TMB_FRAME_ALIGN_CTL.go is accepted. -/
def State.goAccepted (s : State) : Bool :=
  s.servo 1 == Servo.locked && s.servoSource 1 != 2 && !s.frameValid && !s.tmb.armed &&
    decide (s.fld Reg.TMB_FRAME_ALIGN_REM 3 0 < periodDen s.rateNow)

/-- R105, R733: a write of 1 to TMB_FRAME_ALIGN_CTL.go. -/
def State.frameAlignGo (s : State) : State :=
  if s.goAccepted then
    let t := tickValue (s.rd Reg.TMB_FRAME_ALIGN_NS).toNat (s.fld Reg.TMB_FRAME_ALIGN_REM 3 0) (periodDen s.rateNow)
    let s := s.modTmb (fun g => { g with
        armed := true, firstFrame := (s.rd Reg.TMB_FRAME_ALIGN_NUM).toNat, nextTick := t })
    (s.setBit Reg.TMB_FRAME_ALIGN_CTL 0 true).setBit Reg.TMB_FRAME_STATUS 28 false
  else s.setBit Reg.TMB_FRAME_STATUS 28 true

/-- R105, R733: FRAME_ALIGN_GO. -/
def execFrameAlignGo (s : State) : Host.Outcome State Fault Refusal :=
  gate s.live State.frameAlignGo s

end Sys2Proof.Machine
end

