-- ==== Sys2Proof/Machine/Slk.lean ====
section
/-!
DEFINITION. The Slauf port: training, credits, sending, acknowledgement and retraining (chapter 03, R117 to R172, R731,
R734). Receiving a sheaf, which needs the rules of chapters 04 and 05, is in Machine/Link.lean.
-/

namespace Sys2Proof.Machine

/-- R166, R605: the event sources of SLK. -/
abbrev Ev.linkUp : Nat := 96
abbrev Ev.linkDown : Nat := 97
abbrev Ev.trainFail : Nat := 98
abbrev Ev.versionMismatch : Nat := 99
abbrev Ev.peerChange : Nat := 100
abbrev Ev.unitSyncLoss : Nat := 101
abbrev Ev.fecUncorrectable : Nat := 102
abbrev Ev.censusMismatch : Nat := 103
abbrev Ev.creditViolation : Nat := 104

/-- R169: the training states. -/
abbrev Train.disabled : Nat := 0
abbrev Train.detect : Nat := 1
abbrev Train.eq : Nat := 2
abbrev Train.deskew : Nat := 3
abbrev Train.config : Nat := 4
abbrev Train.fecLock : Nat := 5
abbrev Train.active : Nat := 6

/-- R172: the retrain causes, by bit. -/
abbrev Cause.ack : Nat := 0
abbrev Cause.fec : Nat := 1
abbrev Cause.lock : Nat := 2
abbrev Cause.census : Nat := 3
abbrev Cause.credit : Nat := 4
abbrev Cause.software : Nat := 5
abbrev Cause.peer : Nat := 6

/-- R169: the training state of a port. -/
def State.train (s : State) (p : Port) : Nat := s.fld (Reg.SLK_STATUS p.val) 31 29

/-- The state with a port's training state at `x`. -/
def State.setTrain (s : State) (p : Port) (x : Nat) : State := s.setFld (Reg.SLK_STATUS p.val) 31 29 x

/-- R159 to R161: the training sets that a port sends on its lanes, over and over, in a training state: TS1 with the preset of
SLK_TX_EQ in DETECT and, with its coefficient requests, in EQ (a free value, log entry 2); TS2 in DESKEW and CONFIG. -/
def State.trainSets (s : State) (p : Port) (x : Nat) : List (List Byte) :=
  let preset := s.fld (Reg.SLK_TX_EQ p.val) 3 0
  if x = Train.detect then (List.range 4).map (fun k => ts1Block k preset 0)
  else if x = Train.eq then (List.range 4).map (fun k => ts1Block k preset (Config.freeNat (s.freeCtr + k) % 256))
  else if x = Train.deskew ∨ x = Train.config then (List.range 4).map (fun k => ts2Block k p.val s.role s.uid)
  else []

/-- R159: a port enters a training state and sends what that state sends. -/
def State.goTrain (s : State) (p : Port) (x : Nat) : State :=
  let sets := s.trainSets p x
  let s := if x = Train.detect then s.modSlk p (fun y => { y with eqPost := 0, eqPre := 0 }) else s
  let s : State := if x = Train.eq then { s with freeCtr := s.freeCtr + 4 } else s
  (s.setTrain p x).emit (.training p x sets)

/-! ### Bushels -/

/-- R141: C, F_seen, F and O of a VC of a port. -/
def State.credC (s : State) (p : Port) (vc : Nat) : Nat := s.fld (Reg.SLK_CREDIT_VC p.val vc) 31 16
def State.credSeen (s : State) (p : Port) (vc : Nat) : Nat := s.fld (Reg.SLK_CREDIT_VC p.val vc) 15 0
def State.rxF (s : State) (p : Port) (vc : Nat) : Nat := s.fld (Reg.SLK_RXBUF_VC p.val vc) 31 16
def State.rxO (s : State) (p : Port) (vc : Nat) : Nat := s.fld (Reg.SLK_RXBUF_VC p.val vc) 9 0

/-- R141: the bushels that the transmitter of a VC may still use. -/
def State.creditLeft (s : State) (p : Port) (vc : Nat) : Nat := 512 - subMod 16 (s.credC p vc) (s.credSeen p vc)

/-- R142, R143, R149: a link control unit leaves, with F and the acknowledgements as they stand. -/
def State.sendLcu (s : State) (p : Port) : State :=
  let x := s.slk[p]
  let s := s.modSlk p (fun x => { x with
    reported := #v[s.rxF p 0, s.rxF p 1, s.rxF p 2, s.rxF p 3] })
  s.emit (.lcu p (lcuBytes (s.rxF p 0) (s.rxF p 1) (s.rxF p 2) (s.rxF p 3) (subMod 16 x.rxSeq2 1) (subMod 16 x.rxSeq3 1)
    x.ack2 x.ack3))

/-- R142: whether F of some VC has advanced by 16 bushels since the last link control unit. -/
def State.lcuOwed (s : State) (p : Port) : Bool :=
  (List.range 4).any (fun vc => decide (16 ≤ subMod 16 (s.rxF p vc) (s.slk[p].reported.toArray.getD vc 0)))

/-- R142: whether F of some VC has advanced at all since the last link control unit. -/
def State.lcuUnreported (s : State) (p : Port) : Bool :=
  (List.range 4).any (fun vc => s.rxF p vc != s.slk[p].reported.toArray.getD vc 0)

/-- R141: bushels arrive in a receive buffer. -/
def State.occupy (s : State) (p : Port) (vc n : Nat) : State :=
  s.setFld (Reg.SLK_RXBUF_VC p.val vc) 9 0 (s.rxO p vc + n)

/-- R142: bushels of a receive buffer are freed. -/
def State.freeBushels (s : State) (p : Port) (vc n : Nat) : State :=
  let s := s.setFld (Reg.SLK_RXBUF_VC p.val vc) 9 0 (s.rxO p vc - n)
  let s := s.setFld (Reg.SLK_RXBUF_VC p.val vc) 31 16 (s.rxF p vc + n)
  if s.active p && s.lcuOwed p then s.sendLcu p else s

/-- R142, R162: a waiting sheaf leaves the device's hands, so the receive buffer it stood in is freed, unless the books of that port
have been started anew since. -/
def State.releaseBuffer (s : State) (w : Waiting) : State :=
  match w.buffer with
  | none => s
  | some p => if w.counted then s.freeBushels p w.sheaf.vc w.sheaf.bushels else s

/-! ### Sending -/

/-- R153: the bytes that the retransmission store of a port holds. -/
def SlkPort.storeBytes (x : SlkPort) : Nat :=
  ((x.store2 ++ x.store3).map (fun u => 32 + u.sheaf.payload.length)).sum

/-- R150: the store of VC2 or VC3. -/
def SlkPort.store (x : SlkPort) (vc : Nat) : List Unacked := if vc = 2 then x.store2 else if vc = 3 then x.store3 else []

/-- R138, R140, R141, R150, R153: whether the transmitter may start a sheaf now; one of VC2 or VC3 waits until every sheaf that is to be
resent before it has been. -/
def State.mayStart (s : State) (p : Port) (h : Sheaf) : Bool :=
  if h.linkLocal then true
  else
    decide (h.bushels ≤ s.creditLeft p h.vc) &&
      (decide (h.vc < 2) || (decide (s.slk[p].storeBytes + 32 + h.payload.length ≤ 131072) &&
        (s.slk[p].store h.vc).all (fun u => !u.due)))

/-- The waiting sheaf at the head of a VC, where it may start. -/
def State.ready (s : State) (p : Port) (vc : Nat) : Option Waiting :=
  match (s.slk[p].txq.toArray.getD vc []).head? with
  | some w => if s.mayStart p w.sheaf then some w else none
  | none => none

/-- R138: the VC that arbitration chooses. -/
def State.chooseVc (s : State) (p : Port) : Option Nat :=
  let share := max 1 (s.fld (Reg.SLK_ARB p.val) 7 0)
  if (s.ready p 3).isSome && decide (share ≤ s.slk[p].sinceBulk) then some 3
  else [2, 1, 0, 3].find? (fun vc => (s.ready p vc).isSome)

/-- The queue of a VC without its head. -/
def SlkPort.popVc (x : SlkPort) (vc : Nat) : SlkPort :=
  { x with txq := x.txq.setIfInBounds vc ((x.txq.toArray.getD vc []).drop 1) }

/-- R168: a sheaf put at the end of its VC's queue on a port; a disabled port discards it. -/
def State.enqueue (s : State) (p : Port) (h : Sheaf) (buffer : Option Port) : State :=
  if s.train p = Train.disabled then s
  else s.modSlk p (fun x => { x with
    txq := x.txq.setIfInBounds h.vc ((x.txq.toArray.getD h.vc []) ++ [{ sheaf := h, buffer := buffer }]) })

/-- R164, R168: a VC0 or VC1 sheaf offered to a port, which discards and counts it unless it is ACTIVE. -/
def State.offerStream (s : State) (p : Port) (h : Sheaf) : State :=
  if s.active p then s.enqueue p h none
  else s.inc (if h.vc = 0 then Reg.SLK_DROP_VC0 p.val else Reg.SLK_DROP_VC1 p.val)

/-- R150: a sheaf is entered in the retransmission store with its deadline, 3,000 ns from now in TB6. -/
def State.keep (s : State) (p : Port) (h : Sheaf) : State :=
  let u : Unacked := { sheaf := h, deadline := (s.tb48 6 + 3000 * 2 ^ 16) % 2 ^ 48, misses := 0, due := false }
  s.modSlk p (fun x =>
    if h.vc = 2 then { x with store2 := x.store2 ++ [u], txSeq2 := (x.txSeq2 + 1) % 2 ^ 16 }
    else if h.vc = 3 then { x with store3 := x.store3 ++ [u], txSeq3 := (x.txSeq3 + 1) % 2 ^ 16 }
    else x)

/-- R148: the sheaf as it leaves on its VC: with the hop sequence on VC2 and VC3, zero on VC0 and VC1. -/
def State.numbered (s : State) (p : Port) (h : Sheaf) : Sheaf :=
  { h with linkSeq := if h.vc = 2 then s.slk[p].txSeq2 else if h.vc = 3 then s.slk[p].txSeq3 else 0, retx := false }

/-- R138, R141, R142, R148, R150: a waiting sheaf starts, and `out` leaves for it. `stored` is what the retransmission store keeps of
it (R155). -/
def State.startAs (s : State) (p : Port) (w : Waiting) (sent stored : Sheaf) (out : Sheaf → Output) : State :=
  let h := s.numbered p sent
  let s := s.setFld (Reg.SLK_CREDIT_VC p.val h.vc) 31 16 (s.credC p h.vc + h.bushels)
  let s := s.emit (out h)
  let s := s.keep p { stored with linkSeq := h.linkSeq, retx := false }
  let s := s.modSlk p (fun x => { x with sinceBulk := if h.vc = 3 then 0 else min 255 (x.sinceBulk + 1) })
  s.releaseBuffer w

/-- A waiting sheaf starts, whole or as its husk. -/
def State.startSheaf (s : State) (p : Port) (w : Waiting) (sent stored : Sheaf) : State :=
  s.startAs p w sent stored (fun h => .sheaf p h.header h.padded h.code)

/-- R183, R215: the epoch that this device writes into its sheaves on a port. -/
def State.epochFor (s : State) (p : Port) : Nat :=
  if s.mode == 0 then s.fld (Reg.SXQ_PORT_STATE p.val) 31 24 else s.fld Reg.GLB_DEVIDX 23 16

/-- R145: the census that starts now. -/
def State.census (s : State) (p : Port) : Sheaf :=
  let body := leBytes 4 s.frameOrNone ++ (List.range 4).flatMap (fun vc => leBytes 2 (s.credC p vc)) ++ zeros 4
  { vc := 2, dir := false, first := false, last := false, retx := false, husk := false, seq := 0, linkSeq := 0, dstQ := 0,
    srcQ := 0, frame := 0, stream := 0xFFFF, index := 0, hop := 0, epoch := s.epochFor p, crc := crc32c body, code := 0, payload := body }

/-- R141, R150: a sheaf of the store is sent again, with retx = 1: it takes credit once more, and a new deadline. -/
def State.resend (s : State) (p : Port) (h : Sheaf) : State :=
  let h := { h with retx := true }
  let s := s.setFld (Reg.SLK_CREDIT_VC p.val h.vc) 31 16 (s.credC p h.vc + h.bushels)
  let again := fun (u : Unacked) =>
    if u.sheaf.linkSeq = h.linkSeq then { u with deadline := (s.tb48 6 + 3000 * 2 ^ 16) % 2 ^ 48, due := false } else u
  let s := s.modSlk p (fun x =>
    if h.vc = 2 then { x with store2 := x.store2.map again } else { x with store3 := x.store3.map again })
  (s.emit (.sheaf p h.header h.padded h.code)).inc (Reg.SLK_RETX_COUNT p.val)

/-- R150: the first sheaf of a store that is to be resent, where the credit allows its start. -/
def State.dueNow (s : State) (p : Port) (vc : Nat) : Option Unacked :=
  match (s.slk[p].store vc).find? (fun u => u.due) with
  | some u => if u.sheaf.bushels ≤ s.creditLeft p vc then some u else none
  | none => none

/-- R141, R150: the sheaves to be resent leave in order, at most `fuel` of them, as far as the credit goes. -/
def State.resendDue (s : State) (p : Port) (vc : Nat) : Nat → State
  | 0 => s
  | n + 1 =>
    match s.dueNow p vc with
    | some u => (s.resend p u.sheaf).resendDue p vc n
    | none => s

/-- R138, R145: at a sheaf boundary, the census that is due, a sheaf that waits to be resent or the arbitration's choice starts. -/
def State.sheafStart (s : State) (p : Port) : State :=
  if s.slk[p].censusDue then
    let c := s.census p
    (s.modSlk p (fun x => { x with censusDue := false, sinceBulk := min 255 (x.sinceBulk + 1) })).emit (.sheaf p c.header c.padded 0)
  else
    match s.dueNow p 2, s.dueNow p 3 with
    | some u, _ => s.resend p u.sheaf
    | none, some u => s.resend p u.sheaf
    | none, none =>
      match s.chooseVc p with
      | none => s
      | some vc =>
        match s.ready p vc with
        | none => s
        | some w => (s.modSlk p (fun x => x.popVc vc)).startSheaf p w w.sheaf w.sheaf

/-- R138: SHEAF_START. -/
def execSheafStart (p : Port) (s : State) : Host.Outcome State Fault Refusal :=
  gate (s.live && s.active p) (fun s => s.sheafStart p) s

/-- R156: the originator withdraws the sheaf that wins arbitration; its slot carries a husk unless the first header unit
has left. -/
def execSheafWithdraw (p : Port) (headerLeft : Bool) (s : State) : Host.Outcome State Fault Refusal :=
  gate (s.live && s.active p && !s.slk[p].censusDue)
    (fun s =>
      match s.chooseVc p with
      | none => s
      | some vc =>
        match s.ready p vc with
        | none => s
        | some w =>
          if w.buffer.isSome then s
          else
            let s := s.modSlk p (fun x => x.popVc vc)
            if headerLeft then s.startSheaf p w w.sheaf w.sheaf
            else (s.startSheaf p w w.sheaf.toHusk w.sheaf.toHusk).inc (Reg.SLK_HUSK_TX p.val)) s

/-! ### Discarding what waits -/

/-- The bookkeeping of one waiting sheaf that the port discards. -/
def State.dropWaiting (s : State) (p : Port) (w : Waiting) : State :=
  let s := s.releaseBuffer w
  if w.sheaf.vc = 0 then s.inc (Reg.SLK_DROP_VC0 p.val)
  else if w.sheaf.vc = 1 then s.inc (Reg.SLK_DROP_VC1 p.val)
  else if w.buffer.isSome then s.inc Reg.SXQ_END_DROP
  else s

/-- R164, R168: the sheaves waiting at a port that leaves ACTIVE are discarded, but for those that the device's own exchange
has to send on VC2 and VC3, which wait on where `keepOwn` is set. -/
def State.dropQueued (s : State) (p : Port) (keepOwn : Bool) : State :=
  let all := s.slk[p].txq.toList.flatten
  let stays := fun (w : Waiting) => keepOwn && decide (2 ≤ w.sheaf.vc) && w.buffer.isNone
  let s := s.modSlk p (fun x => { x with txq := x.txq.map (fun l => l.filter stays) })
  (all.filter (fun w => !stays w)).foldl (fun s w => s.dropWaiting p w) s

/-- R152, R162: the books of a port at the start of ACTIVE. -/
def SlkPort.fresh (x : SlkPort) : SlkPort :=
  { x with sinceBulk := 0, store2 := [], store3 := [], txSeq2 := 0, txSeq3 := 0, rxSeq2 := 0, rxSeq3 := 0, ack2 := false,
           ack3 := false, reported := Vector.replicate 4 0, unitLost := false, rxLeft := 0, rxHead := [], uncorr := [], censusRun := 0 }

/-- R96, R164, R166, R171: a port leaves ACTIVE with a cause word. -/
def State.leaveActive (s : State) (p : Port) (cause : Nat) (keepOwn : Bool) : State :=
  let s := s.setBit (Reg.SLK_PEER_INFO p.val) 0 false
  let s := s.dropQueued p keepOwn
  let s := s.modSlk p (fun x => { x with store2 := [], store3 := [], censusDue := false })
  (s.hopClear p).raise Ev.linkDown p.val 0 [(1, cause)]

/-- R163, R172: the port itself retrains: to DESKEW, or to DETECT where SLK_CTL.full is set. -/
def State.retrainPort (s : State) (p : Port) (cause : Nat) : State :=
  let s := (s.wrN (Reg.SLK_RETRAIN_CAUSE p.val) (2 ^ cause)).inc (Reg.SLK_RETRAIN_COUNT p.val)
  let s := s.leaveActive p (2 ^ cause) true
  let s := s.modSlk p (fun x => { x with retraining := true })
  s.goTrain p (if s.bit (Reg.SLK_CTL p.val) 9 then Train.detect else Train.deskew)

/-! ### Training -/

/-- R162: the sheaves that wait elsewhere in this device out of a port's receive buffer are no longer in its books. -/
def State.uncount (s : State) (p : Port) : State :=
  ports.foldl (fun s q => s.modSlk q (fun x => { x with
    txq := x.txq.map (fun l => l.map (fun w => if w.buffer = some p then { w with counted := false } else w)) })) s

/-- R162, R166, R171: the port enters ACTIVE with the peer that the TS2 of CONFIG named. -/
def State.enterActive (s : State) (p : Port) : State :=
  let before := s.slk[p].lastPeer
  let sets := s.slk[p].peerSets
  let uid := peerUidOf sets
  let s := (s.uncount p).modSlk p (fun x => { x.fresh with
    lastPeer := some uid, retraining := false, incompatible := false, versionRaised := false })
  let s := (List.range 4).foldl (fun s vc => (s.wr (Reg.SLK_CREDIT_VC p.val vc) 0).wr (Reg.SLK_RXBUF_VC p.val vc) 0) s
  let s := (List.range 4).foldl (fun s k => s.wrN (Reg.SLK_PEER_UID p.val k) (uid / 2 ^ (32 * k))) s
  let s := s.wrN (Reg.SLK_PEER_INFO p.val)
    (peerVersionOf sets * 2 ^ 24 + peerPortOf sets * 2 ^ 16 + peerRoleOf sets * 2 ^ 12 + 1)
  let s := (s.setTrain p Train.active).raise Ev.linkUp p.val 0 []
  match before with
  | some u => if u = uid then s else s.raise Ev.peerChange p.val 0 []
  | none => s

/-- R213: the through pair follows SXQ_CTL.through_pair once both of its ports have trained since the write. -/
def State.pairFollow (s : State) (p : Port) : State :=
  let want := s.bit Reg.SXQ_CTL 4
  let pair : List Port := if want then [2, 3] else [0, 1]
  let seen := p :: s.sxq.pairSeen
  s.modSxq (fun g => { g with
      pairSeen := seen
      pairCD := if pair.all (fun q => seen.contains q) then want else s.sxq.pairCD })

/-- R122: LANE_BLOCK_LOCK. -/
def execLaneBlockLock (p : Port) (lane : Fin 4) (s : State) : Host.Outcome State Fault Refusal :=
  gate (s.live && s.train p != Train.disabled) (fun s => s.setBit (Reg.SLK_STATUS p.val) lane.val true) s

/-- R129: the marker lane group that leaves now, where `left` units of the sheaf in progress and `idle` idle units follow. -/
def State.markerGroup (s : State) (p : Port) (left idle : Nat) : List (List Byte) :=
  (List.range 4).map (fun k => markerBlock k s.slk[p].markerCount (nextUnitOf left idle))

/-- R126, R129: MARKER_TX. -/
def execMarkerTx (p : Port) (left idle : Nat) (s : State) : Host.Outcome State Fault Refusal :=
  gate (s.live && decide (Train.deskew ≤ s.train p))
    (fun s =>
      (s.modSlk p (fun x => { x with markerCount := (x.markerCount + 1) % 256 })).emit (.marker p (s.markerGroup p left idle))) s

/-- R126: SKIP_TX. -/
def execSkipTx (p : Port) (s : State) : Host.Outcome State Fault Refusal :=
  gate (s.live && decide (Train.deskew ≤ s.train p)) (fun s => s.emit (.skip p)) s

/-- R127: the elastic buffer deletes or duplicates a skip or marker lane group. -/
def State.elastic (s : State) (p : Port) (change : Elastic) : State :=
  match change with
  | .keep => s
  | .delete => s.modSlk p (fun x => { x with elastic := x.elastic - 1 })
  | .duplicate => s.modSlk p (fun x => { x with elastic := x.elastic + 1 })

/-- R124, R127, R129, R134: MARKER_RX: the lanes are deskewed, and a lost unit stream resynchronises at the unit that the marker
names. -/
def execMarkerRx (p : Port) (block : List Byte) (skewNs : Nat) (change : Elastic) (s : State) : Host.Outcome State Fault Refusal :=
  gate (s.live && s.train p != Train.disabled)
    (fun s =>
      let s := s.elastic p change
      if !blockOk block then s.inc (Reg.SLK_BLOCK_ERR p.val)
      else
        let s := s.setFld (Reg.SLK_STATUS p.val) 15 8 skewNs
        if s.slk[p].unitLost && markerNext block != 0xFFFF then
          s.modSlk p (fun x => { x with unitLost := false, rxLeft := markerNext block, rxHead := [] })
        else s) s

/-- R124, R127: SKIP_RX. -/
def execSkipRx (p : Port) (change : Elastic) (crcOk : Bool) (s : State) : Host.Outcome State Fault Refusal :=
  gate (s.live && s.train p != Train.disabled)
    (fun s => (if crcOk then s else s.inc (Reg.SLK_BLOCK_ERR p.val)).elastic p change) s

/-- R148, R151: the sheaves that a cumulative acknowledgement covers leave the store. -/
def acked (ack : Nat) (l : List Unacked) : List Unacked :=
  l.filter (fun u => decide (2 ^ 15 ≤ subMod 16 ack u.sheaf.linkSeq))

/-- R133, R143: LCU_RX: the freed counters and the acknowledgements of a link control unit, which byte 0 marks, with a good CRC. -/
def execLcuRx (p : Port) (unit : List Byte) (s : State) : Host.Outcome State Fault Refusal :=
  gate (s.live && s.active p && !s.slk[p].unitLost && leAt unit 0 1 == 0x3C && leAt unit 14 2 == crc16 (slice unit 0 14))
    (fun s =>
      let s := (List.range 4).foldl
        (fun s vc => s.setFld (Reg.SLK_CREDIT_VC p.val vc) 15 0 (leAt unit (6 + 2 * vc) 2)) s
      let f := leAt unit 1 1
      s.modSlk p (fun x => { x with
        store2 := if f % 2 = 1 then acked (leAt unit 2 2) x.store2 else x.store2,
        store3 := if f / 2 % 2 = 1 then acked (leAt unit 4 2) x.store3 else x.store3 })) s

/-- R142: LCU_FLUSH_TIMEOUT: 200 ns after an unreported advance of F. -/
def execLcuFlushTimeout (p : Port) (s : State) : Host.Outcome State Fault Refusal :=
  gate (s.live && s.active p && s.lcuUnreported p) (fun s => s.sendLcu p) s

/-- R145: a census is the next sheaf to start on every ACTIVE port. -/
def State.censusAll (s : State) : State :=
  ports.foldl (fun s p => if s.active p then s.modSlk p (fun x => { x with censusDue := true }) else s) s

/-- R145: CENSUS_PREFRAME_TIMER. -/
def execCensusPreframeTimer (s : State) : Host.Outcome State Fault Refusal :=
  gate (s.live && !s.frameValid) State.censusAll s

/-- R159, R166, R734: TRAIN_TIMEOUT: a state after DETECT times out. -/
def execTrainTimeout (p : Port) (s : State) : Host.Outcome State Fault Refusal :=
  gate (s.live && decide (Train.eq ≤ s.train p) && decide (s.train p ≤ Train.fecLock))
    (fun s =>
      let x := s.slk[p]
      let first := s.train p == Train.config && x.incompatible && !x.versionRaised
      let s := ((s.goTrain p Train.detect).inc (Reg.SLK_TRAIN_FAIL p.val)).raise Ev.trainFail p.val 0 []
      let s := s.modSlk p (fun x => { x with retraining := false })
      if first then (s.modSlk p (fun x => { x with versionRaised := true })).raise Ev.versionMismatch p.val 0 []
      else s) s

/-- R161: CONFIG_RETRY: an incompatible pair tries CONFIG again. -/
def execConfigRetry (p : Port) (s : State) : Host.Outcome State Fault Refusal :=
  gate (s.live && s.slk[p].incompatible && s.train p != Train.active && s.train p != Train.disabled)
    (fun s => s.goTrain p Train.config) s

end Sys2Proof.Machine
end

