-- ==== Sys2Proof/Machine/Text.lean ====
section
/-!
DEFINITION. The text that the Gelle monitor prints (R677, R678), and the fields of a reach request (R193).
-/

namespace Sys2Proof.Machine

/-! ### Reach requests (R193 to R195) -/

/-- R193: the fields of a reach request. -/
def reachOp (b : List Byte) : Nat := bits (leAt b 0 4) 31 28
def reachCount (b : List Byte) : Nat := bits (leAt b 0 4) 8 0
def reachOff (b : List Byte) : Nat := leAt b 4 4
def reachData (b : List Byte) : List Word := bytesWords (reachCount b) (b.drop 8)

/-- R193: the body of a reach request. -/
def reachRequest (op n off : Nat) (data : List Word) : List Byte :=
  leBytes 4 (op * 2 ^ 28 + n % 2 ^ 9) ++ leBytes 4 off ++ wordsBytes data

/-- R193, R194: the response of a completed request. -/
def reachResponse (b : List Byte) (code : Nat) (data : List Word) : List Byte :=
  leBytes 4 (code * 2 ^ 28 + reachCount b) ++ leBytes 4 (reachOff b) ++ wordsBytes data

/-- R195: the form of a request is refused: its op, its count, its length or its alignment. -/
def reachMalformed (b : List Byte) : Bool :=
  let op := reachOp b
  let n := reachCount b
  let need := if op = 1 then 8 else if op = 2 then 8 + 4 * n else 16
  !(op == 1 || op == 2 || op == 3) || n == 0 || decide (256 < n) || (op == 3 && n != 1) || decide (b.length < need) ||
    reachOff b % 4 != 0

/-! ### Printed values (R678) -/

/-- One hexadecimal digit. -/
def hexDigit (n : Nat) : Char := "0123456789ABCDEF".toList.getD (n % 16) '0'

/-- The `n` lowest hexadecimal digits of a value, the most significant first. -/
def hexDigits : Nat → Nat → List Char
  | 0, _ => []
  | n + 1, v => hexDigit (v / 16 ^ n) :: hexDigits n v

/-- Digits with an underscore before every group of four that has digits before it. -/
def grouped : List Char → List Char
  | [] => []
  | [c] => [c]
  | c :: t => if t.length % 4 = 0 then c :: '_' :: grouped t else c :: grouped t

/-- R678: a value of `n` hexadecimal digits as it is printed. -/
def hexText (n v : Nat) : String := String.ofList ('0' :: 'x' :: grouped (hexDigits n v))

/-- R678: a word, and a device memory address of 40 bits. -/
def wordText (w : Word) : String := hexText 8 w.toNat
def addrText (a : Nat) : String := hexText 10 a

/-- R678: bytes as hexadecimal digits, two to a byte, lowest address first. -/
def bytesText (b : List Byte) : String := String.ofList (b.flatMap (fun x => hexDigits 2 x.toNat))

/-- R44: the name of a status code. -/
def codeName (c : Nat) : String :=
  match c with
  | 0 => "OK"
  | 1 => "BUSY"
  | 2 => "PARTIAL"
  | 3 => "DISCARDED"
  | 4 => "REFUSED"
  | 5 => "LATE"
  | _ => "FAULT"

/-- R677: the last line of a response. -/
def endText (c : Nat) : String :=
  if c = 0 then "OK" else String.ofList ("ERR ".toList ++ [hexDigit c, ' '] ++ (codeName c).toList)

/-- R678: the lines of consecutive words, each behind its offset or address. -/
def wordLines (text : Nat → String) (at0 : Nat) (ws : List Word) : List String :=
  (ws.zipIdx).map (fun x => text (at0 + 4 * x.2) ++ ": " ++ wordText x.1)

end Sys2Proof.Machine
end

