-- ==== Sys2Proof/Machine/Sxq.lean ====
section
/-!
DEFINITION. The sheaf exchange: routing, queues, messages, completions and queries (chapter 04, R173 to R197, R211, R212,
R729, R730). Roll call is in Machine/Roll.lean; reaches and commits, which touch every block, in Machine/Reach.lean and
Machine/Commit.lean.
-/

namespace Sys2Proof.Machine

/-- R211, R605: the event sources of SXQ. -/
abbrev Ev.rollStart : Nat := 128
abbrev Ev.rollDone : Nat := 129
abbrev Ev.chainTooLong : Nat := 130
abbrev Ev.newUnit : Nat := 131
abbrev Ev.unitMissing : Nat := 132
abbrev Ev.indexConflict : Nat := 133
abbrev Ev.changeSent : Nat := 134
abbrev Ev.querySent : Nat := 135
abbrev Ev.stalled : Nat := 136
abbrev Ev.inRingDrop : Nat := 137

/-! ### Roll entries (R199) and routes -/

/-- R199: fields of a 32-byte roll entry. -/
def entryUid (e : List Byte) : Nat := leAt e 0 16
def entryIndex (e : List Byte) : Nat := leAt e 16 2 % 1024
def entryValid (e : List Byte) : Bool := (leAt e 16 2).testBit 15
def entryEpoch (e : List Byte) : Nat := leAt e 18 1

/-- R198, R199: the tile entries of a roll message: all but the closing sender's. -/
def tileEntries (es : List (List Byte)) (flags : Nat) : List (List Byte) :=
  if flags.testBit 1 then es.take (es.length - 1) else es

/-- R182, R200: the table of a port has the current epoch; while a roll call runs there, the messages that the last table routes are
held. -/
def State.tableCurrent (s : State) (p : Port) : Bool :=
  s.sxq.roll[p].running || s.sxq.roll[p].epoch == s.fld (Reg.SXQ_PORT_STATE p.val) 31 24

/-- R182: whether the table of a port holds device `d` with the current epoch. -/
def State.portHas (s : State) (p : Port) (d : Nat) : Bool :=
  decide (s.kind p = 1 ∨ s.kind p = 2) && s.tableCurrent p &&
    s.sxq.roll[p].entries.any (fun e => entryValid e && entryIndex e == d)

/-- R182: the port toward device `d`. -/
def State.routeTo (s : State) (d : Nat) : Option Port := ports.find? (fun p => s.portHas p d)

/-- R196: the UID that the tables give for device `d`, zero where none does. -/
def State.uidOf (s : State) (d : Nat) : Nat :=
  match s.routeTo d with
  | none => 0
  | some p =>
    match s.sxq.roll[p].entries.find? (fun e => entryValid e && entryIndex e == d) with
    | some e => entryUid e
    | none => 0

/-- R60: the device has a valid index. -/
def State.hasIndex (s : State) : Bool := s.mode == 0 || s.bit Reg.GLB_DEVIDX 31

/-! ### Messages as sheaves -/

/-- The pieces of a body of at most 4,096 bytes, at least one (R189). -/
def chunks (b : List Byte) : List (List Byte) :=
  (List.range (max 1 (ceilDiv b.length 4096))).map (fun i => (b.drop (4096 * i)).take 4096)

/-- R135, R189: the sheaves of a message. The stream_id and seq of VC2 and VC3 sheaves are zero (log entry 18). -/
def messageSheaves (vc : Fin 4) (dstQ srcQ cmdId epoch code : Nat) (dir : Bool) (body : List Byte) : List Sheaf :=
  let cs := chunks body
  cs.mapIdx (fun i c =>
    { vc := vc, dir := dir, first := i == 0, last := i + 1 == cs.length, retx := false, husk := false, seq := 0, linkSeq := 0,
      dstQ := dstQ, srcQ := srcQ, frame := cmdId, stream := 0, index := i, hop := 0, epoch := epoch, crc := crc32c c,
      code := code, payload := c })

/-- R200, R202: a message leaves on a port of a sender or a tile: while a roll call runs on a sender's port, its VC2 messages
other than roll call are held. -/
def State.sendOn (s : State) (p : Port) (dst cls cmdId code : Nat) (body : List Byte) : State :=
  let d := if cls = 0x3F then s.selfIdx else dst
  let away := s.mode == 0 || (cls == 5 && (leAt body 0 1 == 1 || leAt body 0 1 == 3))
  let hs := messageSheaves (classVc cls) (d * 64 + cls) (s.selfIdx * 64 + cls) cmdId (s.epochFor p) code (!away) body
  if s.mode == 0 && s.sxq.roll[p].running && cls != 5 && classVc cls == 2 then
    s.modRoll p (fun r => { r with held := r.held ++ hs })
  else hs.foldl (fun s h => s.enqueue p h none) s

/-- R202: the messages held for a roll call leave with the new epoch. -/
def State.releaseHeld (s : State) (p : Port) : State :=
  let hs := s.sxq.roll[p].held
  let s := s.modRoll p (fun r => { r with held := [] })
  hs.foldl (fun s h => s.enqueue p { h with epoch := s.epochFor p } none) s

/-- R182: a sender's message to a device or, for class 0x3F, to every device; false where there is no route. -/
def State.sendTo (s : State) (dst cls cmdId code : Nat) (body : List Byte) : State × Bool :=
  if cls = 0x3F then
    ((ports.filter (fun p => s.kind p == 1 || s.kind p == 2)).foldl (fun s p => s.sendOn p dst cls cmdId code body) s, true)
  else match s.routeTo dst with
    | some p => (s.sendOn p dst cls cmdId code body, true)
    | none => (s.inc Reg.SXQ_NOROUTE, false)

/-! ### Descriptors and rings -/

/-- R188: slot and ring sizes of a queue. -/
def State.slotBytes (s : State) (q : Nat) : Nat := 2 ^ (min 10 (s.fld (Reg.Q_CTL q) 19 16) + 6)
def State.outSlots (s : State) (q : Nat) : Nat := 2 ^ min 12 (s.fld (Reg.Q_CTL q) 11 8)
def State.inSlots (s : State) (q : Nat) : Nat := 2 ^ min 12 (s.fld (Reg.Q_CTL q) 3 0)

/-- R188: ring indexes. -/
def State.outTail (s : State) (q : Nat) : Nat := s.fld (Reg.Q_OUT_IDX q) 31 16
def State.outHead (s : State) (q : Nat) : Nat := s.fld (Reg.Q_OUT_IDX q) 15 0
def State.inTail (s : State) (q : Nat) : Nat := s.fld (Reg.Q_IN_IDX q) 31 16
def State.inHead (s : State) (q : Nat) : Nat := s.fld (Reg.Q_IN_IDX q) 15 0

/-- R191: inbound slots of a queue reserved for responses. -/
def State.reservedOf (s : State) (q : Nat) : Nat := sGet (fun _ => 0) s.sxq.reserved q

/-- The state with the reserved slots of a queue at `n`. -/
def State.setReserved (s : State) (q n : Nat) : State :=
  s.modSxq (fun g => { g with reserved := sPut (fun _ => 0) s.sxq.reserved q n })

/-- R191: inbound slots neither filled nor reserved. -/
def State.inFree (s : State) (q : Nat) : Nat := s.inSlots q - subMod 16 (s.inTail q) (s.inHead q) - s.reservedOf q

/-- R188, R616: an MSI-X request of a vector that has no record to wait for. -/
def State.requestMsix (s : State) (v : Nat) : State :=
  s.modEvt (fun g => { g with msixReady := s.evt.msixReady ++ [v] })

/-- R188, R617: an entry written to the inbound ring interrupts. -/
def State.queueIrq (s : State) (q : Nat) : State :=
  if s.bit (Reg.Q_CTL q) 30 then
    let v := s.fld (Reg.Q_IRQ q) 24 16
    let src := s.fld (Reg.Q_IRQ q) 8 0
    let s := if s.mode == 0 then s.requestMsix v else s.emit (.coreIrq v)
    if 480 ≤ src then s.raise src q 0 [] else s
  else s

/-- R188, R189, R729: a message is written to the inbound slot at in_tail; the target field of a commit queue's slot is body word 0. -/
def State.fillInbound (s : State) (q cmdId code peer target : Nat) (body : List Byte) : State :=
  let target := if qCls q = 6 then leAt body 0 4 else target
  let a := s.addr (Reg.Q_IN_BASE_LO q) + s.inTail q % s.inSlots q * s.slotBytes q
  let s := s.wrMem 1 a (slotHeader cmdId body.length (0x80 + code) peer target ++ body.take (s.slotBytes q - 16))
  (s.setFld (Reg.Q_IN_IDX q) 31 16 (s.inTail q + 1)).queueIrq q

/-- R188, R213: the exchange services queues, and this one. -/
def State.queueOn (s : State) (q : Nat) : Bool := s.bit Reg.SXQ_CTL 0 && s.bit (Reg.Q_CTL q) 31

/-- R191, R213: an unsolicited message meets the inbound ring: it is placed, or dropped, counted and reported. -/
def State.placeInbound (s : State) (q cmdId code peer target : Nat) (body : List Byte) : State :=
  if s.queueOn q && decide (0 < s.inFree q) then s.fillInbound q cmdId code peer target body
  else (s.incFld (Reg.Q_IN_DROP q) 15 0).raise Ev.inRingDrop noInst 0 [(2, q)]

/-- R186, R193: the classes whose messages expect a response: requests, commands, commits, queries and bulk transfers. -/
def expectsResponse (cls : Nat) : Bool :=
  cls == 0 || cls == 2 || cls == 6 || cls == 7 || (decide (8 ≤ cls) && decide (cls < 16))

/-- R44, R190: a posted message of a queue completes with a code. -/
def State.queueDone (s : State) (q code : Nat) : State :=
  let s := if code = Code.DISCARDED then s.bump (Reg.Q_DISCARDED q) else s.bump (Reg.Q_COMPLETED q)
  (s.unbump (Reg.Q_PENDING q)).setFld (Reg.Q_STAT q) 27 24 code

/-- R190: QUEUE_POST: a producer writes out_tail. -/
def State.queuePost (s : State) (q : Nat) (tail : Nat) : State :=
  let n := subMod 16 tail (s.outTail q)
  let s := s.setFld (Reg.Q_OUT_IDX q) 31 16 tail
  let s := (s.bump (Reg.Q_POSTED q) n).bump (Reg.Q_PENDING q) n
  s.modSxq (fun g => { g with order := s.sxq.order ++ List.replicate n (BitVec.ofNat 16 q) })

/-- R190: QUEUE_POST. -/
def execQueuePost (q : QueueIx) (outTail : BitVec 16) (s : State) : Host.Outcome State Fault Refusal :=
  gate (s.live && s.mode != 3 && (regRow? (Reg.Q_CTL q.toNat)).isSome) (fun s => s.queuePost q.toNat outTail.toNat) s

/-- R192: no earlier posted VC2 message of the same device waits before queue `q`. -/
def State.firstForDevice (s : State) (q : QueueIx) : Bool :=
  match s.sxq.order.find? (fun x => qDev x.toNat == qDev q.toNat && (x == q || classVc (qCls x.toNat) == 2)) with
  | some x => x == q || classVc (qCls q.toNat) != 2
  | none => true

/-- The first occurrence of a value taken out of a list. -/
def dropFirst {α : Type} [BEq α] (a : α) : List α → List α
  | [] => []
  | x :: t => if x == a then t else x :: dropFirst a t

/-- R189: the message at out_head: cmd_id, body length, status code, destination queue and body. -/
structure OutMsg where
  cmdId : Nat
  bodyLen : Nat
  code : Nat
  peer : Nat
  body : List Byte
  deriving DecidableEq, Repr

/-- R189: the slot at out_head. -/
def State.outMsg (s : State) (q : Nat) : OutMsg :=
  let a := s.addr (Reg.Q_OUT_BASE_LO q) + s.outHead q % s.outSlots q * s.slotBytes q
  let n := s.memLe (a + 4) 2
  { cmdId := s.memLe a 4, bodyLen := n, code := s.memLe (a + 6) 1 % 16, peer := s.memLe (a + 8) 2, body := s.rdMem (a + 16) (min n (s.slotBytes q - 16)) }

/-- R188: the message at out_head has been dealt with. -/
def State.popOut (s : State) (q : QueueIx) : State :=
  let s := s.setFld (Reg.Q_OUT_IDX q.toNat) 15 0 (s.outHead q.toNat + 1)
  s.modSxq (fun g => { g with order := dropFirst q s.sxq.order })

/-- R197: a command is outstanding from queue `q`. -/
def State.track (s : State) (q : QueueIx) (cmdId dst cls : Nat) (p : Port) (via : Option Path) : State :=
  let o : Outstanding := { q := q, slot := s.outHead q.toNat, cmdId := cmdId, dst := dst, cls := cls, port := p,
                           queried := false, via := via }
  s.modSxq (fun g => { g with outstanding := s.sxq.outstanding ++ [o] })

/-- R196: an outcome is stored; of each originator the last 256 are kept. -/
def State.remember (s : State) (o : Outcome) : State :=
  let same := (o :: s.sxq.outcomes.filter (fun x => x.src == o.src && x.cmdId != o.cmdId)).take 256
  s.modSxq (fun g => { g with
      outcomes := same ++ s.sxq.outcomes.filter (fun x => x.src != o.src) })

/-- R196: a completion that the firmware posts is the outcome of the command it executed for device `dst`. -/
def State.noteCompletion (s : State) (dst : Nat) (m : OutMsg) : State :=
  if qCls m.peer = 3 then s.remember { src := dst, cmdId := m.cmdId, cls := 3, code := m.code, body := m.body } else s

/-- R186: a message to a class that is reserved for the Clewen firmware. -/
def reservedCls (cls : Nat) : Bool := decide (0x38 ≤ cls) && decide (cls ≤ 0x3E)

/-- R182, R186, R191: the message at out_head of `q` is refused: it completes, and where it expects a response its inbound slot says so. -/
def State.sendRefused (s : State) (q : QueueIx) (m : OutMsg) : State :=
  let s := (s.popOut q).queueDone q.toNat Code.REFUSED
  if expectsResponse (qCls q.toNat) then s.fillInbound q.toNat m.cmdId Code.REFUSED m.peer 0 [] else s

/-- R190, R191, R197: the message at out_head of `q` has been sent to device `dst` by port `p`: it is outstanding where it expects a
response, with an inbound slot reserved, and completes otherwise. -/
def State.sendLeft (s : State) (q : QueueIx) (m : OutMsg) (dst : Nat) (p : Port) : State :=
  let n := q.toNat
  if expectsResponse (qCls n) then
    let s := s.track q m.cmdId dst (qCls n) p none
    let s := (s.popOut q).setFld (Reg.Q_STAT n) 15 0 (s.fld (Reg.Q_STAT n) 15 0 + 1)
    s.setReserved n (s.reservedOf n + 1)
  else (s.popOut q).queueDone n Code.OK

/-- R182, R186, R189, R191: the message at out_head of `q` is sent, refused or stalled. -/
def State.queueSend (s : State) (q : QueueIx) : State :=
  let n := q.toNat
  let cls := qCls n
  let m := s.outMsg n
  if expectsResponse cls && s.inFree n == 0 then
    if s.bit (Reg.Q_STAT n) 31 then s
    else (s.setBit (Reg.Q_STAT n) 31 true).raise Ev.stalled n 0 []
  else
    let s := s.setBit (Reg.Q_STAT n) 31 false
    if s.slotBytes n - 16 < m.bodyLen ∨ reservedCls cls ∨ reservedCls (qCls m.peer) then s.sendRefused q m
    else if s.mode == 0 then
      let r := (s.noteCompletion (qDev n) m).sendTo (qDev n) (qCls m.peer) m.cmdId m.code m.body
      if r.2 then r.1.sendLeft q m (qDev n) ((r.1.routeTo (qDev n)).getD 0) else r.1.sendRefused q m
    else match s.red.holder with
      | none => s.sendRefused q m
      | some (_, _, _, p) =>
        ((s.noteCompletion (qDev m.peer) m).sendOn p (qDev m.peer) (qCls m.peer) m.cmdId m.code m.body).sendLeft q m (qDev m.peer) p

/-- R191, R192, R213: whether the exchange may take the message at out_head of `q`. -/
def State.serviced (s : State) (q : QueueIx) : Bool :=
  s.live && s.mode != 3 && s.bit Reg.SXQ_CTL 0 && s.bit (Reg.Q_CTL q.toNat) 31 && s.outHead q.toNat != s.outTail q.toNat &&
    s.firstForDevice q && (s.mode == 0 || qDev q.toNat == s.selfIdx)

/-- R191: QUEUE_SEND. -/
def execQueueSend (q : QueueIx) (s : State) : Host.Outcome State Fault Refusal :=
  gate (s.serviced q) (fun s => s.queueSend q) s

/-- R188: a consumer writes in_head; a message that was stalled no longer is where a slot is free. -/
def State.inHeadWrite (s : State) (q v : Nat) : State :=
  let s := s.setFld (Reg.Q_IN_IDX q) 15 0 v
  if 0 < s.inFree q then s.setBit (Reg.Q_STAT q) 31 false else s

/-- R188: IN_HEAD_WRITE. -/
def execInHeadWrite (q : QueueIx) (inHead : BitVec 16) (s : State) : Host.Outcome State Fault Refusal :=
  gate (s.live && s.mode != 3 && (regRow? (Reg.Q_CTL q.toNat)).isSome) (fun s => s.inHeadWrite q.toNat inHead.toNat) s

/-! ### Completions and queries -/

/-- R672, R674: a response datagram is sent and kept, of its address and UDP port with the 63 before it. The header bytes that the spec
does not state for a response are free. -/
def State.mgeReply (s : State) (ip port seq cmdId : Nat) (body : List Byte) : State :=
  let f := s.free
  let b := beBytes 2 0x4357 ++ leBytes 2 seq ++ leBytes 1 2 ++ leBytes 3 f.1 ++ leBytes 4 cmdId ++ body
  let mine := fun (r : MgeReply) => r.ip == ip && r.port == port
  let old := s.mge.kept.filter (fun r => mine r && r.seq != seq)
  let kept := ({ ip := ip, port := port, seq := seq, body := b } : MgeReply) :: old.take 63
  (f.2.modMge (fun g => { g with kept := kept ++ s.mge.kept.filter (fun r => !mine r) }) : State).emit
    (.udp "response" ip port b)

/-- R677: the lines of a response, its last line and the prompt. -/
def State.monPrint (s : State) (lines : List String) (code : Nat) : State :=
  (lines ++ [endText code, "gelle> "]).foldl (fun (s : State) l => s.emit (.uart l)) s

/-- R673, R678: the answer of a remote request to the path that made it; `body` is the response, empty where none came. -/
def State.answerPath (s : State) (o : Outstanding) (code : Nat) (body : List Byte) : State :=
  match o.via with
  | some .mge =>
    match s.mge.waiting.find? (fun w => w.dst == o.dst && w.cmdId == o.cmdId) with
    | some w =>
      let s := s.modMge (fun g => { g with waiting := s.mge.waiting.erase w })
      s.mgeReply w.ip w.port w.seq w.cmdId (if body.isEmpty then reachResponse w.req code [] else body)
    | none => s
  | some .monitor =>
    match s.mon.remote.find? (fun w => w.dst == o.dst && w.cmdId == o.cmdId) with
    | some w =>
      let s := s.modMon (fun g => { g with remote := s.mon.remote.erase w })
      let ws := if code = Code.OK ∧ reachOp w.req = 1 then bytesWords (reachCount w.req) (body.drop 8) else []
      s.monPrint (wordLines (fun a => hexText 8 a) (reachOff w.req) ws) code
    | none => s
  | _ => s

/-- R190, R197: an outstanding command completes with its code and data. -/
def State.completeOutstanding (s : State) (o : Outstanding) (code srcCls : Nat) (body : List Byte) : State :=
  let s := s.modSxq (fun g => { g with outstanding := dropFirst o s.sxq.outstanding })
  match o.via with
  | some _ => s.answerPath o code body
  | none =>
    let n := o.q.toNat
    let s := s.setReserved n (s.reservedOf n - 1)
    let s := (s.queueDone n code).setFld (Reg.Q_STAT n) 15 0 (s.fld (Reg.Q_STAT n) 15 0 - 1)
    s.fillInbound n o.cmdId code (o.dst * 64 + srcCls) 0 body

/-- The outstanding command that a message of device `src` with identifier `cmdId` answers. -/
def State.outstandingFor (s : State) (src cmdId : Nat) : Option Outstanding :=
  s.sxq.outstanding.find? (fun o => o.dst == src && o.cmdId == cmdId)

/-- R213: a response is taken: of a queue's command only while queues are serviced (the query of R197 recovers it later), and of a
remote request always. -/
def State.takesResponse (s : State) (o : Outstanding) : Bool := s.bit Reg.SXQ_CTL 0 || o.via.isSome

/-- R185, R193: REACH_RESPONSE_RX. A response to no outstanding command changes nothing. -/
def execReachResponseRx (m : Msg) (s : State) : Host.Outcome State Fault Refusal :=
  gate (s.live && s.mode != 3)
    (fun s =>
      match s.outstandingFor m.src m.cmdId with
      | some o =>
        if o.cls = 0 && s.takesResponse o then s.completeOutstanding o (bits (leAt m.body 0 4) 31 28) 1 m.body else s
      | none => s) s

/-- R618: an event record with its lost bit set. -/
def markLost (b : List Byte) : List Byte :=
  match b with
  | [] => []
  | x :: t => (x ||| 8) :: t

/-- R191, R618: EVENT_RECORD_RX. -/
def execEventRecordRx (m : Msg) (s : State) : Host.Outcome State Fault Refusal :=
  gate s.sender
    (fun s =>
      let q := m.src % 1024 * 64 + 4
      let qi : QueueIx := BitVec.ofNat 16 q
      if s.queueOn q && decide (0 < s.inFree q) then
        let lost := s.sxq.recordLost.contains qi
        let s := s.modSxq (fun g => { g with recordLost := s.sxq.recordLost.filter (· != qi) })
        s.fillInbound q m.cmdId 0 (m.src * 64 + m.srcCls) 0 (if lost then markLost m.body else m.body)
      else
        let s := s.modSxq (fun g => { g with recordLost := qi :: s.sxq.recordLost.filter (· != qi) })
        s.placeInbound q m.cmdId 0 (m.src * 64 + m.srcCls) 0 m.body) s

/-- R193, R196, R729: a response leaves by the port the request came in on, and its outcome is stored. -/
def State.respond (s : State) (m : Msg) (cls code : Nat) (body : List Byte) : State :=
  (s.remember { src := m.src, cmdId := m.cmdId, cls := cls, code := code, body := body }).sendOn m.port m.src cls m.cmdId
    code body

/-- R196: a request that carries a fenced identifier. -/
def State.isFenced (s : State) (m : Msg) : Bool := s.sxq.fenced.contains (m.src, m.cmdId)

/-- R183: a device with a valid index takes a message only of its own epoch. -/
def State.epochOk (s : State) (m : Msg) : Bool :=
  s.mode == 0 || !s.hasIndex || m.epoch == s.fld Reg.GLB_DEVIDX 23 16

/-- R196, R730: QUERY_RX. A commit that is pending, or an update command that is held, has no outcome in the store yet, so it is
answered as not executed, as R196 says of every other identifier (DEDUCED, log entry 19). -/
def execQueryRx (m : Msg) (s : State) : Host.Outcome State Fault Refusal :=
  gate (s.live && s.mode != 3)
    (fun s =>
      let expected := leAt m.body 0 16
      if expected ≠ 0 ∧ expected ≠ s.uid then s.sendOn m.port m.src 7 m.cmdId Code.OK (leBytes 1 2 ++ zeros 3)
      else match s.sxq.outcomes.find? (fun o => o.src == m.src && o.cmdId == m.cmdId) with
        | some o => s.sendOn m.port m.src 7 m.cmdId Code.OK
            (leBytes 1 0 ++ leBytes 1 o.cls ++ leBytes 1 (o.code % 16) ++ leBytes 1 0 ++ o.body)
        | none =>
          let s := s.modSxq (fun g => { g with fenced := (m.src, m.cmdId) :: s.sxq.fenced })
          s.sendOn m.port m.src 7 m.cmdId Code.OK (leBytes 1 1 ++ zeros 3)) s

/-- R197, R211, R213: a query is sent for an outstanding command whose target has a route. -/
def State.sendQuery (s : State) (o : Outstanding) : State :=
  match s.routeTo o.dst with
  | none => s
  | some p =>
    if !s.takesResponse o then s else
    let s := (s.sendOn p o.dst 7 o.cmdId 0 (leBytes 16 (s.uidOf o.dst))).inc Reg.SXQ_QUERY_COUNT
    if o.queried then s
    else
      let s := s.modSxq (fun g => { g with
          outstanding := s.sxq.outstanding.map (fun x => if x = o then { x with queried := true } else x) })
      s.raise Ev.querySent noInst 0 []

/-- R197: RESPONSE_TIMEOUT: no response within the queue's timeout. -/
def execResponseTimeout (q : QueueIx) (cmdId : Nat) (s : State) : Host.Outcome State Fault Refusal :=
  gate s.sender
    (fun s =>
      match s.sxq.outstanding.find? (fun o => o.q == q && o.cmdId == cmdId) with
      | some o => s.sendQuery o
      | none => s) s

end Sys2Proof.Machine
end

