-- ==== Sys2Proof/Machine/Roll.lean ====
section
/-!
DEFINITION. Roll call (chapter 04, R198 to R208, R243): discovery of the devices of a chain or ring, their indexes and the
published tables.
-/

namespace Sys2Proof.Machine

/-- R198: the kinds of roll messages. -/
abbrev RollKind.enum : Nat := 1
abbrev RollKind.enumReturn : Nat := 2
abbrev RollKind.assign : Nat := 3
abbrev RollKind.assignAck : Nat := 4
abbrev RollKind.change : Nat := 5

/-- R198: a roll message: its header and entries. -/
def rollBody (kind epoch mode count originUid originIdx flags : Nat) (entries : List (List Byte)) : List Byte :=
  leBytes 1 kind ++ leBytes 1 epoch ++ leBytes 1 mode ++ leBytes 1 count ++ leBytes 16 originUid ++ leBytes 2 originIdx ++
    leBytes 1 flags ++ zeros 9 ++ entries.flatten

/-- R198: fields of a roll message. -/
def rollEpoch (b : List Byte) : Nat := leAt b 1 1
def rollMode (b : List Byte) : Nat := leAt b 2 1
def rollCount (b : List Byte) : Nat := leAt b 3 1
def rollOrigin (b : List Byte) : Nat := leAt b 4 16
def rollOriginIdx (b : List Byte) : Nat := leAt b 20 2
def rollFlags (b : List Byte) : Nat := leAt b 22 1
def rollEntries (b : List Byte) : List (List Byte) :=
  (List.range (min 65 (rollCount b))).map (fun i => slice b (32 + 32 * i) 32)

/-- R199: this device's entry, for a roll message that arrived on port `p`. -/
def State.ownEntry (s : State) (p : Port) : List Byte :=
  let other := if s.mode == 0 then p else s.otherThrough p
  let otherActive := s.mode != 0 && s.active other
  leBytes 16 s.uid ++ leBytes 2 (b2n s.hasIndex * 2 ^ 15 + s.selfIdx) ++ leBytes 1 (s.fld Reg.GLB_DEVIDX 23 16) ++
    leBytes 1 (s.mode + s.fld Reg.GLB_STATE 29 26 * 4) ++ leBytes 1 (p.val + other.val * 4 + b2n otherActive * 16) ++
    leBytes 1 linkVersion ++ leBytes 1 (s.fld Reg.GLB_IDENT 15 8) ++ zeros 1 ++
    leBytes 4 (s.rd (Reg.TMB_HOP_DELAY p.val)).toNat ++ leBytes 4 s.glb.image

/-- R219, R243: the sender holds the port, and hears its peer's lease there. -/
def State.holds (s : State) (p : Port) : Bool := s.kind p == 1 || (s.kind p == 2 && s.bit (Reg.RED_P_STATE p.val) 31)
def State.hearsPeer (s : State) (p : Port) : Bool := s.bit (Reg.RED_P_STATE p.val) 30

/-! ### The sender's side -/

/-- R206: the enabled chain and ring ports. -/
def State.rollable (s : State) : List Port :=
  ports.filter (fun p => (s.kind p == 1 || s.kind p == 2) && s.bit (Reg.SLK_CTL p.val) 0)

/-- R206, R47: SXQ_ROLL_STATUS follows the roll call command; progress counts the enabled ports that have completed. -/
def State.rollStatus (s : State) : State :=
  let old := (s.rd Reg.SXQ_ROLL_STATUS).toNat
  let total := max 1 s.rollable.length
  let left := (s.rollable.filter (fun p => s.sxq.opPorts.contains p)).length
  let phase := if s.sxq.opRunning then Phase.running else Phase.done
  let code := if s.sxq.opRunning then 0 else if s.sxq.opBad then Code.PARTIAL else Code.OK
  s.wrN Reg.SXQ_ROLL_STATUS
    (statusWord phase code (old.testBit 24) ((total - left) * 100 / total) (bits old 15 8) (bits old 7 0))

/-- R206: the port joins the roll call command that runs, or starts one. -/
def State.joinRoll (s : State) (p : Port) : State :=
  if s.sxq.opRunning then
    if s.sxq.opPorts.contains p then s
    else s.modSxq (fun g => { g with opPorts := s.sxq.opPorts ++ [p] })
  else s.modSxq (fun g => { g with opPorts := [p], opBad := false, opRunning := true })

/-- R200, R203, R216, R243, R649: a roll call starts anew on a port of a sender; during a pause the trigger waits. The last result stays
until this one has its own. -/
def State.beginRoll (s : State) (p : Port) : State :=
  let ring := s.kind p == 2
  if !(s.kind p == 1 || ring) || (ring && !s.red.port[p].decided) then s
  else if s.bit Reg.BOOT_STATUS 27 then
    s.modBoot (fun g => { g with rollWait := s.boot.rollWait.filter (· != p) ++ [p] })
  else
    let epoch := (s.fld (Reg.SXQ_PORT_STATE p.val) 31 24 + 1) % 256
    let listen := ring && !(s.holds p && s.hearsPeer p)
    let s := (s.setFld (Reg.SXQ_PORT_STATE p.val) 31 24 epoch).setBit (Reg.SXQ_PORT_STATE p.val) 0 true
    let s := s.modRoll p (fun r => { r with
      running := true, listen := listen, assigned := [], gotReturn := false, gotAck := false, ended := false, publish := false,
      retry := false })
    let s := ((s.joinRoll p).setFld Reg.SXQ_ROLL_STATUS 7 0 (s.fld Reg.SXQ_ROLL_CTL 31 24)).rollStatus
    let s := s.raise Ev.rollStart p.val 0 [(1, epoch)]
    s.sendOn p s.selfIdx 5 0 0 (rollBody RollKind.enum epoch (b2n listen) 0 s.uid s.selfIdx 0 [])

/-- R204: a trigger of a roll call on a port; one that runs restarts, which is counted. -/
def State.startRoll (s : State) (p : Port) : State :=
  let can := (s.kind p == 1 || (s.kind p == 2 && s.red.port[p].decided)) && !s.bit Reg.BOOT_STATUS 27
  (if can && s.bit (Reg.SXQ_PORT_STATE p.val) 0 then s.inc Reg.SXQ_ROLL_RESTARTS else s).beginRoll p

/-- R204: an automatic trigger on a port of a sender. -/
def State.autoRoll (s : State) (p : Port) : State :=
  if s.mode == 0 && s.bit Reg.SXQ_ROLL_CTL 8 && s.bit Reg.GLB_STATE 25 then s.startRoll p else s

/-- R216: the ports that a write of SXQ_ROLL_CTL.start names. -/
def State.rollPorts (s : State) (v : Word) : List Port :=
  let mask := bits v.toNat 7 4
  ports.filter (fun p => (mask == 0 || mask.testBit p.val) && (s.kind p == 1 || s.kind p == 2))

/-- R204, R212, R216: a write of SXQ_ROLL_CTL; start acts on a sender. -/
def State.rollStart (s : State) (v : Word) : State :=
  let s := s.wr Reg.SXQ_ROLL_CTL (v &&& 0xFFFF01F0)
  if v.toNat.testBit 0 && s.mode == 0 then (s.rollPorts v).foldl (fun s p => s.startRoll p) s else s

/-- R204: ROLL_START. -/
def execRollStart (v : Word) (s : State) : Host.Outcome State Fault Refusal :=
  gate s.sender (fun s => s.rollStart v) s

/-- R178, R179: the index of the tile at place `i` (from 0) of `n`. -/
def State.indexAt (s : State) (p : Port) (i n : Nat) : Nat :=
  let base := s.fld (Reg.SXQ_PORT_CHAIN p.val) 9 0
  if s.kind p == 2 && s.bit (Reg.SXQ_PORT_CHAIN p.val) 29 then base + n - (i + 1) else base + i

/-- R202: a returned entry with its assigned index. -/
def assignEntry (e : List Byte) (idx : Nat) : List Byte :=
  slice e 0 16 ++ leBytes 2 (if idx ≤ 1023 then 2 ^ 15 + idx else 0) ++ slice e 18 14

/-- R202: the entries of the ASSIGN message. -/
def State.assignEntries (s : State) (p : Port) (es : List (List Byte)) (flags : Nat) : List (List Byte) :=
  let tiles := tileEntries es flags
  tiles.mapIdx (fun i e => assignEntry e (s.indexAt p i tiles.length)) ++ es.drop tiles.length

/-- R205: the table holds the entries of the most advanced message received: none where there was none. -/
def PortRoll.settled (r : PortRoll) (epoch : Nat) : PortRoll :=
  if r.gotReturn then r else { r with entries := [], flags := 0, epoch := epoch }

/-- R205, R206: the roll call of a port has its result: held messages leave, and the result waits for a publication
point. -/
def State.rollEnds (s : State) (p : Port) (code : Nat) : State :=
  let s := s.modRoll p (fun r => { r.settled (s.fld (Reg.SXQ_PORT_STATE p.val) 31 24) with
    running := false, ended := true, publish := true, lastCode := code })
  s.releaseHeld p

/-- R202, R206: an OK roll call had no overflow and refused no index. -/
def rollCode (es : List (List Byte)) (flags acks : Nat) : Nat :=
  let tiles := tileEntries es flags
  if flags.testBit 0 || tiles.any (fun e => !entryValid e) || acks != tiles.length then Code.PARTIAL else Code.OK

/-- R203: the one valid epoch that every tile entry reports, if there is one. -/
def commonEpoch (tiles : List (List Byte)) : Option Nat :=
  match tiles with
  | [] => none
  | e :: _ => if tiles.all (fun x => entryValid x && entryEpoch x == entryEpoch e) then some (entryEpoch e) else none

/-- R200 to R203: ENUM_RETURN at the sender that sent the ENUM. -/
def State.enumReturned (s : State) (p : Port) (b : List Byte) : State :=
  let es := rollEntries b
  let flags := rollFlags b
  let epoch := rollEpoch b
  if !s.sxq.roll[p].running || epoch != s.fld (Reg.SXQ_PORT_STATE p.val) 31 24 then s
  else
    let s := if flags.testBit 0 then s.raise Ev.chainTooLong p.val 0 [] else s
    let s := s.modRoll p (fun r => { r with entries := es, flags := flags, epoch := epoch, gotReturn := true, publish := true })
    if s.sxq.roll[p].listen then
      match commonEpoch (tileEntries es flags) with
      | some e =>
        ((s.setFld (Reg.SXQ_PORT_STATE p.val) 31 24 e).modRoll p (fun r => { r with epoch := e })).rollEnds p (if flags.testBit 0 then Code.PARTIAL else Code.OK)
      | none => s.modRoll p (fun r => { r with retry := true })
    else
      let as := s.assignEntries p es flags
      let s := s.modRoll p (fun r => { r with assigned := as })
      s.sendOn p s.selfIdx 5 0 0 (rollBody RollKind.assign epoch 0 as.length s.uid s.selfIdx flags as)

/-- R205: ROLL_TIMEOUT. -/
def execRollTimeout (p : Port) (s : State) : Host.Outcome State Fault Refusal :=
  gate (s.sender && s.sxq.roll[p].running) (fun s => s.rollEnds p Code.PARTIAL) s

/-- R203: ROLL_LISTEN_RETRY. -/
def execRollListenRetry (p : Port) (s : State) : Host.Outcome State Fault Refusal :=
  gate (s.sender && s.sxq.roll[p].running && s.sxq.roll[p].retry) (fun s => s.beginRoll p) s

/-! ### The tile's side -/

/-- R200: the newest epoch seen from an origin, and the port it came on. -/
def State.seenFrom (s : State) (uid : Nat) : Option (Nat × Port) :=
  (s.sxq.seen.find? (fun x => x.1 == uid)).map (fun x => (x.2.1, x.2.2.1))

/-- R200: an epoch seen from an origin is recorded with its port of arrival and the origin's index. -/
def State.noteSeen (s : State) (uid epoch : Nat) (p : Port) (idx : Nat) : State :=
  s.modSxq (fun g => { g with seen := (uid, epoch, p, idx) :: s.sxq.seen.filter (fun x => x.1 != uid) })

/-- R200: whether an epoch is newer than any seen from the origin; and whether it is newer or equal. -/
def State.epochNewer (s : State) (uid epoch : Nat) : Bool :=
  match s.seenFrom uid with
  | none => true
  | some (e, _) => newer 8 epoch e
def State.epochCurrent (s : State) (uid epoch : Nat) : Bool :=
  match s.seenFrom uid with
  | none => true
  | some (e, _) => epoch == e || newer 8 epoch e

/-- A roll message of this device leaves, with the origin's index as its destination. -/
def State.sendRoll (s : State) (p : Port) (b : List Byte) : State := s.sendOn p (rollOriginIdx b) 5 0 0 b

/-- R136, R181, R209: a roll message that is not for this device passes on unchanged out of the other through port, or is dropped and
counted there. -/
def State.passRoll (s : State) (m : Msg) : State :=
  let o := s.otherThrough m.port
  if s.active o then
    let away := leAt m.body 0 1 == RollKind.enum || leAt m.body 0 1 == RollKind.assign
    (messageSheaves 2 (m.dst * 64 + m.cls) (m.src * 64 + m.srcCls) m.cmdId m.epoch m.code (!away) m.body).foldl
      (fun s h => s.enqueue o { h with hop := (m.hop + 1) % 256 } none) s
  else s.inc Reg.SXQ_END_DROP

/-- R200, R201: ENUM at a device that is not its origin. -/
def State.enumArrives (s : State) (p : Port) (b : List Byte) : State :=
  let uid := rollOrigin b
  let epoch := rollEpoch b
  if uid = s.uid ∨ !s.epochNewer uid epoch then s
  else
    let s := s.noteSeen uid epoch p (rollOriginIdx b)
    let es := rollEntries b
    let back := fun (es : List (List Byte)) (flags : Nat) =>
      rollBody RollKind.enumReturn epoch (rollMode b) es.length uid (rollOriginIdx b) flags es
    if s.mode == 0 then
      if s.kind p == 2 then s.sendRoll p (back (es ++ [s.ownEntry p]) (rollFlags b ||| 2)) else s
    else if 64 ≤ es.length then s.sendRoll p (back es (rollFlags b ||| 1))
    else
      let es' := es ++ [s.ownEntry p]
      let o := s.otherThrough p
      if s.active o then
        s.sendRoll o (rollBody RollKind.enum epoch (rollMode b) es'.length uid (rollOriginIdx b) (rollFlags b) es')
      else s.sendRoll p (back es' (rollFlags b))

/-- R180, R200, R210: roll call runs in the sender, tile and fallow modes, on a through port of the last two. -/
def State.rollHears (s : State) (p : Port) : Bool := s.live && s.mode != 3 && (s.mode == 0 || s.isThrough p)

/-- R200: ENUM_RX. -/
def execEnumRx (m : Msg) (s : State) : Host.Outcome State Fault Refusal :=
  gate (s.rollHears m.port) (fun s => s.enumArrives m.port m.body) s

/-- R200: ENUM_RETURN_RX: at its origin the result; elsewhere it passes on toward the origin unless a newer epoch has been
seen. -/
def execEnumReturnRx (m : Msg) (s : State) : Host.Outcome State Fault Refusal :=
  gate (s.rollHears m.port)
    (fun s =>
      if s.mode == 0 then
        if rollOrigin m.body = s.uid then s.enumReturned m.port m.body else s
      else if s.epochCurrent (rollOrigin m.body) (rollEpoch m.body) then s.passRoll m
      else s) s

/-- R60, R202: a tile writes the index and epoch that ASSIGN gives it. Chapter 04 says that every device's index is held in GLB_DEVIDX,
but roll call assigns none to a sender: there it keeps its reset value (DESIGN CHOICE, log entry 65). -/
def State.takeIndex (s : State) (es : List (List Byte)) (epoch : Nat) : State :=
  match es.find? (fun e => entryUid e == s.uid) with
  | none => s
  | some e => s.wrN Reg.GLB_DEVIDX (b2n (entryValid e) * 2 ^ 31 + epoch % 256 * 2 ^ 16 + entryIndex e)

/-- R202: the tiles that have written a valid index when ASSIGN has come as far as this device. -/
def State.wroteIndex (s : State) (tiles : List (List Byte)) : Nat :=
  let before := tiles.takeWhile (fun e => entryUid e != s.uid)
  ((before ++ (tiles.drop before.length).take 1).filter entryValid).length

/-- R202: ASSIGN at a tile: it takes its index, and passes the message on or, at the last tile, answers it with the count of the tiles
that wrote one. -/
def State.assignArrives (s : State) (m : Msg) : State :=
  let b := m.body
  let tiles := tileEntries (rollEntries b) (rollFlags b)
  let s := s.takeIndex tiles (rollEpoch b)
  let o := s.otherThrough m.port
  let isLast := (match tiles.getLast? with | some e => entryUid e == s.uid | none => true) || !s.active o
  if isLast then
    s.sendRoll m.port (rollBody RollKind.assignAck (rollEpoch b) 0 (s.wroteIndex tiles) (rollOrigin b)
      (rollOriginIdx b) (rollFlags b) [])
  else s.passRoll m

/-- R202: ASSIGN_RX. -/
def execAssignRx (m : Msg) (s : State) : Host.Outcome State Fault Refusal :=
  gate (s.rollHears m.port && s.mode != 0 && s.epochCurrent (rollOrigin m.body) (rollEpoch m.body))
    (fun s => s.assignArrives m) s

/-- R202: ASSIGN_ACK_RX. -/
def execAssignAckRx (m : Msg) (s : State) : Host.Outcome State Fault Refusal :=
  gate (s.rollHears m.port)
    (fun s =>
      if s.mode == 0 then
        let r := s.sxq.roll[m.port]
        if rollOrigin m.body = s.uid ∧ r.running ∧ rollEpoch m.body = s.fld (Reg.SXQ_PORT_STATE m.port.val) 31 24 then
          let s := s.modRoll m.port (fun r => { r with entries := r.assigned, gotAck := true })
          s.rollEnds m.port (rollCode r.assigned r.flags (rollCount m.body))
        else s
      else s.passRoll m) s

/-- R204: CHANGE_RX: a sender starts a roll call on the port; a tile passes the message on. -/
def execChangeRx (m : Msg) (s : State) : Host.Outcome State Fault Refusal :=
  gate (s.rollHears m.port)
    (fun s => if s.mode == 0 then s.autoRoll m.port else s.passRoll m) s

/-- R204: a tile sends CHANGE toward every sender it knows. -/
def State.changeTx (s : State) : State :=
  let s := s.sxq.seen.foldl
    (fun s x =>
      s.sendOn x.2.2.1 x.2.2.2 5 0 0 (rollBody RollKind.change x.2.1 0 1 x.1 x.2.2.2 0 [s.ownEntry x.2.2.1])) s
  if s.sxq.seen.isEmpty then s else s.raise Ev.changeSent noInst 0 []

/-- R204: a port has entered or left ACTIVE, or met another peer. -/
def State.linkChanged (s : State) (p : Port) : State :=
  if s.mode == 0 then s.autoRoll p
  else if s.mode != 3 && s.isThrough p then s.changeTx
  else s

/-! ### Publication (R206 to R208) -/

/-- R208: the published table of a port: the roll header and 65 entries. -/
def State.writeTable (s : State) (p : Port) : State :=
  let r := s.sxq.roll[p]
  let b := rollBody (if r.gotAck then RollKind.assign else RollKind.enumReturn) r.epoch (b2n r.listen) r.entries.length s.uid s.selfIdx r.flags r.entries
  (bytesWords 1024 b).zipIdx.foldl (fun s wi => s.wr (Reg.SXQ_ROLL_TABLE (1024 * p.val + wi.2)) wi.1) s

/-- R207: the events of a completed roll call, against the previous table. -/
def State.compareTables (s : State) (p : Port) (before : List Nat) (tiles : List (List Byte)) : State :=
  let now := tiles.map entryUid
  let s := now.zipIdx.foldl
    (fun s u => if before[u.2]? = some u.1 then s else s.raise Ev.newUnit p.val 0 [(4, u.2 + 1), (16, u.1)]) s
  before.zipIdx.foldl
    (fun s u => if now.contains u.1 then s else s.raise Ev.unitMissing p.val 0 [(4, u.2 + 1), (16, u.1)]) s

/-- R207: index conflicts, seen in listen mode. -/
def State.indexConflicts (s : State) (p : Port) (tiles : List (List Byte)) : State :=
  tiles.zipIdx.foldl
    (fun s e =>
      if entryValid e.1 && entryIndex e.1 != s.indexAt p e.2 tiles.length then
        s.raise Ev.indexConflict p.val 0 [(4, e.2 + 1), (16, entryUid e.1)]
      else s) s

/-- R206, R207, R215: the roll call of a port completes. -/
def State.rollComplete (s : State) (p : Port) : State :=
  let r := s.sxq.roll[p]
  let tiles := tileEntries r.entries r.flags
  let st := Reg.SXQ_PORT_STATE p.val
  let s := (((s.setFld st 22 16 tiles.length).setBit st 9 (r.flags.testBit 1)).setBit st 8 (r.flags.testBit 0)).setBit st 0 false
  let s := match r.previous with
    | some before => s.compareTables p before tiles
    | none => s
  let s := if r.listen then s.indexConflicts p tiles else s
  let s := s.modRoll p (fun r => { r with previous := some (tiles.map entryUid), gotAck := false, gotReturn := false, ended := false })
  let s := s.raise Ev.rollDone p.val 0 [(1, r.lastCode), (1, r.entries.length)]
  s.modSxq (fun g => { g with
      opPorts := s.sxq.opPorts.filter (· != p)
      opBad := s.sxq.opBad || r.lastCode != Code.OK
      opRunning := s.sxq.opRunning && !(s.sxq.opPorts.filter (· != p)).isEmpty })

/-- R206: what roll call does at a publication point. -/
def State.publishRolls (s : State) : State :=
  let due := ports.filter (fun p => s.sxq.roll[p].publish)
  if due.isEmpty then s
  else
    let s := due.foldl (fun s p =>
      let done := s.sxq.roll[p].ended
      let s := (s.writeTable p).modRoll p (fun r => { r with publish := false })
      if done then s.rollComplete p else s) s
    let st := Reg.SXQ_ROLL_STATUS
    ((s.setBit st 24 true).bumpFld st 15 8).rollStatus

end Sys2Proof.Machine
end

