-- ==== Sys2Proof/Machine/Boot.lean ====
section
/-!
DEFINITION. The flash, the journal, the checks of images and configuration sets, starting an image, and the update commands up to
their flash operation (chapter 18, R629 to R654).
-/

namespace Sys2Proof.Machine

/-- R657, R658: event sources of AON and BOOT/FWU. -/
abbrev Ev.previousShutdown : Nat := 16
abbrev Ev.vbatLost : Nat := 17
abbrev Ev.secondsLoaded : Nat := 18
abbrev Ev.bootDone : Nat := 24
abbrev Ev.slotRejected : Nat := 25
abbrev Ev.configLoaded : Nat := 26
abbrev Ev.configRejected : Nat := 27
abbrev Ev.activate : Nat := 28
abbrev Ev.confirmed : Nat := 29
abbrev Ev.fallback : Nat := 30
abbrev Ev.verifyDone : Nat := 31
abbrev Ev.floorAdvanced : Nat := 32
abbrev Ev.keyRevoked : Nat := 33
abbrev Ev.flashError : Nat := 34

/-- R659: slot and set states. -/
abbrev SlotState.written : Nat := 1
abbrev SlotState.verified : Nat := 2
abbrev SlotState.trial : Nat := 3
abbrev SlotState.current : Nat := 4
abbrev SlotState.standby : Nat := 5
abbrev SlotState.failed : Nat := 6

/-- R635: reasons that the rules name outside the table of checks. -/
abbrev Reason.flashRead : Nat := 0xC
abbrev Reason.unconfirmed : Nat := 0xD

/-- R6: the latched boot source. -/
def State.bootSrc (s : State) : Nat := s.fld Reg.GLB_IDENT 3 2

/-- R648, R649: the control plane is paused. -/
def State.pausedNow (s : State) : Bool := s.bit Reg.BOOT_STATUS 27

/-- R650: an image is in its trial. -/
def State.inTrial (s : State) : Bool := s.bit Reg.BOOT_STATUS 28

/-- R634: shut-down has begun, so no page program and no erase starts. -/
def State.shutting (s : State) : Bool := s.bit Reg.HKP_STATE 29

/-! ### The flash (R629, R630) -/

/-- R629: the flash's bytes; none without a flash. -/
def State.flashBytes (s : State) : Nat :=
  if s.bit Reg.BOOT_FLASH 31 then s.fld Reg.BOOT_FLASH 15 0 * 2 ^ 20 else 0

/-- R630: the chain buffer in device memory, and its size (R576). -/
abbrev chainBase : Nat := granaryBase + 0x1800000
abbrev chainSize : Nat := 0x1800000

/-- R630: where a region begins: in the flash, or the chain buffer in device memory. -/
def regionBase (r : Nat) : Nat :=
  if r = 0 then 0x1000000 else if r = 1 then 0x2000000 else if r = 2 then 0x3000000 else if r = 3 then 0x3800000
  else if r = 4 then 0x4000000 else chainBase

/-- R630, R647: a region's bytes; zero for a code with no region and for one beyond the end of the flash. -/
def State.regionSize (s : State) (r : Nat) : Nat :=
  if r = 5 then (if s.role = 1 then chainSize else 0)
  else if r < 2 then (if regionBase r + 0x1000000 ≤ s.flashBytes then 0x1000000 else 0)
  else if r < 4 then (if regionBase r + 0x800000 ≤ s.flashBytes then 0x800000 else 0)
  else if r = 4 then s.flashBytes - 0x4000000
  else 0

/-- Bytes of a region. -/
def State.readRegion (s : State) (r off n : Nat) : List Byte :=
  if r = 5 then s.rdMem (chainBase + off) n else s.rdFlash (regionBase r + off) n

/-- The flash with the bytes from `a` upward erased. -/
def State.eraseFlash (s : State) (a n : Nat) : State :=
  s.keepFlash (fun k => !(decide (a ≤ k) && decide (k < a + n)))

/-- A failed flash operation is counted and reported with its flash offset (R658, R659). -/
def State.flashFailed (s : State) (at' : Nat) : State :=
  (s.inc Reg.BOOT_FLASH_ERR).raise Ev.flashError noInst 0 [(4, at')]

/-! ### The journal (R631 to R633) -/

/-- R631: a valid journal entry; `pos` counts the 64-byte places of both sectors. -/
structure JEntry where
  pos : Nat
  seq : Nat
  kind : Nat
  index : Nat
  state : Nat
  reason : Nat
  version : Nat
  deriving DecidableEq, Repr

/-- The places of the journal that are not free. -/
def State.journalUsed (s : State) : List Nat :=
  (s.flash.filter (fun c => decide (0x10000 ≤ c.1) && decide (c.1 < 0x30000))).foldl
    (fun l c => insertOnce ((c.1 - 0x10000) / 64) l) []

/-- R631: the entry at a place, where its check word is right. -/
def State.journalAt (s : State) (pos : Nat) : Option JEntry :=
  let b := s.rdFlash (0x10000 + 64 * pos) 64
  if leAt b 60 4 = crc32c (b.take 60) then
    some { pos := pos, seq := leAt b 0 4, kind := leAt b 4 1, index := leAt b 5 1, state := leAt b 6 1, reason := leAt b 7 1,
           version := leAt b 8 4 }
  else none

/-- R631: the valid entries of both sectors. -/
def State.journal (s : State) : List JEntry := s.journalUsed.filterMap s.journalAt

/-- The entry of the highest seq. -/
def newestEntry : List JEntry → Option JEntry
  | [] => none
  | e :: t =>
    match newestEntry t with
    | some f => if e.seq < f.seq then some f else some e
    | none => some e

/-- R632: the entry that gives the state of a type and index. -/
def State.jState (s : State) (kind index : Nat) : Option JEntry :=
  newestEntry (s.journal.filter (fun e => e.kind == kind && e.index == index))

/-- R632: the configuration set selected. -/
def State.selectedSet (s : State) : Nat :=
  match newestEntry (s.journal.filter (fun e => e.kind == 3)) with
  | some e => e.index % 2
  | none => 0

/-- R632: the state of a slot or set, with its reason. -/
def State.slotState (s : State) (n : Nat) : Nat × Nat :=
  match s.jState 1 n with
  | some e => (e.state, e.reason)
  | none => (SlotState.written, 0)
def State.setState (s : State) (n : Nat) : Nat × Nat :=
  match s.jState 2 n with
  | some e => (e.state, e.reason)
  | none => (SlotState.written, 0)

/-- R631: the bytes of an entry. -/
def journalBytes (seq kind index state reason version : Nat) : List Byte :=
  let b := leBytes 4 seq ++ leBytes 1 kind ++ leBytes 1 index ++ leBytes 1 state ++ leBytes 1 reason ++ leBytes 4 version ++ zeros 48
  b ++ leBytes 4 (crc32c b)

/-- R659: the registers of a slot and of a set follow the journal and the headers in the flash. -/
def State.refreshSlot (s : State) (n : Nat) : State :=
  let h := s.readRegion n 0 20
  let ok := leAt h 0 4 == 0x49584C50
  let st := s.slotState n
  let s := s.wrN (Reg.BOOT_SLOT_STATE n) (st.1 * 2 ^ 29 + st.2 % 16 * 2 ^ 24 + (if ok then leAt h 16 1 % 128 * 2 ^ 16 else 0))
  s.wrN (Reg.BOOT_SLOT_VER n) (if ok then leAt h 12 4 else 0)
def State.refreshSet (s : State) (n : Nat) : State :=
  let h := s.readRegion (2 + n) 0 16
  let st := s.setState n
  let shown := if s.selectedSet = n ∧ st.1 ≠ SlotState.failed then 3 else st.1
  let s := s.wrN (Reg.BOOT_CFG_STATE n) (shown * 2 ^ 29 + st.2 % 16 * 2 ^ 24)
  s.wrN (Reg.BOOT_CFG_VER n) (if leAt h 0 4 = 0x43584C50 then leAt h 12 4 else 0)
def State.refreshFlash (s : State) : State := (((s.refreshSlot 0).refreshSlot 1).refreshSet 0).refreshSet 1

/-- R632: the other sector receives the current state of every type and index, after it has been erased. -/
def State.changeSector (s : State) (sector : Nat) : State :=
  let keep := [(1, 0), (1, 1), (2, 0), (2, 1), (3, 0), (3, 1)].filterMap (fun k => s.jState k.1 k.2)
  let seq := match newestEntry s.journal with
    | some e => e.seq + 1
    | none => 1
  let s := s.eraseFlash (0x10000 + 0x10000 * sector) 0x10000
  let kept := if keep.any (fun e => e.kind == 3) then
      keep.filter (fun e => e.kind != 3 || e.index == s.selectedSet)
    else keep
  (kept.zipIdx).foldl
    (fun (s : State) x => s.wrFlash (0x10000 + 0x10000 * sector + 64 * x.2)
      (journalBytes (seq + x.2) x.1.kind x.1.index x.1.state x.1.reason x.1.version)) s

/-- R631, R632: an entry is programmed at the next free place, after a change of sector where the sector is full. -/
def State.journalWrite (s : State) (kind index state reason version : Nat) : State :=
  let sector := match newestEntry s.journal with
    | some e => e.pos / 1024
    | none => 0
  let free := fun (s : State) (sector : Nat) =>
    (s.journalUsed.filter (fun p => p / 1024 == sector)).foldl (fun m p => max m (p % 1024 + 1)) 0
  let full := decide (1024 ≤ free s sector)
  let sector' := if full then 1 - sector else sector
  let s := if full then s.changeSector sector' else s
  let seq := match newestEntry s.journal with
    | some e => e.seq + 1
    | none => 1
  let s := s.wrFlash (0x10000 + 0x10000 * sector' + 64 * free s sector') (journalBytes seq kind index state reason version)
  s.refreshFlash

/-- R631: an entry that gives slot `n` a state. -/
def State.journalSlot (s : State) (n state reason : Nat) : State :=
  s.journalWrite 1 n state reason (s.rd (Reg.BOOT_SLOT_VER n)).toNat
def State.journalSet (s : State) (n state reason : Nat) : State :=
  s.journalWrite 2 n state reason (s.rd (Reg.BOOT_CFG_VER n)).toNat

/-! ### Checks (R635, R636, R643) -/

/-- The signature entries of a signature block that are present. -/
def sigEntries (b : List Byte) : List (List Byte) :=
  [slice b 0 256, slice b 256 256].filter (fun e => leAt e 0 1 == 1)

/-- R635: the key slot is fused and not revoked. -/
def State.keyUsable (s : State) (k : Nat) : Bool :=
  decide (k < 2) && s.bit Reg.BOOT_FUSE (8 + k) && !s.bit Reg.BOOT_FUSE (12 + k)

/-- R635: a present entry's key hashes to its slot's fused hash, and its signature verifies over the hash `z`. -/
def State.entryGood (s : State) (e : List Byte) (z : Nat) : Bool :=
  sha384 (slice e 16 96) == s.glb.fuses.keyHash.toArray.getD (leAt e 1 1) 0 &&
    ecdsaVerify (leAt e 16 48) (leAt e 64 48) (leAt e 112 48) (leAt e 160 48) z

/-- R635, R636: the reason by the signatures, zero where they are good; the signed bytes are `body`. -/
def State.sigReason (s : State) (es : List (List Byte)) (body : List Byte) : Nat :=
  if es.isEmpty then 0x5
  else if es.any (fun e => !s.keyUsable (leAt e 1 1)) then 0x4
  else
    let z := sha384 body
    if es.any (fun e => !s.entryGood e z) then 0x3 else 0

/-- Both signature entries name the same key slot. -/
def sameKey (es : List (List Byte)) : Bool :=
  match es with
  | [a, b] => leAt a 1 1 == leAt b 1 1
  | _ => false

/-- R634: the sections of an image's header: type, offset, length, load and interface version. -/
def sections (h : List Byte) : List (Nat × Nat × Nat × Nat × Nat) :=
  (List.range (min 16 (leAt h 88 4))).map (fun i =>
    (leAt h (128 + 32 * i) 4, leAt h (132 + 32 * i) 4, leAt h (136 + 32 * i) 4, leAt h (140 + 32 * i) 4, leAt h (144 + 32 * i) 2))

/-- R576, R635: a section lies inside the header's rules and the Granary range of image sections. -/
def sectionOk (blen : Nat) (x : Nat × Nat × Nat × Nat × Nat) : Bool :=
  x.2.1 % 4096 == 0 && decide (4096 ≤ x.2.1) && decide (x.2.1 + x.2.2.1 ≤ blen) &&
    ((x.1 != 1 && x.1 != 3) || (decide (0x400000 ≤ x.2.2.2.1) && decide (x.2.2.2.1 + x.2.2.1 ≤ 0x800000)))

/-- R635, reason 0x9: an interface version of the image that this device's block does not meet. -/
def State.ifvBad (s : State) (h : List Byte) : Bool :=
  (List.range 22).any (fun k =>
    let mine := s.fld (Reg.BOOT_IFV (k / 2)) (16 * (k % 2) + 15) (16 * (k % 2))
    leAt h (45 + 2 * k) 1 != mine / 256 || decide (mine % 256 < leAt h (44 + 2 * k) 1))

/-- R635: the checks of an image whose bytes `rd` reads, in order; zero where it passes. A read that fails gives 0xC. -/
def State.checkImage (s : State) (rd : Nat → Nat → List Byte) (readOk : Bool) : Nat :=
  if !readOk then Reason.flashRead
  else
    let h := rd 0 1024
    let blen := leAt h 20 4
    let secs := sections h
    if leAt h 0 4 ≠ 0x49584C50 ∨ leAt h 4 2 ≠ 1 then 0x1
    else if blen % 4096 ≠ 0 ∨ blen = 0 ∨ 2 ^ 24 - 4096 < blen ∨ leAt h 88 4 < 2 ∨ 16 < leAt h 88 4 then 0x2
    else
      let es := sigEntries (rd blen 512)
      if secs.any (fun x => !sectionOk blen x) || (secs.filter (fun x => x.1 == 1)).length != 1 ||
          (secs.filter (fun x => x.1 == 2)).length != 1 || sameKey es then 0x2
      else
        let r := s.sigReason es (rd 0 blen)
        let step := s.fld Reg.GLB_IDENT 15 8
        if r ≠ 0 then r
        else if leAt h 6 2 ≠ 0x7710 ∨ (bits (leAt h 11 1) 0 0 = 1 ∧ leAt h 24 16 ≠ s.uid) then 0x6
        else if step < leAt h 8 1 ∨ leAt h 9 1 < step then 0x7
        else if !(leAt h 10 1).testBit s.role then 0x8
        else if s.ifvBad h then 0x9
        else if secs.any (fun x => x.1 == 2 && (decide (x.2.2.2.2 < leAt h 40 2) || decide (leAt h 42 2 < x.2.2.2.2))) then 0xA
        else if leAt h 16 1 < s.fld Reg.BOOT_FUSE 6 0 then 0xB
        else 0

/-- R635: the check of a slot's image, and of the one in the chain buffer. -/
def State.checkSlot (s : State) (n : Nat) (readOk : Bool) : Nat :=
  s.checkImage (fun a k => s.readRegion n a k) (readOk && s.regionSize n != 0)
def State.checkChain (s : State) : Nat := s.checkImage (fun a k => s.readRegion 5 a k) true

/-- R643: the checks of a configuration set whose bytes `rd` reads, in order; zero where it passes. -/
def State.checkSet (s : State) (rd : Nat → Nat → List Byte) (readOk : Bool) : Nat :=
  if !readOk then Reason.flashRead
  else
    let h := rd 0 64
    let total := leAt h 16 4
    if leAt h 0 4 ≠ 0x43584C50 ∨ leAt h 4 2 ≠ 1 then 0x1
    else if leAt h 6 2 ≠ 0x7710 then 0x6
    else if !(leAt h 8 1).testBit s.role then 0x8
    else if total % 4 ≠ 0 ∨ total < 64 ∨ 0x800000 - 512 < total then 0x2
    else
      let b := rd 0 total
      if crc32c (slice b 0 24 ++ zeros 4 ++ b.drop 28) ≠ leAt h 24 4 then 0xE
      else if (leAt h 9 1).testBit 0 || s.bit Reg.BOOT_FUSE 16 then
        let es := sigEntries (rd total 512)
        if sameKey es then 0x2 else s.sigReason es b
      else 0

/-- R643, R653: the place of a configuration set: of set `n` of the flash, or in the chain buffer. -/
def State.setBytes (s : State) (chain : Bool) (n a k : Nat) : List Byte :=
  if chain then s.readRegion 5 (0x1000000 + a) k else s.readRegion (2 + n) a k

/-! ### Starting an image -/

/-- R642, R652: the image in region `r` is started: its sections lie in the Granary, and it runs. -/
def State.startImage (s : State) (r source : Nat) : State :=
  let h := s.readRegion r 0 1024
  let secs := (sections h).filter (fun x => x.1 == 1 || x.1 == 3)
  let s := secs.foldl (fun (s : State) x => s.wrRaw (granaryBase + x.2.2.2.1) (s.readRegion r x.2.1 x.2.2.1)) s
  let first := !s.boot.running
  let s := s.modBoot (fun b => { b with
    running := true, choosing := false,
    keys := (sigEntries (s.readRegion r (leAt h 20 4) 512)).map (fun e => leAt e 1 1) })
  let s := s.modGlb (fun g => { g with image := leAt h 12 4 })
  let s := (s.setFld Reg.BOOT_STATUS 30 29 source).setBit Reg.BOOT_STATUS 31 (r == 1)
  let s := s.setBit Reg.DBG_MON_STATUS 30 false
  let s := if first then (s.setFld Reg.GLB_STATE 31 30 s.role).setFld Reg.GLB_STATE 29 26 0 else s
  s.raise Ev.bootDone noInst 0 [(1, source), (1, b2n (r == 1)), (4, leAt h 12 4)]

/-- R641: no image runs: the device stays on the boot ROM in fallow mode. -/
def State.romOnly (s : State) (cause : Nat) : State :=
  let s := s.modBoot (fun b => { b with running := false, choosing := false })
  let s := (s.setFld Reg.BOOT_STATUS 30 29 2).setBit Reg.DBG_MON_STATUS 30 true
  s.enterFallow cause

/-- R652: CHAIN_START, and the monitor's boot chain: the image of the chain buffer is checked and started; the reason. -/
def State.chainStart (s : State) : State × Nat :=
  let r := s.checkChain
  if r = 0 then (s.startImage 5 1, 0) else (s.raise Ev.slotRejected noInst 0 [(1, r)], r)

/-! ### The pause (R648, R649) -/

/-- R93, R649: the PTP engine stops feeding TB0, whose servo goes into holdover. -/
def State.ptpStops (s : State) : State :=
  if s.servoSource 0 = 1 ∧ (s.servo 0 = Servo.acquisition ∨ s.servo 0 = Servo.locked) then s.enterHoldover 0 else s

/-- R648, R649, R680: the control plane pauses to load a slot. -/
def State.pauseBegins (s : State) (slot : Nat) : State :=
  let s := (s.setBit Reg.BOOT_STATUS 27 true).setBit Reg.DBG_MON_STATUS 29 true
  (s.raise Ev.activate noInst 0 [(1, slot)]).ptpStops

/-! ### Update commands (R646, R647) -/

/-- R646: an update command completes: BOOT_CMD_STAT, the books, and the answer to one that came as a message. -/
def State.updateDone (s : State) (u : Update) (code reason : Nat) : State :=
  let busy := b2n s.boot.held.isSome
  let s := s.wrN Reg.BOOT_CMD_STAT (busy * 2 ^ 31 + code * 2 ^ 27 + reason % 16 * 2 ^ 16 + u.op % 256)
  let s := s.cmdDone code
  match u.sender with
  | none => s
  | some (p, src) =>
    let body := leBytes 4 reason
    (s.remember { src := src, cmdId := u.id, cls := 3, code := code, body := body }).sendOn p src 3 u.id code body

/-- The held command completes. -/
def State.heldDone (s : State) (u : Update) (code reason : Nat) : State :=
  (s.modBoot (fun b => { b with held := none, job := none })).updateDone u code reason

/-- A held command is refused without a reason that the spec states: the reason is a free value (log entry 2). -/
def State.heldRefused (s : State) (u : Update) : State :=
  let v := s.free
  v.2.heldDone u Code.REFUSED (v.1 % 16)

/-- R647: regions that ERASE and WRITE may not touch. -/
def State.protectedRegion (s : State) (r : Nat) : Bool :=
  if r < 2 then (s.slotState r).1 == SlotState.current || (s.slotState r).1 == SlotState.trial
  else if r < 4 then s.selectedSet == r - 2
  else if r = 5 then !(s.mode == 2 && s.bootSrc == 1 && !s.boot.running)
  else false

/-- R646: offset and length are multiples of `g` inside the region. -/
def State.inRegion (s : State) (u : Update) (g : Nat) : Bool :=
  u.offset % g == 0 && u.length % g == 0 && decide (u.offset + u.length ≤ s.regionSize u.region) &&
    decide (0 < s.regionSize u.region)

/-- R634: the flash operation of the held command starts, unless shut-down has begun. -/
def State.startJob (s : State) (j : FlashJob) (programs : Bool) : State :=
  if programs && s.shutting then s else s.modBoot (fun b => { b with job := some j })

/-- R633, R647: a slot or set is marked written before any part of it is erased or programmed. -/
def State.markWritten (s : State) (r : Nat) : State :=
  if r < 2 then (if (s.slotState r).1 = SlotState.written then s else s.journalSlot r SlotState.written 0)
  else if r < 4 then (if (s.setState (r - 2)).1 = SlotState.written then s else s.journalSet (r - 2) SlotState.written 0)
  else s

/-- R646, R647: ERASE. -/
def State.beginErase (s : State) (u : Update) : State :=
  if !s.inRegion u 0x10000 then s.heldDone u Code.REFUSED 0x2
  else if s.protectedRegion u.region then s.heldRefused u
  else if s.shutting then s
  else ((s.markWritten u.region).emit (.flash "ERASE" (regionBase u.region + u.offset) u.length)).startJob .update true

/-- R646, R647: WRITE. -/
def State.beginWrite (s : State) (u : Update) : State :=
  if !s.inRegion u 256 || decide (0x8000 < u.length) then s.heldDone u Code.REFUSED 0x2
  else if s.protectedRegion u.region then s.heldRefused u
  else if s.shutting then s
  else ((s.markWritten u.region).emit (.flash "PROGRAM" (regionBase u.region + u.offset) u.length)).startJob .update true

/-- R646: READ. -/
def State.beginRead (s : State) (u : Update) : State :=
  if !s.inRegion u 256 || decide (0x8000 < u.length) then s.heldDone u Code.REFUSED 0x2
  else (s.emit (.flash "READ" (regionBase u.region + u.offset) u.length)).startJob .update false

/-- R646, R647: VERIFY: BOOT_VERIFY_STATUS is a status word without partial results. -/
def State.beginVerify (s : State) (u : Update) : State :=
  if s.regionSize u.region = 0 ∨ u.region = 4 ∨ 5 < u.region then s.heldRefused u
  else (s.wrN Reg.BOOT_VERIFY_STATUS (statusWord Phase.running 0 false 0 0 u.id)).startJob .update false

/-- R646, R648: a slot's load begins, with the journal entry of the trial first. -/
def State.beginLoad (s : State) (slot : Nat) (trial : Bool) : State :=
  if s.shutting then s
  else
    let old := if s.boot.running && s.fld Reg.BOOT_STATUS 30 29 == 0 then some (s.fld Reg.BOOT_STATUS 31 31) else none
    let s := s.modBoot (fun b => { b with before := old })
    let s := if trial then s.journalSlot slot SlotState.trial 0 else s
    (s.pauseBegins slot).startJob (.load slot trial) true

/-- R646: ACTIVATE. A device strapped fallow only loads no image (R628). -/
def State.beginActivate (s : State) (u : Update) : State :=
  if u.arg < 2 && (s.slotState u.arg).1 == SlotState.verified && s.role != 2 && !s.inTrial then s.beginLoad u.arg true
  else s.heldRefused u

/-- R651: a fallback begins: the trial slot has failed, and the previous current slot is loaded in a pause. -/
def State.beginFallback (s : State) : State :=
  if s.shutting then s
  else
    let slot := s.fld Reg.BOOT_STATUS 31 31
    let target := s.boot.before.getD (1 - slot)
    let s := (s.modBoot (fun b => { b with trialEnd := none })).setBit Reg.BOOT_STATUS 28 false
    let s := s.journalSlot slot SlotState.failed Reason.unconfirmed
    (s.pauseBegins target).startJob (.fallBack target) true

/-- R646, R651: ROLLBACK. -/
def State.beginRollback (s : State) (u : Update) : State :=
  if s.inTrial then s.beginFallback
  else
    match [0, 1].find? (fun n => (s.slotState n).1 == SlotState.standby) with
    | some n => if s.role = 2 then s.heldRefused u else s.beginLoad n false
    | none => s.heldRefused u

/-- R646: SELECT. -/
def State.beginSelect (s : State) (u : Update) : State :=
  if u.arg < 2 && (s.setState u.arg).1 == SlotState.verified then
    if s.shutting then s else (s.journalWrite 3 u.arg 0 0 (s.rd (Reg.BOOT_CFG_VER u.arg)).toNat).startJob .update true
  else s.heldRefused u

/-- R637: REVOKE. -/
def State.revoke (s : State) (u : Update) : State :=
  let other := 1 - u.arg
  if 1 < u.arg || s.bit Reg.BOOT_FUSE (12 + other) || !s.bit Reg.BOOT_FUSE (8 + other) || s.boot.keys.contains u.arg then
    s.heldRefused u
  else
    let s := s.setBit Reg.BOOT_FUSE (12 + u.arg) true
    let s := s.modGlb (fun g => { g with fuses := { s.glb.fuses with boot := s.rd Reg.BOOT_FUSE } })
    (s.raise Ev.keyRevoked noInst 0 []).heldDone u Code.OK 0

/-- R652: CHAIN_START. -/
def State.beginChainStart (s : State) (u : Update) : State :=
  if s.mode == 2 && s.role == 1 && s.bootSrc == 1 && !s.boot.running then
    let x := s.chainStart
    x.1.heldDone u (if x.2 = 0 then Code.OK else Code.REFUSED) x.2
  else s.heldRefused u

/-- R646: the held command begins. -/
def State.beginUpdate (s : State) (u : Update) : State :=
  if u.op = 1 then s.beginErase u
  else if u.op = 2 then s.beginWrite u
  else if u.op = 3 then s.beginRead u
  else if u.op = 4 then s.beginVerify u
  else if u.op = 5 then s.beginActivate u
  else if u.op = 6 then s.beginRollback u
  else if u.op = 7 then s.beginSelect u
  else if u.op = 8 then s.revoke u
  else if u.op = 9 then s.beginChainStart u
  else s.heldRefused u

/-- R646: an update command that has been counted as posted: one at a time is held, and another completes with BUSY. -/
def State.takeUpdate (s : State) (u : Update) : State :=
  if s.boot.held.isSome then s.updateDone u Code.BUSY 0
  else
    let s := s.modBoot (fun b => { b with held := some u })
    (s.wrN Reg.BOOT_CMD_STAT (2 ^ 31 + u.op % 256)).beginUpdate u

/-- R646, R649: an update command is posted; during a pause it waits. -/
def State.postUpdate (s : State) (u : Update) : State :=
  let s := s.cmdPosted
  if s.pausedNow then s.modBoot (fun b => { b with waiting := b.waiting ++ [u] }) else s.takeUpdate u

/-- R646: the command that three words spell. -/
def updateOf (w0 offset length id : Nat) (sender : Option (Port × Nat)) : Update :=
  { op := bits w0 31 24, region := bits w0 19 16, arg := bits w0 3 0, offset := offset, length := length, id := id,
    sender := sender }

/-- R646: a write of BOOT_CMD_ID posts the command that the three registers hold. -/
def State.bootCmdIdWrite (s : State) (v : Word) : State :=
  let s := s.wr Reg.BOOT_CMD_ID v
  s.postUpdate (updateOf (s.rd Reg.BOOT_CMD_OP).toNat (s.rd Reg.BOOT_CMD_OFFSET).toNat (s.rd Reg.BOOT_CMD_LENGTH).toNat v.toNat none)

/-- R649: the pause ends: what waited for it goes on. -/
def State.pauseEnds (s : State) : State :=
  let s := (s.setBit Reg.BOOT_STATUS 27 false).setBit Reg.DBG_MON_STATUS 29 false
  let us := s.boot.waiting
  let ps := s.boot.rollWait
  let s := s.modBoot (fun b => { b with waiting := [], rollWait := [] })
  let s := ps.foldl (fun (s : State) p => s.startRoll p) s
  us.foldl (fun (s : State) u => s.takeUpdate u) s

/-! ### The end of a flash operation -/

/-- R646: ERASE ends. -/
def State.eraseDone (s : State) (u : Update) (ok : Bool) (at' : Nat) : State :=
  if ok then
    let s := if u.region = 5 then s.wrRaw (chainBase + u.offset) (List.replicate u.length 0xFF)
      else (s.eraseFlash (regionBase u.region + u.offset) u.length).refreshFlash
    s.heldDone u Code.OK 0
  else
    let v := (s.flashFailed at').free
    v.2.heldDone u Code.FAULT (v.1 % 16)

/-- R646: WRITE ends: a program can only clear bits, so a page that was not erased reads back wrong. -/
def State.writeDone (s : State) (u : Update) (ok : Bool) (at' : Nat) : State :=
  let data := (wordsBytes ((List.range (u.length / 4)).map (fun i => s.rd (Reg.BOOT_STAGE i))))
  if u.region = 5 then (s.wrRaw (chainBase + u.offset) data).heldDone u Code.OK 0
  else
    let a := regionBase u.region + u.offset
    let old := s.rdFlash a u.length
    let s := (s.wrFlash a (List.zipWith (· &&& ·) old data)).refreshFlash
    if ok && s.rdFlash a u.length == data then s.heldDone u Code.OK 0
    else
      let v := (s.flashFailed (if ok then a else at')).free
      v.2.heldDone u Code.FAULT (v.1 % 16)

/-- R646: READ ends. -/
def State.readDone (s : State) (u : Update) (ok : Bool) (at' : Nat) : State :=
  if ok || u.region == 5 then
    let ws := bytesWords (u.length / 4) (s.readRegion u.region u.offset u.length)
    ((ws.zipIdx).foldl (fun (s : State) x => s.wr (Reg.BOOT_STAGE x.2) x.1) s).heldDone u Code.OK 0
  else (s.flashFailed at').heldDone u Code.FAULT Reason.flashRead

/-- R647: VERIFY ends: the region is verified or failed; the current, trial and standby slots stay so when they pass. -/
def State.verifyDone (s : State) (u : Update) (ok : Bool) (at' : Nat) : State :=
  let s := if ok then s else s.flashFailed at'
  let r := if u.region = 5 then s.checkChain
    else if u.region < 2 then s.checkSlot u.region ok
    else s.checkSet (fun a k => s.readRegion u.region a k) ok
  let keep := u.region < 2 && r == 0 && decide (SlotState.trial ≤ (s.slotState u.region).1) &&
    decide ((s.slotState u.region).1 ≤ SlotState.standby)
  let st := if r = 0 then SlotState.verified else SlotState.failed
  let s := if s.shutting || keep then s
    else if u.region < 2 then s.journalSlot u.region st r
    else if u.region < 4 then s.journalSet (u.region - 2) st r
    else s
  let code := if r = 0 then Code.OK else Code.REFUSED
  let s := s.wrN Reg.BOOT_VERIFY_STATUS (statusWord Phase.done code false 100 0 u.id)
  (s.raise Ev.verifyDone noInst 0 [(1, u.region), (1, r)]).heldDone u code r

/-- R650: the trial begins at the end of the pause: its deadline is 60 s away. -/
def State.trialBegins (s : State) : State :=
  (s.modBoot (fun b => { b with trialEnd := some (s.tmb.tclk + 60 * 800000000) })).setBit Reg.BOOT_STATUS 28 true

/-- The held command, if there is one, completes. -/
def State.finishHeld (s : State) (code reason : Nat) : State :=
  match s.boot.held with
  | some u => s.heldDone u code reason
  | none => s.modBoot (fun b => { b with job := none })

/-- R648: the load of a slot in a pause ends: its image runs, or the previous one goes on. -/
def State.loadDone (s : State) (slot : Nat) (trial ok : Bool) (at' : Nat) : State :=
  let s := if ok then s else s.flashFailed at'
  let r := s.checkSlot slot ok
  if r = 0 then
    let s := s.startImage slot 0
    let s := if trial then s.trialBegins
      else (s.journalSlot slot SlotState.current 0).journalSlot (1 - slot) SlotState.standby 0
    (s.finishHeld Code.OK 0).pauseEnds
  else
    let s := (s.journalSlot slot SlotState.failed r).raise Ev.slotRejected slot 0 [(1, r)]
    (s.finishHeld Code.REFUSED r).pauseEnds

/-- R651: the load of the previous current slot ends. One that fails leaves no image to run (R641). -/
def State.fallBackDone (s : State) (slot : Nat) (ok : Bool) (at' : Nat) : State :=
  let s := if ok then s else s.flashFailed at'
  let r := s.checkSlot slot ok
  let s := if r = 0 then s.startImage slot 0
    else (s.raise Ev.slotRejected slot 0 [(1, r)]).romOnly (if 0x7 ≤ r ∧ r ≤ 0xA then 4 else 5)
  let s := s.raise Ev.fallback noInst 0 []
  (s.finishHeld (if r = 0 then Code.OK else Code.REFUSED) r).pauseEnds

/-- R646: the flash operation in progress ends; `at'` is the flash offset of one that failed. -/
def State.flashDone (s : State) (ok : Bool) (at' : Nat) : State :=
  match s.boot.job, s.boot.held with
  | some .update, some u =>
    if u.op = 1 then s.eraseDone u ok at'
    else if u.op = 2 then s.writeDone u ok at'
    else if u.op = 3 then s.readDone u ok at'
    else if u.op = 4 then s.verifyDone u ok at'
    else if ok then s.heldDone u Code.OK 0
    else
      let v := (s.flashFailed at').free
      v.2.heldDone u Code.FAULT (v.1 % 16)
  | some (.load slot trial), _ => s.loadDone slot trial ok at'
  | some (.fallBack slot), _ => s.fallBackDone slot ok at'
  | _, _ => s

/-- R650, R638: a confirm within the trial makes the slot current and the other standby, and the floor may rise. -/
def State.confirm (s : State) : State :=
  let slot := s.fld Reg.BOOT_STATUS 31 31
  let inTime := match s.boot.trialEnd with
    | some d => decide (s.tmb.tclk ≤ d)
    | none => false
  if !inTime || s.shutting then s
  else
    let s := (s.modBoot (fun b => { b with trialEnd := none })).setBit Reg.BOOT_STATUS 28 false
    let s := (s.journalSlot slot SlotState.current 0).journalSlot (1 - slot) SlotState.standby 0
    let h := s.readRegion slot 0 32
    let floor := s.fld Reg.BOOT_FUSE 6 0
    let s := if (leAt h 11 1).testBit 1 ∧ floor < leAt h 16 1 then
        let s := s.setFld Reg.BOOT_FUSE 6 0 (min 64 (leAt h 16 1))
        let s := s.modGlb (fun g => { g with fuses := { s.glb.fuses with boot := s.rd Reg.BOOT_FUSE } })
        let s := s.raise Ev.floorAdvanced noInst 0 [(1, min 64 (leAt h 16 1))]
        let o := s.readRegion (1 - slot) 0 20
        if leAt o 0 4 = 0x49584C50 ∧ leAt o 16 1 < leAt h 16 1 then s.journalSlot (1 - slot) SlotState.failed 0xB else s
      else s
    s.raise Ev.confirmed noInst 0 []

end Sys2Proof.Machine
end

