-- ==== Sys2Proof/Machine/Red.lean ====
section
/-!
DEFINITION. Dual senders: duplicate discard, digests and verdicts, claims and leases (chapter 05, R217 to R249).
-/

namespace Sys2Proof.Machine

/-- R245, R605: the event sources of RED. -/
abbrev Ev.copyMismatch : Nat := 160
abbrev Ev.holderChange : Nat := 161
abbrev Ev.shun : Nat := 162
abbrev Ev.unshun : Nat := 163
abbrev Ev.noSlot : Nat := 164
abbrev Ev.digestDiff : Nat := 165
abbrev Ev.digestMissing : Nat := 166
abbrev Ev.verdict : Nat := 167
abbrev Ev.leaseMiss : Nat := 168
abbrev Ev.takeover : Nat := 169
abbrev Ev.yieldPort : Nat := 170
abbrev Ev.tie : Nat := 171
abbrev Ev.claimSaturated : Nat := 172
abbrev Ev.mute : Nat := 173
abbrev Ev.unmute : Nat := 174

/-! ### First copy wins (R221 to R227) -/

/-- The state with a stream slot changed. -/
def State.modSlot (s : State) (i : Fin 16) (f : StreamSlot → StreamSlot) : State :=
  s.modRedAll (fun x => { x with slots := x.slots.set i (f x.slots[i]) })

/-- The sixteen slots. -/
def slotIxs : List (Fin 16) := (List.range 16).map (Fin.ofNat 16)

/-- R221: the slot bound to a stream, or a free one. -/
def State.slotFor (s : State) (stream vc : Nat) : Option (Fin 16) :=
  match slotIxs.find? (fun i => s.red.slots[i].key == some (stream, vc)) with
  | some i => some i
  | none => slotIxs.find? (fun i => s.red.slots[i].key == none)

/-- R221: a sheaf of a stream, whatever becomes of it, binds a slot where one is free and ends the quiet of the slot. -/
def State.touchSlot (s : State) (stream vc : Nat) : State :=
  match s.slotFor stream vc with
  | some i => s.modSlot i (fun x => { x with key := some (stream, vc), quiet := 0 })
  | none => s

/-- R226: the single arrivals that leave the 4,096-entry store, counted against their ports. -/
def State.countSingles (s : State) (gone : List CopyEntry) : State :=
  gone.foldl
    (fun s e =>
      if e.second then s
      else s.inc (if e.port == s.pair.1 then Reg.RED_SINGLE_LO else Reg.RED_SINGLE_HI)) s

/-- R222, R223: a first copy is accepted; newest is `n` afterwards. -/
def State.acceptCopy (s : State) (i : Fin 16) (p : Port) (h : Sheaf) (n seen : Nat) : State :=
  let old := s.red.slots[i]
  let e : CopyEntry := { seq := h.seq, crc := h.crc, port := p, second := false, cycle := s.tmb.tclk }
  let all := old.store ++ [e]
  let inStore := fun (e : CopyEntry) => decide (subMod 16 n e.seq < 4096)
  let s := s.modSlot i (fun x => { x with
    newest := n, seen := seen, store := all.filter inStore, fresh := false })
  (s.countSingles (all.filter (fun e => !inStore e && e.seq != h.seq))).inc Reg.RED_RX_ACCEPT

/-- R225: the first copy `e` arrived in this cycle too, from the other through port, and the holder is toward `p`: the copy from `p` is
the one that is accepted. -/
def State.prefers (s : State) (p : Port) (e : CopyEntry) : Bool :=
  e.cycle == s.tmb.tclk && e.port != p && s.red.holder.any (fun x => x.2.2.2 == p)

/-- R223, R225, R227: a duplicate within the store is compared with the first copy. -/
def State.compareCopy (s : State) (i : Fin 16) (p : Port) (h : Sheaf) : State :=
  let slot := s.red.slots[i]
  let differs := slot.store.any (fun e => e.seq == h.seq && e.crc != h.crc)
  let mark := fun (e : CopyEntry) =>
    if e.seq == h.seq then
      (if s.prefers p e then { e with second := true, port := p, crc := h.crc } else { e with second := true })
    else e
  let s := s.modSlot i (fun x => { x with
    store := x.store.map mark
    mism := if differs then x.mism + 1 else x.mism
    mismSeq := if differs && x.mism == 0 then h.seq else x.mismSeq })
  let s := s.inc Reg.RED_RX_DUP
  if differs then s.inc Reg.RED_CMP_MISMATCH else s

/-- R222 to R226: a sheaf that is no husk meets its stream slot. -/
def State.copySlot (s : State) (i : Fin 16) (p : Port) (h : Sheaf) : State :=
  let x := s.red.slots[i]
  if x.fresh then s.acceptCopy i p h h.seq 1
  else
    let d := subMod 16 h.seq x.newest
    if 1 ≤ d ∧ d ≤ 32767 then s.acceptCopy i p h h.seq ((x.seen * 2 ^ d + 1) % 2 ^ 32769)
    else
      let behind := subMod 16 x.newest h.seq
      if behind = 32768 then s.inc Reg.RED_RX_STALE
      else if !x.seen.testBit behind then s.acceptCopy i p h x.newest (x.seen ||| 2 ^ behind)
      else if behind ≤ 4095 then s.compareCopy i p h
      else s.inc Reg.RED_RX_DUP

/-- R221, R245: a sheaf finds no slot of its own and no free one. -/
def State.noSlot (s : State) : State :=
  let s := s.inc Reg.RED_NOSLOT
  if s.red.noSlotRaised then s
  else (s.modRedAll (fun g => { g with noSlotRaised := true })).raise Ev.noSlot noInst 0 []

/-- R221 to R228, R241, R247: a VC0 or VC1 sheaf with a correct payload_crc that the tile takes arrives on port `p`. -/
def State.copyRx (s : State) (p : Port) (h : Sheaf) : State :=
  if s.bit (Reg.RED_P_STATE p.val) 27 then (s.touchSlot h.stream h.vc).inc Reg.RED_RX_SHUNNED
  else if !s.bit Reg.RED_CTL 0 then s.inc (if h.husk then Reg.RED_RX_HUSK else Reg.RED_RX_ACCEPT)
  else match s.slotFor h.stream h.vc with
    | none => s.noSlot
    | some i =>
      let s := s.touchSlot h.stream h.vc
      if h.husk then s.inc Reg.RED_RX_HUSK else s.copySlot i p h

/-- R221: STREAM_SLOT_RELEASE: 16 whole frame intervals have passed without a sheaf of the stream. -/
def execStreamSlotRelease (slot : Fin 16) (s : State) : Host.Outcome State Fault Refusal :=
  gate (s.tile && decide (17 ≤ s.red.slots[slot].quiet)) (fun s => s.modSlot slot (fun _ => StreamSlot.free)) s

/-- R221, R227, R245: the tile's side of a tick: the copy-mismatch events of the interval, and its quiet streams. -/
def State.redTileTick (s : State) : State :=
  let s := slotIxs.foldl
    (fun s i =>
      let x := s.red.slots[i]
      let s := if 0 < x.mism then
          s.raise Ev.copyMismatch noInst 0 [(2, (x.key.getD (0, 0)).1), (2, x.mismSeq), (4, x.mism)] else s
      if x.key.isSome then s.modSlot i (fun x => { x with mism := 0, quiet := x.quiet + 1 }) else s) s
  s.modRedAll (fun g => { g with noSlotRaised := false })

/-! ### Claims and leases -/

/-- R233: the body of a lease, SHUN or UNSHUN. -/
def leaseBody (kind flags frame claim uid subject : Nat) : List Byte :=
  leBytes 1 kind ++ leBytes 1 flags ++ zeros 2 ++ leBytes 4 frame ++ leBytes 4 claim ++ leBytes 16 uid ++
    leBytes 16 subject ++ zeros 4

/-- R233: the lease that a body carries. -/
def leaseOf (m : Msg) : Lease :=
  { uid := leAt m.body 12 16, claim := leAt m.body 8 4, drop := (leAt m.body 1 1).testBit 0,
    muted := (leAt m.body 1 1).testBit 1, frame := leAt m.body 4 4, src := m.src }

/-- R235: lease `a` ranks above lease `b`. -/
def Lease.above (a b : Lease) : Bool :=
  if a.drop != b.drop then b.drop
  else if a.claim != b.claim then decide (b.claim < a.claim)
  else decide (b.uid < a.uid)

/-- R235: two leases are ranked by UID alone. -/
def Lease.tied (a b : Lease) : Bool := a.drop == b.drop && a.claim == b.claim

/-- R233: the sender's own lease on a port. -/
def State.ownLease (s : State) (p : Port) : Lease :=
  { uid := s.uid, claim := (s.rd (Reg.RED_P_CLAIM p.val)).toNat, drop := s.bit (Reg.RED_P_STATE p.val) 28,
    muted := s.bit (Reg.RED_P_STATE p.val) 29, frame := s.frameOrNone, src := s.selfIdx }

/-- R237, R244, R246: the sender's own lease as it stands until the next: with the claim and the drop flag that it last sent. -/
def State.toldLease (s : State) (p : Port) : Lease :=
  match s.red.port[p].told with
  | some (c, d) => { s.ownLease p with claim := c, drop := d }
  | none => s.ownLease p

/-- R237: a sender's holding of a ring port follows its own claim and its peer's valid lease. -/
def State.rankPort (s : State) (p : Port) : State :=
  match s.red.port[p].lease with
  | none => s
  | some l =>
    let own := s.toldLease p
    let had := s.bit (Reg.RED_P_STATE p.val) 31
    let has := own.above l
    let tied := own.tied l
    let s := (s.setBit (Reg.RED_P_STATE p.val) 31 has).setBit (Reg.RED_P_STATE p.val) 26 tied
    let s := if had && !has then s.raise Ev.yieldPort p.val 0 [] else s
    if tied && s.red.port[p].tieAt != some (own.claim, l.claim) then
      (s.modRed p (fun r => { r with tieAt := some (own.claim, l.claim) })).raise Ev.tie p.val 0 []
    else if tied then s
    else s.modRed p (fun r => { r with tieAt := none })

/-- The UID of the last valid lease heard on a port (R246). -/
def State.peerUid (s : State) (p : Port) : Nat :=
  ((List.range 4).map (fun k => (s.rd (Reg.RED_P_PEER_UID p.val k)).toNat * 2 ^ (32 * k))).sum

/-- R241, R244: a sender broadcasts SHUN (0x11) or UNSHUN (0x12) naming its peer. -/
def State.sendShun (s : State) (p : Port) (kind : Nat) : State :=
  let l := s.ownLease p
  (s.sendOn p 0 0x3F 0 0 (leaseBody kind 0 l.frame l.claim l.uid (s.peerUid p))).setBit (Reg.RED_P_STATE p.val) 27
    (kind == 0x11)

/-- R240, R244: the mute of a port is lifted. -/
def State.liftMute (s : State) (p : Port) : State :=
  let s := s.modRed p (fun r => { r with unmute := false })
  if s.bit (Reg.RED_P_STATE p.val) 29 then
    (s.setBit (Reg.RED_P_STATE p.val) 29 false).raise Ev.unmute p.val 0 []
  else s

/-- R233, R244, R246: a lease leaves on a port, and with it what was to take effect with the next lease. -/
def State.sendLease (s : State) (p : Port) : State :=
  let s := if s.red.port[p].unmute then s.liftMute p else s
  let l := s.ownLease p
  let s := s.modRed p (fun r => { r with told := some (l.claim, l.drop) })
  let s := s.sendOn p 0 0x3F 0 0 (leaseBody 0x10 (b2n l.drop + 2 * b2n l.muted) l.frame l.claim l.uid 0)
  if s.red.port[p].unshun then (s.modRed p (fun r => { r with unshun := false })).sendShun p 0x12 else s

/-- R233, R237: a sender sends its lease on a port, which is ranked by it. -/
def State.leaseTx (s : State) (p : Port) : State :=
  let s := s.sendLease p
  if s.kind p = 2 then s.rankPort p else s

/-- R233: leases on every chain and ring port of a sender. -/
def State.leaseAll (s : State) : State :=
  (ports.filter (fun p => s.kind p == 1 || s.kind p == 2)).foldl (fun s p => s.leaseTx p) s

/-- R233: LEASE_PREFRAME_TIMER. -/
def execLeasePreframeTimer (s : State) : Host.Outcome State Fault Refusal :=
  gate (s.sender && !s.frameValid) State.leaseAll s

/-- R238, R244: the claim of a port becomes the peer's last claim plus 1, or stays at its greatest value. -/
def State.raiseClaim (s : State) (p : Port) : State :=
  let peer := (s.rd (Reg.RED_P_PEER_CLAIM p.val)).toNat
  if peer = 0xFFFFFFFF then (s.wrN (Reg.RED_P_CLAIM p.val) peer).raise Ev.claimSaturated p.val 0 []
  else s.wrN (Reg.RED_P_CLAIM p.val) (peer + 1)

/-- R238: a sender takes over a ring port that it does not hold, where RED_CTL.auto_takeover allows. -/
def State.takeOver (s : State) (p : Port) : State :=
  if s.bit (Reg.RED_P_STATE p.val) 31 || !s.bit Reg.RED_CTL 2 then s
  else
    let s := ((s.raiseClaim p).setBit (Reg.RED_P_STATE p.val) 31 true).inc (Reg.RED_P_TAKEOVERS p.val)
    ((s.setBit (Reg.RED_P_STATE p.val) 26 false).sendLease p).raise Ev.takeover p.val 0 []

/-- R246, R248: the lease last heard on a port shows in its registers. -/
def State.showLease (s : State) (p : Port) (l : Lease) : State :=
  let s := s.wrN (Reg.RED_P_PEER_CLAIM p.val) l.claim
  let s := (List.range 4).foldl (fun s k => s.wrN (Reg.RED_P_PEER_UID p.val k) (l.uid / 2 ^ (32 * k))) s
  s.setBit (Reg.RED_P_STATE p.val) 30 true

/-- R235: a tile's valid leases, by port. -/
def State.heldLeases (s : State) : List (Port × Lease) :=
  ports.filterMap (fun p => (s.red.port[p].lease).map (fun l => (p, l)))

/-- R235: the highest-ranking of leases. -/
def topLease : List (Port × Lease) → Option (Port × Lease)
  | [] => none
  | x :: t =>
    match topLease t with
    | none => some x
    | some y => if y.2.above x.2 then some y else some x

/-- R99, R235, R245: a tile ranks its valid leases again. -/
def State.rerank (s : State) : State :=
  let held := s.heldLeases
  let top := topLease held
  let old := s.red.holder
  let new := top.map (fun x => (x.2.uid, x.2.claim, x.2.src, x.1))
  let tied := match held with
    | [a, b] => a.2.tied b.2
    | _ => false
  let s := s.modRedAll (fun g => { g with holder := new })
  let s := ports.foldl (fun s p =>
    let here := (match top with | some x => x.1 == p | none => false)
    (s.setBit (Reg.RED_P_STATE p.val) 31 here).setBit (Reg.RED_P_STATE p.val) 26 (here && tied)) s
  let oldUid : Nat := (old.map (fun x => x.1)).getD 0
  let newUid : Nat := (new.map (fun x => x.1)).getD 0
  let s := if oldUid = newUid then s
    else s.raise Ev.holderChange noInst 0 [(16, newUid), (16, oldUid), (4, (new.map (fun x => x.2.1)).getD 0),
      (4, (old.map (fun x => x.2.1)).getD 0)]
  s.followHolder (top.map (fun x => x.1))

/-- R234: RED_LEASE_CTL.deadline in µs. -/
def State.leaseDeadline (s : State) : Nat := max 1 (s.fld Reg.RED_LEASE_CTL 15 0)

/-- How far TB1 is past the tick of frame `f`, in ninths of 2^-16 ns; negative before it. -/
def State.pastTick (s : State) (f : Nat) : Int :=
  s.sinceNextTick - sx 32 (subMod 32 f s.nextFrame) * period9 s.rateNow * 2 ^ 16

/-- R234: the lease is valid at this instant; `at` is the TCLK cycle of its arrival. -/
def State.leaseValid (s : State) (l : Lease) (at_ : Nat) : Bool :=
  if l.frame = 0xFFFFFFFF ∨ !s.frameValid then decide (s.tmb.tclk - at_ ≤ 800 * (1000 + s.leaseDeadline))
  else decide (s.pastTick (l.frame + 1) ≤ 9000 * s.leaseDeadline * 2 ^ 16)

/-- TCLK cycles in which TB1 passes `x` ninths of 2^-16 ns, none for a negative `x`. -/
def State.cyclesFor (s : State) (x : Int) : Nat := if x < 0 then 0 else x.toNat * 2 ^ 26 / (9 * max 1 (s.tbInc 1).toNat) + 1

/-- R234: TCLK cycles until a lease is no longer valid. -/
def State.leaseLeft (s : State) (l : Lease) (at_ : Nat) : Nat :=
  if l.frame = 0xFFFFFFFF ∨ !s.frameValid then at_ + 800 * (1000 + s.leaseDeadline) + 1 - s.tmb.tclk
  else s.cyclesFor (9000 * s.leaseDeadline * 2 ^ 16 - s.pastTick (l.frame + 1))

/-- R234 to R239, R243: a lease arrives; one that is no longer valid is not held. -/
def State.leaseArrives (s : State) (m : Msg) : State :=
  let p := m.port
  let l := leaseOf m
  if !s.leaseValid l s.tmb.tclk then s
  else if s.mode = 0 then
    if s.kind p ≠ 2 ∨ l.uid = s.uid then s
    else
      let s := (s.showLease p l).modRed p (fun r => { r with lease := some l, leaseAt := s.tmb.tclk, peerIdx := m.src })
      let first := !s.red.port[p].decided
      let s := s.modRed p (fun r => { r with decided := true })
      let s := if l.drop && !s.bit (Reg.RED_P_STATE p.val) 31 && !first then s.takeOver p else s
      let s := s.rankPort p
      if first then s.autoRoll p else s
  else
    let s := (s.showLease p l).setBit (Reg.RED_P_STATE p.val) 28 l.drop
    (s.modRed p (fun r => { r with lease := some l, leaseAt := s.tmb.tclk, peerIdx := m.src })).rerank

/-- R183, R233: whether a device hears a broadcast that arrives on a port: a sender on its chain and ring ports, a tile on
its through ports and in its own epoch. -/
def State.hearsBroadcast (s : State) (m : Msg) : Bool :=
  s.live && (s.mode == 0 || ((s.mode == 1 || s.mode == 2) && s.isThrough m.port))

/-- R233: LEASE_RX. -/
def execLeaseRx (m : Msg) (s : State) : Host.Outcome State Fault Refusal :=
  gate (s.hearsBroadcast m && leAt m.body 0 1 == 0x10)
    (fun s => if s.epochOk m then s.leaseArrives m else s.inc Reg.SXQ_EPOCH_REFUSED) s

/-- R234, R248: no valid lease is held on a port any more. -/
def State.dropLease (s : State) (p : Port) : State :=
  let s := (s.modRed p (fun r => { r with lease := none })).setBit (Reg.RED_P_STATE p.val) 30 false
  if s.mode = 0 then s.setBit (Reg.RED_P_STATE p.val) 26 false else (s.setBit (Reg.RED_P_STATE p.val) 28 false).rerank

/-- R234: LEASE_EXPIRY: the lease held on a port passes its validity: time runs to that instant, unless a tick comes first. -/
def execLeaseExpiry (p : Port) (s : State) : Host.Outcome State Fault Refusal :=
  gate s.live
    (fun s =>
      match s.red.port[p].lease with
      | none => s
      | some l =>
        if !s.leaseValid l s.red.port[p].leaseAt then s.dropLease p
        else s.wait (s.leaseLeft l s.red.port[p].leaseAt) (fun s => s.dropLease p)) s

/-- R238: the peer's lease of this frame interval, or before frames start a valid one, is missing, and has not been counted yet. -/
def State.leaseMissing (s : State) (p : Port) : Bool :=
  s.red.port[p].missed != some s.frameOrNone &&
    (match s.red.port[p].lease with
     | some l => if s.frameValid then l.frame != s.frame else !s.leaseValid l s.red.port[p].leaseAt
     | none => true)

/-- R238: TCLK cycles until the deadline of the peer's lease for this frame interval has passed. -/
def State.missLeft (s : State) : Nat :=
  if s.frameValid then s.cyclesFor (9000 * s.leaseDeadline * 2 ^ 16 - s.pastTick s.frame) else 0

/-- R238: the peer's lease for a frame has missed its deadline. -/
def State.leaseMissed (s : State) (p : Port) : State :=
  let s := (s.inc (Reg.RED_P_LEASE_MISS p.val)).raise Ev.leaseMiss p.val 0 []
  let s := s.modRed p (fun r => { r with missed := some s.frameOrNone })
  (s.dropLease p).takeOver p

/-- R238: LEASE_DEADLINE_MISS: the peer's lease for a frame has not arrived by the tick plus the deadline, to which time runs unless a
tick comes first. -/
def execLeaseDeadlineMiss (p : Port) (s : State) : Host.Outcome State Fault Refusal :=
  gate (s.sender && s.kind p == 2 && s.red.port[p].decided && s.leaseMissing p)
    (fun s => s.wait s.missLeft (fun s => s.leaseMissed p)) s

/-- R243: HOLDER_DECIDE_TIMEOUT: 3 ms have passed without a peer lease, so the sender holds the port. -/
def execHolderDecideTimeout (p : Port) (s : State) : Host.Outcome State Fault Refusal :=
  gate (s.sender && s.kind p == 2 && !s.red.port[p].decided)
    (fun s => ((s.modRed p (fun r => { r with decided := true })).setBit (Reg.RED_P_STATE p.val) 31 true).autoRoll p) s

/-- R241: the message comes from the tile's holder. -/
def State.fromHolder (s : State) (m : Msg) : Bool :=
  match s.red.holder with
  | some (uid, _, _, _) => uid == leAt m.body 12 16
  | none => false

/-- R241: the through ports on which the leases of a sender arrive. -/
def State.portsOf (s : State) (uid : Nat) : List Port := ports.filter (fun p => s.isThrough p && s.peerUid p == uid)

/-- R241: the holder shuns a sender. -/
def State.shunned (s : State) (uid : Nat) : State :=
  (s.portsOf uid).foldl
    (fun s p => ((s.modRed p (fun r => { r with shunned := some uid })).setBit (Reg.RED_P_STATE p.val) 27 true).raise Ev.shun p.val 0 []) s

/-- R241: the holder lifts the shun of a sender, on the ports where it stands. -/
def State.unshunned (s : State) (uid : Nat) : State :=
  ports.foldl
    (fun s p => if s.red.port[p].shunned = some uid then
        ((s.modRed p (fun r => { r with shunned := none })).setBit (Reg.RED_P_STATE p.val) 27 false).raise Ev.unshun p.val 0 []
      else s) s

/-- R183, R241: a SHUN or UNSHUN at a tile: one of another epoch is counted, and one from any device but the holder discarded. -/
def State.fromHolderOnly (s : State) (m : Msg) (f : Nat → State) : State :=
  if !s.epochOk m then s.inc Reg.SXQ_EPOCH_REFUSED
  else if s.fromHolder m then f (leAt m.body 28 16)
  else s

/-- R241: SHUN_RX. -/
def execShunRx (m : Msg) (s : State) : Host.Outcome State Fault Refusal :=
  gate (s.tile && s.hearsBroadcast m && leAt m.body 0 1 == 0x11) (fun s => s.fromHolderOnly m s.shunned) s

/-- R241: UNSHUN_RX. -/
def execUnshunRx (m : Msg) (s : State) : Host.Outcome State Fault Refusal :=
  gate (s.tile && s.hearsBroadcast m && leAt m.body 0 1 == 0x12) (fun s => s.fromHolderOnly m s.unshunned) s

/-- R244, R246, R249: the commands of RED_Pn_CLAIM_CTL, on a ring port of a sender; each takes effect with the next lease. -/
def State.claimRaise (s : State) (p : Port) : State := (s.raiseClaim p).setBit (Reg.RED_P_STATE p.val) 28 false
def State.claimUnmute (s : State) (p : Port) : State := s.modRed p (fun r => { r with unmute := true })
def State.claimUnshun (s : State) (p : Port) : State := s.modRed p (fun r => { r with unshun := true })
def State.claimDrop (s : State) (p : Port) : State := s.setBit (Reg.RED_P_STATE p.val) 28 true

/-- R249: a write of RED_Pn_CLAIM_CTL. -/
def State.claimCtl (s : State) (p : Port) (v : Word) : State :=
  if s.mode != 0 || s.kind p != 2 then s
  else
    let n := v.toNat
    let s := if n.testBit 0 then s.claimRaise p else s
    let s := if n.testBit 1 then s.claimDrop p else s
    let s := if n.testBit 2 then s.claimUnmute p else s
    if n.testBit 3 then s.claimUnshun p else s

/-- R244: CLAIM_RAISE. -/
def execClaimRaise (p : Port) (s : State) : Host.Outcome State Fault Refusal :=
  gate (s.sender && s.kind p == 2) (fun s => s.claimRaise p) s

/-- R244: CLAIM_UNMUTE. -/
def execClaimUnmute (p : Port) (s : State) : Host.Outcome State Fault Refusal :=
  gate (s.sender && s.kind p == 2) (fun s => s.claimUnmute p) s

/-- R244: CLAIM_UNSHUN. -/
def execClaimUnshun (p : Port) (s : State) : Host.Outcome State Fault Refusal :=
  gate (s.sender && s.kind p == 2) (fun s => s.claimUnshun p) s

/-- R249: CLAIM_DROP. -/
def execClaimDrop (p : Port) (s : State) : Host.Outcome State Fault Refusal :=
  gate (s.sender && s.kind p == 2) (fun s => s.claimDrop p) s

/-! ### Digests and verdicts -/

/-- R229: a non-husk sheaf of display frame `frame` has been produced for a ring port. -/
def State.digestAdd (s : State) (p : Port) (h : Sheaf) : State :=
  let cur := (s.red.port[p].own.find? (fun d => d.frame == h.frame)).getD
    { frame := h.frame, vc0 := 0, vc1 := 0, sum0 := 0, sum1 := 0 }
  let new := if h.vc = 0 then { cur with vc0 := cur.vc0 + 1, sum0 := (cur.sum0 + h.crc) % 2 ^ 32 }
    else { cur with vc1 := cur.vc1 + 1, sum1 := (cur.sum1 + h.crc) % 2 ^ 32 }
  s.modRed p (fun r => { r with own := new :: r.own.filter (fun d => d.frame != h.frame) })

/-- R229: DIGEST_RX: the peer's digest of a display frame. -/
def execDigestRx (p : Port) (body : List Byte) (s : State) : Host.Outcome State Fault Refusal :=
  gate (s.sender && s.kind p == 2 && body.length == 288)
    (fun s => s.modRed p (fun r => { r with peer := (leAt body 0 4, body) :: r.peer.take 3 })) s

/-- R231: whether region `r` is bad in a digest. -/
def State.regionBad (s : State) (d : List Byte) (r : Nat) : Bool :=
  leAt d (32 + 4 * r) 4 != (s.rdA (Reg.SCN_WR_EXPECT r)).toNat

/-- R231: the watch regions that the arbitration uses. -/
def State.arbRegions (s : State) (own peer : List Byte) : List Nat :=
  let mask := (s.rd Reg.RED_ARB_MASK_LO).toNat + 2 ^ 32 * (s.rd Reg.RED_ARB_MASK_HI).toNat
  (List.range 64).filter (fun r =>
    mask.testBit r && (leAt own 20 8).testBit r && (leAt peer 20 8).testBit r && s.bitA (Reg.SCN_WR_CTL r) 30)

/-- R231: the verdict on two digests: 0 agree, 1 peer faulty, 2 self faulty, 3 undecided. -/
def State.verdictOf (s : State) (own peer : List Byte) : Nat :=
  if slice own 8 12 = slice peer 8 12 then 0
  else
    let rs := s.arbRegions own peer
    let ownBad := rs.any (fun r => s.regionBad own r)
    let peerBad := rs.any (fun r => s.regionBad peer r)
    if !s.bit Reg.RED_CTL 1 then 3
    else if !ownBad && peerBad then 1
    else if ownBad && !peerBad then 2
    else 3

/-- R238, R240, R241: a verdict that has persisted is acted on. -/
def State.actOn (s : State) (p : Port) (v : Nat) : State :=
  let st := Reg.RED_P_STATE p.val
  let s := (s.modRed p (fun r => { r with acted := true })).raise Ev.verdict p.val 0 [(1, v)]
  if v = 1 then
    let s := s.takeOver p
    if s.bit st 31 && s.bit Reg.RED_CTL 4 then s.sendShun p 0x11 else s
  else if s.bit Reg.RED_CTL 3 then
    ((s.setBit st 29 true).setBit st 28 true).raise Ev.mute p.val 0 []
  else s

/-- R231, R232, R248: a verdict is counted, reported and, once it has persisted, acted on. -/
def State.countVerdict (s : State) (p : Port) (v : Nat) : State :=
  let st := Reg.RED_P_STATE p.val
  let persist := max 1 (s.fld Reg.RED_LEASE_CTL 19 16)
  if v = 1 ∨ v = 2 then
    let same := s.fld st 25 24 == v
    let n := if same then min 15 (s.fld st 23 20 + 1) else 1
    let s := if same then s else s.modRed p (fun r => { r with acted := false })
    let s := (s.setFld st 25 24 v).setFld st 23 20 n
    if persist ≤ n ∧ !s.red.port[p].acted then s.actOn p v else s
  else
    let s := ((s.setFld st 25 24 v).setFld st 23 20 0).modRed p (fun r => { r with acted := false })
    if v = 3 then s.raise Ev.verdict p.val 0 [(1, 3)] else s

/-- R231: the comparison of display frame `d` on a ring port, in the update cycle of tick `d` + 1. -/
def State.compareDigests (s : State) (p : Port) (d : Nat) : State :=
  let r := s.red.port[p]
  match r.sent.find? (fun x => x.1 == d) with
  | none => s
  | some (_, own) =>
    match r.peer.find? (fun x => x.1 == d) with
    | none => ((s.inc (Reg.RED_P_DIGEST_MISSING p.val)).raise Ev.digestMissing p.val 0 []).countVerdict p 0
    | some (_, peer) =>
      let v := s.verdictOf own peer
      let s := s.wrN (Reg.RED_P_CMP_FRAME p.val) d
      let s := if v = 0 then s else (s.inc (Reg.RED_P_DIGEST_DIFF p.val)).raise Ev.digestDiff p.val 0 []
      s.countVerdict p v

/-- R231: the sender's comparisons at the tick that begins frame interval `f`. -/
def State.digestTick (s : State) (f : Nat) : State :=
  (ports.filter (fun p => s.kind p == 2)).foldl (fun s p => s.compareDigests p ((f + 2 ^ 32 - 1) % 2 ^ 32)) s

end Sys2Proof.Machine
end

