-- ==== Sys2Proof/Machine/Link.lean ====
section
/-!
DEFINITION. What a Slauf port receives: code words, sheaves, censuses, deadlines, and the training steps (chapter 03, R122 to
R172; routing by R175 to R183 and R209, R210; first copies by R223; audio taps by R510 and R513).
-/

namespace Sys2Proof.Machine

/-! ### Leaving and entering ACTIVE -/

/-- R45, R152, R197: the commands whose sheaves are abandoned are queried: the query confirms that the target has not executed one,
which then completes with DISCARDED, or recovers its outcome. -/
def State.queryAbandoned (s : State) (l : List Sheaf) : State :=
  l.foldl
    (fun s h =>
      match s.sxq.outstanding.find? (fun o => o.cmdId == h.frame && o.dst == qDev h.dstQ && o.cls == qCls h.dstQ) with
      | some o => s.sendQuery o
      | none => s) s

/-- R150: the sheaves held unacknowledged on a port. -/
def SlkPort.unacked (x : SlkPort) : List Sheaf := (x.store2 ++ x.store3).map (fun u => u.sheaf)

/-- R168: the VC2 and VC3 sheaves of the device's own exchange that wait at a port. -/
def SlkPort.ownQueued (x : SlkPort) : List Sheaf :=
  (x.txq.toList.flatten.filter (fun w => decide (2 ≤ w.sheaf.vc) && w.buffer.isNone)).map (fun w => w.sheaf)

/-- R152, R163, R204: a port in ACTIVE retrains. -/
def State.retrain (s : State) (p : Port) (cause : Nat) : State :=
  if s.active p then
    let lost := s.slk[p].unacked
    ((s.retrainPort p cause).queryAbandoned lost).linkChanged p
  else s

/-- R121, R122, R163: LANE_BLOCK_LOCK_LOSS, with the invalid sync headers that the lane has had outside code words. -/
def execLaneBlockLockLoss (p : Port) (lane : Fin 4) (badHeaders : Nat) (s : State) : Host.Outcome State Fault Refusal :=
  gate (s.live && s.train p != Train.disabled)
    (fun s => ((s.blockErrs p badHeaders).setBit (Reg.SLK_STATUS p.val) lane.val false).retrain p Cause.lock) s

/-- R160, R170: the coefficients follow the request of a TS1, but for an override. -/
def State.eqRequest (s : State) (p : Port) (block : List Byte) : State :=
  let r := ts1Request block
  if s.bit (Reg.SLK_TX_EQ p.val) 31 then s
  else s.modSlk p (fun x => { x with eqPost := nibbleStep (r % 16) x.eqPost, eqPre := nibbleStep (r / 16) x.eqPre })

/-- R124, R159, R160, R163: TS1_RX: the block of one lane. -/
def execTs1Rx (p : Port) (block : List Byte) (s : State) : Host.Outcome State Fault Refusal :=
  gate (s.live && s.train p != Train.disabled)
    (fun s =>
      if !blockOk block then s.blockErrs p 1
      else if s.train p = Train.eq then s.eqRequest p block
      else s.retrain p Cause.peer) s

/-- R163, R168: SLK_RETRAIN. -/
def execSlkRetrain (p : Port) (s : State) : Host.Outcome State Fault Refusal :=
  gate s.live (fun s => s.retrain p Cause.software) s

/-- R168: SLK_CTL.enable is written: the port starts in DETECT, or goes to electrical idle and drops what it has queued.
The link-down event of a disabled port carries no cause bit of R172. -/
def State.enableWrite (s : State) (p : Port) (on : Bool) : State :=
  let s := s.setBit (Reg.SLK_CTL p.val) 0 on
  if on then (if s.train p = Train.disabled then s.goTrain p Train.detect else s)
  else
    let was := s.active p
    let lost := s.slk[p].unacked ++ s.slk[p].ownQueued
    let s := if was then s.leaveActive p 0 false else s.dropQueued p false
    let s := ((s.setTrain p Train.disabled).setFld (Reg.SLK_STATUS p.val) 3 0 0).queryAbandoned lost
    if was then s.linkChanged p else s

/-- R168: SLK_ENABLE_WRITE. -/
def execSlkEnableWrite (p : Port) (on : Bool) (s : State) : Host.Outcome State Fault Refusal :=
  gate (s.live && portOn s.role p) (fun s => s.enableWrite p on) s

/-- R124, R159: the type of the sets by which a port leaves a training state, and what they must say. -/
def State.setsServe (s : State) (p : Port) (sets : Vector (List Byte) 4) : Bool :=
  if s.train p = Train.detect then sets.toList.all (fun b => blockType b == 0xE1)
  else if s.train p = Train.eq then sets.toList.all (fun b => blockType b == 0xE1 && ts1Request b == 0)
  else sets.toList.all (fun b => blockType b == 0xE2) && lanesNumbered sets

/-- R159 to R162: a training port meets the leaving condition of its state, with sets whose CRC is correct. -/
def State.trainStep (s : State) (p : Port) (i : TrainInfo) : State :=
  let st := Reg.SLK_STATUS p.val
  if !s.setsServe p i.sets then s
  else if s.train p = Train.detect then
    if s.fld st 3 0 = 15 then s.goTrain p Train.eq else s
  else if s.train p = Train.eq then
    ((List.range 4).foldl (fun s k => s.wr (Reg.SLK_RX_EQ p.val k) (i.rxEq.toArray.getD k 0)) s).goTrain p Train.deskew
  else if s.train p = Train.deskew then
    if i.skewNs ≤ 20 then
      (((s.setBit st 28 (lanesReversed i.sets)).setFld st 27 24 i.polarity.toNat).setFld st 15 8 i.skewNs).goTrain p Train.config
    else s
  else if bits (peerVersionOf i.sets) 7 4 = bits linkVersion 7 4 then
    (s.modSlk p (fun x => { x with incompatible := false, peerSets := i.sets })).goTrain p Train.fecLock
  else s.modSlk p (fun x => { x with incompatible := true })

/-- R124, R159: in DETECT to CONFIG the sets that fail their CRC are counted and none of them serves; in FEC_LOCK the port locks. -/
def State.trainAdvance (s : State) (p : Port) (i : TrainInfo) : State :=
  if s.train p = Train.fecLock then ((s.enterActive p).pairFollow p).linkChanged p
  else if s.train p = Train.disabled ∨ s.train p = Train.active then s
  else
    let bad := (i.sets.toList.filter (fun b => !blockOk b)).length
    if bad = 0 then s.trainStep p i else s.blockErrs p bad

/-- R159: TRAIN_STATE_ADVANCE. -/
def execTrainStateAdvance (p : Port) (info : TrainInfo) (s : State) : Host.Outcome State Fault Refusal :=
  gate s.live (fun s => s.trainAdvance p info) s

/-! ### The census -/

/-- R144, R146: the VCs whose books do not balance against a census. -/
def State.censusBad (s : State) (p : Port) (body : List Byte) : Nat :=
  ((List.range 4).map (fun vc =>
    if leAt body (4 + 2 * vc) 2 = (s.rxF p vc + s.rxO p vc) % 2 ^ 16 then 0 else 2 ^ vc)).sum

/-- R146: a census is checked. -/
def State.censusCheck (s : State) (p : Port) (body : List Byte) : State :=
  let st := Reg.SLK_CENSUS_STATUS p.val
  let bad := s.censusBad p body
  let s := (s.bumpFld st 31 16).setFld st 3 0 bad
  if bad = 0 then s.modSlk p (fun x => { x with censusRun := 0 })
  else
    let s := (s.inc (Reg.SLK_CENSUS_FAIL p.val)).raise Ev.censusMismatch p.val 0 []
    let s := s.modSlk p (fun x => { x with censusRun := x.censusRun + 1 })
    if 2 ≤ s.slk[p].censusRun then s.retrain p Cause.census else s

/-- R146: CENSUS_RX. -/
def execCensusRx (p : Port) (body : List Byte) (s : State) : Host.Outcome State Fault Refusal :=
  gate (s.live && s.active p && !s.slk[p].unitLost && body.length == 16) (fun s => s.censusCheck p body) s

/-! ### Deadlines -/

/-- R77, R150, R151: TCLK cycles until TB6 is past a deadline: an acknowledgement stamped at the deadline is in time. -/
def State.cyclesPast (s : State) (deadline : Nat) : Nat :=
  let d := sx 74 (subMod 74 ((deadline + 1) * 2 ^ 26 % 2 ^ 74) s.tmb.tb[(6 : TbIx)].cnt)
  if d ≤ 0 then 0 else ceilDiv d.toNat (s.tbInc 6).toNat

/-- R150: a deadline has passed: the oldest sheaf has missed it once more, and it and every later one are to be resent. -/
def missed : List Unacked → List Unacked
  | [] => []
  | u :: t => { u with misses := u.misses + 1, due := true } :: t.map (fun v => { v with due := true })

/-- R150, R152: the deadline of the oldest sheaf of VC2, or of VC3 where `bulk` is set, has passed. -/
def State.deadlinePassed (s : State) (p : Port) (bulk : Bool) : State :=
  let vc := if bulk then 3 else 2
  match s.slk[p].store vc with
  | [] => s
  | u :: t =>
    if u.due then s
    else if 7 ≤ u.misses then s.retrain p Cause.ack
    else
      let l := missed (u :: t)
      let s := s.modSlk p (fun x => if bulk then { x with store3 := l } else { x with store2 := l })
      s.resendDue p vc l.length

/-- R150 to R152: RETX_DEADLINE: time runs until the deadline of the oldest unacknowledged sheaf has passed, unless a tick comes
first. -/
def execRetxDeadline (p : Port) (bulk : Bool) (s : State) : Host.Outcome State Fault Refusal :=
  gate (s.live && s.active p)
    (fun s =>
      match s.slk[p].store (if bulk then 3 else 2) with
      | [] => s
      | u :: _ => s.wait (s.cyclesPast u.deadline) (fun s => s.deadlinePassed p bulk)) s

/-! ### Sheaves -/

/-- R513: an enabled output port names the audio stream. -/
def State.tapsAudio (s : State) (stream : Nat) : Bool :=
  (List.range 16).any (fun p =>
    s.bitA (Reg.AUD_PORT_CTL p) 31 && s.bitA (Reg.AUD_PORT_CTL p) 30 && s.bitA (Reg.AUD_PORT_SRC p) 31 &&
      s.fldA (Reg.AUD_PORT_SRC p) 20 16 == stream)

/-- Classes whose messages arrive as rows of their own: reach, completions, events, roll call, commits, queries and
broadcasts. -/
def ownRow (cls : Nat) : Bool :=
  cls == 0 || cls == 1 || cls == 3 || cls == 4 || cls == 5 || cls == 6 || cls == 7 || cls == 0x3F

/-- R646: a class 0x02 message that is an update command. -/
def isUpdate (m : Msg) : Bool := m.cls == 2 && m.body.length == 12

/-- R183, R191, R196, R210, R646: a complete message of a class without a row of its own: an update command is posted, and any
other goes to its inbound ring, or completes with REFUSED in fallow mode and under another epoch. -/
def State.deliver (s : State) (m : Msg) : State :=
  let refuse := fun (s : State) =>
    if expectsResponse m.cls then s.sendOn m.port m.src 3 m.cmdId Code.REFUSED [] else s
  if s.mode = 2 ∧ !isUpdate m then refuse s
  else if !s.epochOk m then refuse (s.inc Reg.SXQ_EPOCH_REFUSED)
  else if s.isFenced m && expectsResponse m.cls then refuse s
  else if isUpdate m then s.postUpdate (updateOf (leAt m.body 0 4) (leAt m.body 4 4) (leAt m.body 8 4) m.cmdId (some (m.port, m.src)))
  else
    let q := (if s.mode = 0 then m.src else s.selfIdx) * 64 + m.cls
    s.placeInbound q m.cmdId m.code (m.src * 64 + m.srcCls) 0 m.body

/-- Two sheaves of one message (R189). -/
def sameMessage (p : Port) (a : Sheaf) (x : Port × Sheaf) : Bool :=
  x.1 == p && x.2.srcQ == a.srcQ && x.2.dstQ == a.dstQ && x.2.frame == a.frame

/-- R181, R189: a VC2 or VC3 sheaf is taken by the exchange, which puts messages together. -/
def State.takeMessage (s : State) (p : Port) (h : Sheaf) : State :=
  if ownRow (qCls h.dstQ) then s
  else
    let earlier := if h.first then s.sxq.taken.filter (fun x => !sameMessage p h x) else s.sxq.taken
    let all := earlier ++ [(p, h)]
    if h.last then
      let body := (all.filter (sameMessage p h)).flatMap (fun x => x.2.payload)
      let s := s.modSxq (fun g => { g with taken := all.filter (fun x => !sameMessage p h x) })
      s.deliver { port := p, src := qDev h.srcQ, srcCls := qCls h.srcQ, dst := qDev h.dstQ, cls := qCls h.dstQ, cmdId := h.frame,
                  epoch := h.epoch, code := h.code, body := body }
    else s.modSxq (fun g => { g with taken := all })

/-- R210, R223, R510, R513: a VC0 or VC1 sheaf with a correct payload_crc that the device takes. -/
def State.takeStream (s : State) (p : Port) (h : Sheaf) : State :=
  let cls := qCls h.dstQ
  if s.mode = 2 then s.inc Reg.SXQ_END_DROP
  else if s.mode = 1 then
    if 0x31 ≤ cls ∧ cls ≤ 0x37 then s.inc Reg.AUD_RX_FOREIGN
    else if 0x10 ≤ cls ∧ cls < 0x30 then s.copyRx p h
    else if cls = 0x30 && s.tapsAudio h.stream then s.copyRx p h
    else s
  else s

/-- R513: a tile taps an audio sheaf that it forwards. -/
def State.tap (s : State) (p : Port) (h : Sheaf) : State :=
  if s.mode == 1 && h.vc == 1 && qCls h.dstQ == 0x30 && s.tapsAudio h.stream then s.copyRx p h else s

/-- What the routing rules do with a sheaf: discard it, count it as without a route, take it, or forward it; a broadcast is
taken and forwarded. -/
inductive Fate where
  | discard
  | noRoute
  | take
  | forward
  | both
  deriving DecidableEq, Repr

/-- R175 to R177, R180, R181, R200, R209: what becomes of a sheaf that arrives on a port. A sender takes the ENUM of the other sender
where a ring closes. -/
def State.fate (s : State) (p : Port) (h : Sheaf) : Fate :=
  let cls := qCls h.dstQ
  let mine := qDev h.dstQ == s.selfIdx
  if s.mode = 0 then
    if s.kind p = 0 ∨ s.kind p = 3 then .noRoute
    else if mine || cls == 0x3F || (s.kind p == 2 && cls == 5 && leAt h.payload 0 1 == RollKind.enum) then .take
    else if s.kind p = 2 ∧ h.vc < 2 then .discard
    else .noRoute
  else if !s.isThrough p then .discard
  else if cls = 0x3F then .both
  else if cls = 5 then .take
  else if s.hasIndex && mine then .take
  else .forward

/-- R164, R181: where a sheaf that a tile cannot forward onto a port is counted: a VC0 or VC1 sheaf in the port's own counts during a
retrain, and any other at the chain's end. -/
def State.dropReg (s : State) (o : Port) (h : Sheaf) : Nat :=
  if s.slk[o].retraining && decide (h.vc < 2) then (if h.vc = 0 then Reg.SLK_DROP_VC0 o.val else Reg.SLK_DROP_VC1 o.val)
  else Reg.SXQ_END_DROP

/-- R136, R164, R181: the sheaf goes into the queue of the other through port, or is dropped there. -/
def State.forwardSheaf (s : State) (p : Port) (h : Sheaf) : State :=
  let o := s.otherThrough p
  if s.active o then s.enqueue o { h with hop := (h.hop + 1) % 256 } (some p)
  else (s.inc (s.dropReg o h)).freeBushels p h.vc h.bushels

/-- R142, R177, R181, R241: a sheaf that has been accepted on its hop is taken, forwarded or discarded; on a shunned port a tile discards
VC0 and VC1 sheaves whether they are for it or not. -/
def State.route1 (s : State) (p : Port) (h : Sheaf) (good : Bool) : State :=
  if s.mode == 1 && decide (h.vc < 2) && s.bit (Reg.RED_P_STATE p.val) 27 then
    (if good then s.copyRx p h else s).freeBushels p h.vc h.bushels else
  let take := fun (s : State) =>
    if !good then s else if h.vc < 2 then s.takeStream p h else if h.husk then s else s.takeMessage p h
  let tap := fun (s : State) => if good then s.tap p h else s
  match s.fate p h with
  | .discard => s.freeBushels p h.vc h.bushels
  | .noRoute => (s.inc Reg.SXQ_NOROUTE).freeBushels p h.vc h.bushels
  | .take => (take s).freeBushels p h.vc h.bushels
  | .forward => (tap s).forwardSheaf p h
  | .both => (take s).forwardSheaf p h

/-- R155, R158: the onward port would cut the sheaf through at once. -/
def State.cutsThrough (s : State) (p : Port) (h : Sheaf) : Bool :=
  let o := s.otherThrough p
  !(s.mode == 1 && decide (h.vc < 2) && s.bit (Reg.RED_P_STATE p.val) 27) && (s.fate p h == .forward || s.fate p h == .both) && s.active o && !s.slk[o].censusDue && s.slk[o].txq.toList.flatten.isEmpty && s.mayStart o h

/-- R136, R148, R155: a VC2 or VC3 sheaf whose payload_crc is wrong. Where it has been cut through, the stored copy is a
husk of the same link_seq. -/
def State.badControl (s : State) (p : Port) (h : Sheaf) : State :=
  if s.cutsThrough p h then
    let f := { h with hop := (h.hop + 1) % 256 }
    s.startSheaf (s.otherThrough p) { sheaf := f, buffer := some p } f f.toHusk
  else s.freeBushels p h.vc h.bushels

/-- R134, R155: a sheaf whose header has arrived is lost. Where it was being cut through, what leaves behind its header is void, and on
VC2 and VC3 the stored copy is a husk of the same link_seq; its bushels are freed. -/
def State.cutShort (s : State) (p : Port) (h : Sheaf) : State :=
  if h.linkLocal || decide (512 < s.rxO p h.vc + h.bushels) then s
  else
    let s := s.occupy p h.vc h.bushels
    let inOrder := decide (h.vc < 2) || h.linkSeq == (if h.vc = 2 then s.slk[p].rxSeq2 else s.slk[p].rxSeq3)
    if s.cutsThrough p h && inOrder then
      let o := s.otherThrough p
      let f := { h with hop := (h.hop + 1) % 256 }
      s.startAs o { sheaf := f, buffer := some p } f f.toHusk (fun x => .voided o x.header)
    else s.freeBushels p h.vc h.bushels

/-- R134: the unit stream of a port loses synchronisation, and a sheaf that it cuts is discarded whole. -/
def State.loseUnits (s : State) (p : Port) : State :=
  let x := s.slk[p]
  if x.unitLost then s
  else
    let s := s.modSlk p (fun x => { x with unitLost := true, rxLeft := 0, rxHead := [] })
    let s := (s.inc (Reg.SLK_UNIT_SYNC_LOSS p.val)).raise Ev.unitSyncLoss p.val 0 []
    match parseSheaf x.rxHead [] with
    | some h => if 0 < x.rxLeft then s.cutShort p h else s
    | none => s

/-- R148, R149: a VC2 or VC3 sheaf meets the hop sequence. -/
def State.sequenced (s : State) (p : Port) (h : Sheaf) (good : Bool) : State :=
  let want := if h.vc = 2 then s.slk[p].rxSeq2 else s.slk[p].rxSeq3
  if h.linkSeq ≠ want then
    let s := s.freeBushels p h.vc h.bushels
    if newer 16 want h.linkSeq then s.sendLcu p else s
  else if !good then s.badControl p h
  else
    let s := s.modSlk p (fun x =>
      if h.vc = 2 then { x with rxSeq2 := (want + 1) % 2 ^ 16, ack2 := true }
      else { x with rxSeq3 := (want + 1) % 2 ^ 16, ack3 := true })
    (s.route1 p h true).sendLcu p

/-- R136, R139 to R142, R146 to R149, R157: a sheaf whose header is good arrives. -/
def State.sheafArrives (s : State) (p : Port) (h : Sheaf) : State :=
  let good := h.crc == crc32c h.payload
  if h.linkLocal then
    if h.payload.length ≠ 16 then s
    else if good then s.censusCheck p h.payload
    else s.inc (Reg.SLK_PAY_CRC_ERR p.val)
  else if 512 < s.rxO p h.vc + h.bushels then
    ((s.inc (Reg.SLK_CREDIT_VIOL p.val)).raise Ev.creditViolation p.val 0 []).retrain p Cause.credit
  else
    let s := s.occupy p h.vc h.bushels
    let s := if h.husk then s.inc (Reg.SLK_HUSK_RX p.val) else s
    let s := if good then s else s.inc (Reg.SLK_PAY_CRC_ERR p.val)
    if 2 ≤ h.vc then s.sequenced p h good else s.route1 p h good

/-- R134, R136: SHEAF_RX: a wrong start byte or a header that fails its CRC loses the unit stream. The 32 bytes of a header and the payload behind it. -/
def execSheafRx (p : Port) (hdr payload : List Byte) (s : State) : Host.Outcome State Fault Refusal :=
  gate (s.live && s.active p && !s.slk[p].unitLost)
    (fun s =>
      match parseSheaf hdr payload with
      | none => (if leAt hdr 0 1 = 0x5A then s.inc (Reg.SLK_HDR_CRC_ERR p.val) else s).loseUnits p
      | some h => s.sheafArrives p h) s

/-! ### Code words -/

/-- R163: the TB7 instants of uncorrectable code words that lie within 1 ms of now. -/
def State.recentUncorr (s : State) (p : Port) : List Nat :=
  s.slk[p].uncorr.filter (fun t => decide (subMod 32 (s.tbNs 7) t ≤ 1000000))

/-- R128, R134, R163: a code word that the decoder cannot correct. -/
def State.uncorrectable (s : State) (p : Port) : State :=
  let s := ((s.inc (Reg.SLK_FEC_UNCORR p.val)).raise Ev.fecUncorrectable p.val 0 []).loseUnits p
  let s := s.modSlk p (fun x => { x with uncorr := s.recentUncorr p ++ [s.tbNs 7] })
  if 4 ≤ s.slk[p].uncorr.length then s.retrain p Cause.fec else s

/-- R133: a unit that is no loss by R134 arrives: inside a sheaf, at a boundary position as the first of a sheaf header, or there as a
link control unit or an idle unit. -/
def SlkPort.takeUnit (x : SlkPort) (u : List Byte) : SlkPort :=
  if 0 < x.rxLeft then
    { x with rxLeft := x.rxLeft - 1, rxHead := if x.rxHead.length = 16 then x.rxHead ++ u else x.rxHead }
  else if leAt u 0 1 = 0x5A then { x with rxLeft := 1 + ceilDiv (bits (leAt u 0 4) 28 16) 16, rxHead := u }
  else { x with rxHead := [] }

/-- R133, R134: a byte-0 value that a unit at a boundary position may carry. -/
def boundaryOk (u : List Byte) : Bool := leAt u 0 1 == 0x5A || leAt u 0 1 == 0x3C || leAt u 0 1 == 0

/-- R133, R134: the units of a code word, in order; a unit at a boundary position with another byte-0 value loses the unit stream, and
every unit after a loss is discarded. -/
def State.takeUnits (s : State) (p : Port) : List (List Byte) → State
  | [] => s
  | u :: t =>
    if s.slk[p].unitLost then s
    else if s.slk[p].rxLeft = 0 ∧ !boundaryOk u then s.loseUnits p
    else (s.modSlk p (fun x => x.takeUnit u)).takeUnits p t

/-- R121, R128, R133, R134: CODE_WORD_RX: `badHeaders` of its blocks have an invalid sync header, `errBytes` of its bytes are wrong, and
its information bytes are the `units`. -/
def execCodeWordRx (p : Port) (badHeaders errBytes : Nat) (units : List (List Byte)) (s : State) : Host.Outcome State Fault Refusal :=
  gate (s.live && decide (Train.fecLock ≤ s.train p) && decide (s.train p ≤ Train.active))
    (fun s =>
      let s := s.blockErrs p badHeaders
      if 16 < errBytes then s.uncorrectable p
      else
        let c := Reg.SLK_FEC_CORR_LO p.val
        (s.wr64 c ((s.rd64 c + errBytes) % 2 ^ 64)).takeUnits p units) s

end Sys2Proof.Machine
end

