-- ==== Sys2Proof/Machine/Commit.lean ====
section
/-!
DEFINITION. Commits (chapter 01, R27 to R46, R725 to R728; R729 and R730 of chapter 04 for their messages).
-/

namespace Sys2Proof.Machine

/-- R728: the event sources of GLB. -/
abbrev Ev.commit : Nat := 0
abbrev Ev.fallowEntered : Nat := 1

/-- R729: the frame that a commit that was not applied reports. -/
abbrev notApplied : Nat := 0xFFFFFFFF

/-- R41: the four counts of a subtree commit. -/
structure Counts where
  onTime : Nat
  late : Nat
  refused : Nat
  silent : Nat
  deriving DecidableEq, Repr

/-- R729: a device that is no subtree sender reports zero counts. -/
def Counts.zero : Counts := { onTime := 0, late := 0, refused := 0, silent := 0 }

/-- R64: GLB_COMMIT_STATUS. -/
def State.commitStatus (s : State) (state code : Nat) (subtree : Bool) (id : Nat) : State :=
  s.wrN Reg.GLB_COMMIT_STATUS (state * 2 ^ 28 + code * 2 ^ 24 + b2n subtree * 2 ^ 16 + id % 2 ^ 16)

/-- R58, R65: the late and refused counts, and commit_late of GLB_OVERRUN. -/
def State.commitCount (s : State) (code : Nat) : State :=
  if code = Code.LATE then (s.incFld Reg.GLB_COMMIT_COUNTS 31 16).overrun 7
  else if code = Code.REFUSED then s.incFld Reg.GLB_COMMIT_COUNTS 15 0
  else s

/-- R729: the body of a commit's completion. -/
def completionBody (applied id : Nat) (c : Counts) : List Byte :=
  leBytes 4 applied ++ leBytes 2 id ++ zeros 2 ++ leBytes 2 c.onTime ++ leBytes 2 c.late ++ leBytes 2 c.refused ++
    leBytes 2 c.silent

/-- R196, R729: the completion message of a commit that came as a message. -/
def State.commitReply (s : State) (cmd : Option (Nat × Port × Nat)) (code applied id : Nat) (c : Counts) : State :=
  match cmd with
  | none => s
  | some (cmdId, p, src) =>
    let body := completionBody applied id c
    (s.remember { src := src, cmdId := cmdId, cls := 3, code := code, body := body }).sendOn p src 3 cmdId code body

/-- R44, R46, R728: a commit completes: the counters, the commit event and the completion message. -/
def State.commitDone (s : State) (id asked applied code : Nat) (c : Counts) (cmd : Option (Nat × Port × Nat)) : State :=
  let s := s.cmdDone code
  let s := s.raise Ev.commit noInst 0
    [(2, id), (4, asked), (4, applied), (1, code), (2, c.onTime), (2, c.late), (2, c.refused), (2, c.silent)]
  s.commitReply cmd code applied id c

/-- The pending commit of the device, and R59's commit_pending. -/
def State.setCommit (s : State) (c : Option Commit) : State :=
  (s.modGlb (fun g => { g with commit := c })).setBit Reg.GLB_STATE 24 c.isSome

/-! ### Subtree books (R41, R42) -/

/-- R41, R242: the entries of the roll-call tables whose devices a subtree commit counts, with their ports: those of chains and
of rings that the sender holds. DEDUCED (log 65): on a ring that it holds, the sender that closes it counts too. -/
def State.subtreeEntries (s : State) : List (Port × List Byte) :=
  (ports.filter s.holds).flatMap (fun p => s.sxq.roll[p].entries.map (fun e => (p, e)))

/-- R39, R41: the devices to which a subtree commit can be forwarded: those of the tables with a valid index. A device without one
is counted, and is silent. -/
def State.subtreeDevices (s : State) : List (Port × Nat) :=
  (s.subtreeEntries.filter (fun x => entryValid x.2)).map (fun x => (x.1, entryIndex x.2))

/-- R42: the completion code of a subtree commit. -/
def Subtree.code (t : Subtree) : Nat :=
  if t.onTime = t.devices then Code.OK
  else if t.onTime + t.late = t.devices then Code.LATE
  else Code.PARTIAL

/-- R41: one device's report: the code and applied frame of its completion. -/
def Subtree.report (t : Subtree) (code applied : Nat) : Subtree :=
  if (code = Code.OK ∨ code = Code.LATE) ∧ applied = t.asked then { t with onTime := t.onTime + 1 }
  else if code = Code.OK ∨ code = Code.LATE then { t with late := t.late + 1 }
  else { t with refused := t.refused + 1 }

/-- R41, R42, R64: a subtree commit completes with what has been reported. DESIGN CHOICE (log 65): where R40 retargeted it, its event
carries the host's target as the target frame; a late application by the sender sets commit_late here, when its books close. -/
def State.subtreeClose (s : State) (t : Subtree) : State :=
  let code := t.code
  let silent := t.devices - (t.onTime + t.late + t.refused)
  let s := s.modGlb (fun g => { g with subtree := dropFirst t s.glb.subtree })
  let s := if t.applied = notApplied then s.commitCount Code.REFUSED
    else if t.applied = t.asked then s else s.commitCount Code.LATE
  let s := if s.bit Reg.GLB_COMMIT_STATUS 16 && s.fld Reg.GLB_COMMIT_STATUS 15 0 == t.id then
      s.setFld Reg.GLB_COMMIT_STATUS 27 24 code else s
  s.commitDone t.id t.asked t.applied code { onTime := t.onTime, late := t.late, refused := t.refused, silent := silent } t.cmd

/-- The state with subtree commit `t` of the books replaced by `u`, which completes once every device has reported. -/
def State.subtreeStep (s : State) (t u : Subtree) : State :=
  let s := s.modGlb (fun g => { g with subtree := s.glb.subtree.map (fun x => if x = t then u else x) })
  if u.ownDone && u.waiting.isEmpty then s.subtreeClose u else s

/-- R41: the subtree commit whose own part is the pending commit. -/
def State.ownSubtree (s : State) : Option Subtree := s.glb.subtree.find? (fun t => !t.ownDone)

/-! ### The end of a commit on this device -/

/-- R33 to R41: the pending or refused commit ends here with a code; `applied` is the frame it was applied at. -/
def State.commitEnds (s : State) (c : Commit) (code applied : Nat) : State :=
  let s := s.setCommit none
  let ok := code = Code.OK ∨ code = Code.LATE
  let s := if ok then s.wrN Reg.GLB_COMMIT_APPLIED applied else s
  let s := s.commitStatus (if ok then 2 else 3) code c.subtree c.id
  if c.subtree then
    match s.ownSubtree with
    | some t => s.subtreeStep t { t.report code applied with ownDone := true, applied := applied }
    | none => s
  else (s.commitCount code).commitDone c.id c.asked applied code Counts.zero c.cmd

/-- R30, R36: the whole shadow set of every block becomes active. -/
def State.applyShadow (s : State) : State := { s with act := s.regs.filter (fun x => shadowed x.1) }

/-- R33, R34, R726: a commit is accepted and judged; before frames start it is only held. -/
def State.commitAccept (s : State) (c : Commit) : State :=
  let s := (s.setCommit (some c)).commitStatus 1 0 c.subtree c.id
  if c.early || s.inWindow c.target s.guardLocal 0 then s
  else if s.inWindow (c.target + 1) s.guardLocal 0 then s.setCommit (some { c with late := true })
  else s.commitEnds c Code.REFUSED notApplied

/-- The commit that arrives now. -/
def State.newCommit (s : State) (id asked target : Nat) (subtree : Bool) (cmd : Option (Nat × Port × Nat)) : Commit :=
  { id := id, asked := asked, target := target % 2 ^ 32, subtree := subtree, early := !s.frameValid, late := false,
    arrived := s.tb48 1, cycle := s.tmb.tclk, reloadLate := false, cmd := cmd }

/-- R39, R729: the body of a commit message. -/
def commitBody (target id : Nat) : List Byte := leBytes 4 target ++ leBytes 4 (id % 2 ^ 16)

/-- R39, R40: a subtree commit is forwarded and applied by the sender itself, or refused whole. -/
def State.subtreePost (s : State) (id asked : Nat) (cmd : Option (Nat × Port × Nat)) : State :=
  let devs := s.subtreeDevices
  let n := 1 + s.subtreeEntries.length
  let inF := !s.frameValid || s.inWindow asked s.guardSubtree 0
  let inF1 := inF || s.inWindow (asked + 1) s.guardSubtree 0
  if !inF1 then
    ((s.commitStatus 3 Code.REFUSED true id).commitCount Code.REFUSED).commitDone id asked notApplied Code.REFUSED
      { onTime := 0, late := 0, refused := n, silent := 0 } cmd
  else
    let target := if inF then asked else (asked + 1) % 2 ^ 32
    let cmdId := match cmd with
      | some (c, _, _) => c
      | none => id
    let t : Subtree := { id := id, asked := asked, target := target, cmdId := cmdId, devices := n, onTime := 0, late := 0,
                         refused := 0, waiting := devs.map (fun x => x.2), ownDone := false, cmd := cmd, applied := notApplied }
    let s := s.modGlb (fun g => { g with subtree := s.glb.subtree ++ [t] })
    let s := devs.foldl (fun s d => s.sendOn d.1 d.2 6 cmdId 0 (commitBody target id)) s
    s.commitAccept (s.newCommit id asked target true cmd)

/-- R38: the index of the tile's holder. -/
def State.holderIdx (s : State) : Option Nat := s.red.holder.map (fun h => h.2.2.1)

/-- R32, R38, R39, R649, R725: a commit is posted. `origin` is the device it came from, none for a local access. DESIGN CHOICE (log
65): a subtree commit that a register write posts during a pause (R649) sets busy_hit and does nothing else. R728: a refusal by R39 alone
raises no event. -/
def State.commitPost (s : State) (id target : Nat) (scope : Bool) (origin : Option Nat) (cmd : Option (Nat × Port × Nat)) :
    State :=
  if s.glb.commit.isSome || (scope && s.bit Reg.BOOT_STATUS 27) then
    if cmd.isNone then s.setBit Reg.GLB_COMMIT_CTL 1 true
    else ((s.cmdPosted).cmdDone Code.BUSY).commitReply cmd Code.BUSY notApplied id Counts.zero
  else
    let s := s.cmdPosted
    if 2 ≤ s.mode ∨ (s.mode = 1 ∧ origin.isSome ∧ s.holderIdx ≠ origin) then
      ((s.commitStatus 3 Code.REFUSED scope id).commitCount Code.REFUSED).commitDone id target notApplied Code.REFUSED
        Counts.zero cmd
    else if scope ∧ s.mode ≠ 0 then
      (((s.commitStatus 3 Code.REFUSED scope id).commitCount Code.REFUSED).cmdDone Code.REFUSED).commitReply cmd Code.REFUSED
        notApplied id Counts.zero
    else if scope then s.subtreePost id target cmd
    else s.commitAccept (s.newCommit id target target false cmd)

/-- R38: the device that originated a register access. -/
def pathOrigin : Path → Option Nat
  | .reach src => some src
  | _ => none

/-- R62: a write of GLB_COMMIT_CTL. -/
def State.commitCtlWrite (s : State) (path : Path) (v : Word) : State :=
  let r := Reg.GLB_COMMIT_CTL
  let n := v.toNat
  let busy := s.bit r 1 && !n.testBit 1
  let s := s.wrN r (bits n 31 16 * 2 ^ 16 + bits n 8 8 * 2 ^ 8 + b2n busy * 2)
  if n.testBit 0 then
    s.commitPost (bits n 31 16) (s.rd Reg.GLB_COMMIT_TARGET).toNat (n.testBit 8) (pathOrigin path) none
  else s

/-- R32: COMMIT_POST: a write of GLB_COMMIT_CTL with go set. -/
def execCommitPost (path : Path) (v : Word) (s : State) : Host.Outcome State Fault Refusal :=
  gate s.live (fun s => s.commitCtlWrite path (v ||| 1)) s

/-- R41: SUBTREE_COMMIT_DEADLINE: 1 ms after the applying tick the oldest subtree commit that still collects completes. -/
def execSubtreeCommitDeadline (s : State) : Host.Outcome State Fault Refusal :=
  gate s.sender
    (fun s =>
      match s.glb.subtree.find? (fun t => t.ownDone) with
      | some t => s.subtreeClose t
      | none => s) s

/-- R38, R175, R183, R196, R210, R729: COMMIT_MSG_RX. -/
def execCommitMsgRx (m : Msg) (s : State) : Host.Outcome State Fault Refusal :=
  gate (s.rollHears m.port)
    (fun s =>
      let w1 := leAt m.body 4 4
      let id := bits w1 15 0
      let cmd := some (m.cmdId, m.port, m.src)
      if s.isFenced m || !s.epochOk m then
        let s := if s.epochOk m then s else s.inc Reg.SXQ_EPOCH_REFUSED
        ((s.cmdPosted).cmdDone Code.REFUSED).commitReply cmd Code.REFUSED notApplied id Counts.zero
      else s.commitPost id (leAt m.body 0 4) (w1.testBit 16) (some m.src) cmd) s

/-- R41, R729: a completion that belongs to a subtree commit. -/
def State.subtreeReport (s : State) (src cmdId code applied : Nat) : State :=
  match s.glb.subtree.find? (fun t => t.cmdId == cmdId && t.waiting.contains src) with
  | none => s
  | some t =>
    if code = Code.DISCARDED then s
    else s.subtreeStep t { t.report code applied with waiting := t.waiting.filter (· != src) }

/-- R185, R197, R729: COMPLETION_RX. -/
def execCompletionRx (m : Msg) (s : State) : Host.Outcome State Fault Refusal :=
  gate (s.live && s.mode != 3)
    (fun s =>
      match s.outstandingFor m.src m.cmdId with
      | some o => if o.cls = 0 || !s.takesResponse o then s else s.completeOutstanding o m.code 3 m.body
      | none => s.subtreeReport m.src m.cmdId m.code (leAt m.body 0 4)) s

/-- R197, R730: QUERY_ANSWER_RX: the outstanding command completes with the stored response, or with DISCARDED. -/
def execQueryAnswerRx (m : Msg) (s : State) : Host.Outcome State Fault Refusal :=
  gate s.sender
    (fun s =>
      match s.outstandingFor m.src m.cmdId with
      | none => s
      | some o =>
        if !s.takesResponse o then s
        else if leAt m.body 0 1 = 0 then
          s.completeOutstanding o (leAt m.body 2 1 % 16) (leAt m.body 1 1) (m.body.drop 4)
        else if leAt m.body 0 1 ≤ 2 then s.completeOutstanding o Code.DISCARDED 7 []
        else s) s

/-! ### The tick's side -/

/-- R726: a commit held from before the first tick is judged at it, by its target against the frame `t` of that tick. -/
def State.commitFirstTick (s : State) (t : Nat) : State :=
  match s.glb.commit with
  | some c =>
    if c.early then
      if c.target < t then s.commitEnds c Code.REFUSED notApplied
      else s.setCommit (some { c with early := false, late := c.target == t })
    else s
  | none => s

/-- R33, R34, R36, R37, R727: at the tick of frame `f` the pending commit is applied where it is due. The result says
whether the shadow sets became active. -/
def State.commitTick (s : State) (f : Nat) : State × Bool :=
  match s.glb.commit with
  | none => (s, false)
  | some c =>
    if c.reloadLate then (s.applyShadow.commitEnds c Code.LATE f, true)
    else if f = (c.target + b2n c.late) % 2 ^ 32 then
      (s.applyShadow.commitEnds c (if c.late then Code.LATE else Code.OK) f, true)
    else (s, false)

end Sys2Proof.Machine
end

