-- ==== Sys2Proof/Machine/Inp.lean ====
section
/-!
DEFINITION. Source inputs: SDI, ST 2110-20 and host pulls, storage, the capture budget and frame-rate conversion (chapter 06,
R250 to R284).
-/

namespace Sys2Proof.Machine

/-- R280, R605: the event sources of INP. -/
abbrev Ev.sourceLost : Nat := 192
abbrev Ev.sourceBack : Nat := 193
abbrev Ev.budgetPark : Nat := 194
abbrev Ev.inpOverrun : Nat := 195
abbrev Ev.hostPullDone : Nat := 196
abbrev Ev.sdiLock : Nat := 197
abbrev Ev.sdiUnlock : Nat := 198
abbrev Ev.ethUp : Nat := 199
abbrev Ev.ethDown : Nat := 200
abbrev Ev.audioStreamLoss : Nat := 201

/-- R284: the states of a source. -/
abbrev Src.off : Nat := 0
abbrev Src.acquiring : Nat := 1
abbrev Src.running : Nat := 2
abbrev Src.lost : Nat := 3
abbrev Src.parked : Nat := 4

/-- R284: the state of a slot. -/
def State.srcState (s : State) (n : Fin 16) : Nat := s.fld (Reg.INP_SRC_STATUS n.val) 31 29

/-- The state with a slot's state and cause fields set. -/
def State.setSrc (s : State) (n : Fin 16) (state cause : Nat) : State :=
  (s.setFld (Reg.INP_SRC_STATUS n.val) 31 29 state).setFld (Reg.INP_SRC_STATUS n.val) 28 25 cause

/-- The state with what INP holds of a slot changed. -/
def State.modSource (s : State) (n : Fin 16) (f : Source → Source) : State :=
  { s with src := s.src.set n (f s.src[n]) }

/-- The sixteen slots. -/
def srcSlots : List (Fin 16) := (List.range 16).map (Fin.ofNat 16)

/-- R282, R283: fields of a slot's active registers. -/
def State.srcKind (s : State) (n : Fin 16) : Nat := s.fldA (Reg.INP_SRC_CTL n.val) 30 28
def State.srcRate (s : State) (n : Fin 16) : Nat := s.fldA (Reg.INP_SRC_FMT n.val) 31 27
def State.srcWidth (s : State) (n : Fin 16) : Nat := s.fldA (Reg.INP_SRC_SIZE n.val) 31 16 + 1
def State.srcHeight (s : State) (n : Fin 16) : Nat := s.fldA (Reg.INP_SRC_SIZE n.val) 15 0 + 1
def State.srcLayout (s : State) (n : Fin 16) : Nat := s.fldA (Reg.INP_SRC_FMT n.val) 25 24
def State.srcDepth (s : State) (n : Fin 16) : Nat := s.fldA (Reg.INP_SRC_FMT n.val) 23 22
def State.srcPitch (s : State) (n : Fin 16) : Nat := (s.rdA (Reg.INP_SRC_PITCH n.val)).toNat

/-- R266: where buffer `k` of a slot starts. -/
def State.srcBuffer (s : State) (n : Fin 16) (k : Nat) : Nat :=
  s.addrA (Reg.INP_SRC_BUF_LO n.val) + k * (s.rdA (Reg.INP_SRC_BUF_STRIDE n.val)).toNat

/-! ### Storage (R265, R266) -/

/-- R265: a sample of depth code `d` as its layout stores it. -/
def storedSample (layout d v : Nat) : List Byte :=
  if layout = 3 then leBytes 1 v else leBytes 2 (v * 2 ^ (4 - 2 * min 2 d) % 2 ^ 12)

/-- R265: the bytes of one line of plane 0, and of both planes. -/
def lineBytes (layout w : Nat) : Nat := if layout = 2 then 8 * w else if layout = 3 then 4 * w else 2 * w
def frameBytes (layout pitch h : Nat) : Nat :=
  if layout = 0 then pitch * h * 2 else if layout = 1 then pitch * h + pitch * (h / 2) else pitch * h

/-- R265, R266: where sample `x` of line `y` of a plane lies in buffer `k` of a slot. -/
def State.samplePlace (s : State) (n : Fin 16) (k plane y x : Nat) : Nat :=
  let size := if s.srcLayout n = 3 then 1 else 2
  s.srcBuffer n k + (if plane = 0 then 0 else s.srcPitch n * s.srcHeight n) + s.srcPitch n * y + size * x

/-- R265: chroma samples of a pixel row as plane 1 holds them: Cb and Cr in turn. -/
def pairUp : List Nat → List Nat → List Nat
  | b :: bs, r :: rs => b :: r :: pairUp bs rs
  | _, _ => []

/-- R265: pixels of a single plane: three components and a zero word. -/
def quadUp : List Nat → List Nat → List Nat → List Nat
  | a :: as, b :: bs, c :: cs => a :: b :: c :: 0 :: quadUp as bs cs
  | _, _, _ => []

/-- R265: samples are stored from sample `x` of line `y` of a plane. -/
def State.storeSamples (s : State) (n : Fin 16) (k plane y x : Nat) (vs : List Nat) : State :=
  s.wrMem 4 (s.samplePlace n k plane y x) (vs.flatMap (storedSample (s.srcLayout n) (s.srcDepth n)))

/-- R265: the lines of a plane are stored. -/
def State.storePlane (s : State) (n : Fin 16) (k plane : Nat) (ls : List (List Nat)) : State :=
  ls.zipIdx.foldl (fun s l => s.storeSamples n k plane l.2 0 l.1) s

/-- R254, R258, R265: a sample row of a packet is stored; a second field goes to the odd lines. -/
def State.storeRow (s : State) (n : Fin 16) (k : Nat) (r : SampleRow) : State :=
  let y := if s.bitA (Reg.INP_SRC_FMT n.val) 26 then 2 * r.line + b2n r.second else r.line
  if 2 ≤ s.srcLayout n then s.storeSamples n k 0 y (4 * r.offset) (quadUp r.c0 r.c1 r.c2)
  else
    (s.storeSamples n k 0 y r.offset r.c0).storeSamples n k 1 (if s.srcLayout n = 1 then y / 2 else y) (2 * (r.offset / 2))
      (pairUp r.c1 r.c2)

/-- R254: the lines of two fields, woven. -/
def weave (scan : Bool) (ls : List (List Nat)) : List (List Nat) :=
  if scan then
    let h := (ls.length + 1) / 2
    (List.range ls.length).map (fun y => (if y % 2 = 0 then ls.getD (y / 2) [] else ls.getD (h + y / 2) []))
  else ls

/-- R253, R255: the four parts of a component joined by two-sample interleave; a unit is `u` samples. Link 1 and 2 carry the even lines,
3 and 4 the odd ones, each the even or the odd units (PRESUMED, log entry 67). -/
def joinTwoSample (u : Nat) (ps : List (List (List Nat))) : List (List Nat) :=
  (List.range (2 * (ps.getD 0 []).length)).map (fun y =>
    let a := (ps.getD (2 * (y % 2)) []).getD (y / 2) []
    let b := (ps.getD (2 * (y % 2) + 1) []).getD (y / 2) []
    (List.range (2 * (a.length / u))).flatMap (fun k => ((if k % 2 = 0 then a else b).drop (u * (k / 2))).take u))

/-- R253, R255: the four parts of a component joined as quarters of the picture. -/
def joinSquare (ps : List (List (List Nat))) : List (List Nat) :=
  (ps.getD 0 []).zipWith (· ++ ·) (ps.getD 1 []) ++ (ps.getD 2 []).zipWith (· ++ ·) (ps.getD 3 [])

/-- R255: the receivers in the order of their links: by link number where every one has a valid payload identifier, else by receiver
number. -/
def State.linkOrder (s : State) : List Nat :=
  if (List.range 4).all (fun k => s.bit (Reg.INP_SDI_STATUS k) 27) then
    (List.range 4).flatMap (fun j => (List.range 4).filter (fun k => s.fld (Reg.INP_SDI_STATUS k) 25 24 == j))
  else List.range 4

/-- R253 to R255: the picture of a frame: woven, and for quad-link put together from the parts of its links. -/
def State.picture (s : State) (n : Fin 16) (f : SrcFrame) : Samples :=
  let part := fun (g : Samples → List (List Nat)) (u : Nat) =>
    if s.srcKind n = 1 then
      let ps := s.linkOrder.map (fun k => match f.links[k]? with | some x => g x | none => [])
      if s.bitA (Reg.INP_SRC_CTL n.val) 25 then joinSquare ps else joinTwoSample u ps
    else match f.links.head? with
      | some x => weave f.scan (g x)
      | none => []
  let u := if s.srcLayout n = 2 then 2 else 1
  { c0 := part Samples.c0 2, c1 := part Samples.c1 u, c2 := part Samples.c2 u }

/-- R265: a picture is stored in buffer `k`. -/
def State.storePicture (s : State) (n : Fin 16) (k : Nat) (x : Samples) : State :=
  if 2 ≤ s.srcLayout n then
    s.storePlane n k 0 ((x.c0.zip (x.c1.zip x.c2)).map (fun l => quadUp l.1 l.2.1 l.2.2))
  else (s.storePlane n k 0 x.c0).storePlane n k 1 ((x.c1.zip x.c2).map (fun l => pairUp l.1 l.2))

/-! ### Admission (R251, R266 to R268, R282, R283) -/

/-- R104, R283: a rate code as it acts: a reserved one as 0x09. -/
def rateOf (code : Nat) : Nat := if rateReserved code then 9 else code

/-- R253: the pictures of the SDI standards, with their scans and rates. -/
def sdiSizeOk (quad scan : Bool) (rate w h : Nat) : Bool :=
  if quad then !scan && w == 7680 && h == 4320
  else if w = 3840 ∧ h = 2160 then !scan
  else if w = 1920 ∧ h = 1080 then !scan || (decide (2 ≤ rate) && decide (rate ≤ 4))
  else w == 1280 && h == 720 && !scan && decide (7 ≤ rate)

/-- R253, R258, R265, R283: whether a slot's format and picture size are permitted for its kind. -/
def formatOk (kind fmt w h : Nat) : Bool :=
  let rate := rateOf (bits fmt 31 27)
  let scan := fmt.testBit 26
  let layout := bits fmt 25 24
  let depth := bits fmt 23 22
  let rgb := fmt.testBit 21
  let tcs := bits fmt 18 17
  let common := depth != 3 && decide (bits fmt 20 19 < 2) && (tcs != 3 || kind == 3) &&
    (layout != 3 || (kind == 3 && rgb && depth == 0)) && (!rgb || decide (2 ≤ layout)) && (layout != 1 || decide (2 ≤ kind))
  let sdi := decide (rate ≤ 9) && ((layout == 0 && depth == 1) || (layout == 2 && depth == 2)) &&
    sdiSizeOk (kind == 1) scan rate w h
  common && (kind == 3 || (kind == 2 && decide (w ≤ 7680) && decide (h ≤ 4320)) || (decide (kind ≤ 1) && sdi))

/-- R266, R282, R283: whether a slot's active configuration is valid by itself. -/
def State.srcValid (s : State) (n : Fin 16) : Bool :=
  let stride := (s.rdA (Reg.INP_SRC_BUF_STRIDE n.val)).toNat
  decide (s.srcKind n ≤ 3) && formatOk (s.srcKind n) (s.rdA (Reg.INP_SRC_FMT n.val)).toNat (s.srcWidth n) (s.srcHeight n) &&
    s.srcPitch n % 64 == 0 && decide (lineBytes (s.srcLayout n) (s.srcWidth n) ≤ s.srcPitch n) &&
    stride % 4096 == 0 && decide (frameBytes (s.srcLayout n) (s.srcPitch n) (s.srcHeight n) ≤ stride)

/-- R251: the receivers that a slot takes, as a mask. -/
def State.receivers (s : State) (n : Fin 16) : Nat :=
  if s.srcKind n = 0 then 2 ^ s.fldA (Reg.INP_SRC_CTL n.val) 27 26 else if s.srcKind n = 1 then 15 else 0

/-- R267: the pixels per second of a slot, as a fraction. -/
def costOf (size rate : Nat) : Nat × Nat :=
  ((bits size 31 16 + 1) * (bits size 15 0 + 1) * 9000000000, period9 rate)

/-- The sum of two fractions. -/
def addFrac (a b : Nat × Nat) : Nat × Nat := (a.1 * b.2 + b.1 * a.2, a.2 * b.2)

/-- R268: a total cost in units of 10^6 pixels per second, rounded up. -/
def budgetUnits (c : Nat × Nat) : Nat := ceilDiv c.1 (c.2 * 1000000)

/-- R251, R267: what admission decides for a slot: off, off for an invalid configuration, parked or admitted. -/
inductive Admit where
  | off
  | invalid
  | parked
  | admitted
  deriving DecidableEq, Repr

/-- R251, R267: admission over the slots in ascending order: `taken` receivers, whether a quad-link slot has taken them, and the
total admitted so far. -/
structure Admission where
  taken : Nat
  quad : Bool
  total : Nat × Nat
  out : List Admit
  deriving DecidableEq, Repr

/-- R251, R267: one slot's admission. -/
def State.admitSource (s : State) (a : Admission) (n : Fin 16) : Admission :=
  let kind := s.srcKind n
  let rx := s.receivers n
  let clash := if kind = 1 then a.taken != 0 else kind == 0 && a.quad
  let cost := costOf (s.rdA (Reg.INP_SRC_SIZE n.val)).toNat (s.srcRate n)
  let total := addFrac a.total cost
  if !s.bitA (Reg.INP_SRC_CTL n.val) 31 then { a with out := a.out ++ [.off] }
  else if !s.srcValid n || clash then { a with out := a.out ++ [.invalid] }
  else
    let a := { a with taken := a.taken ||| rx, quad := a.quad || kind == 1 }
    if total.1 ≤ 8000000000 * total.2 then { a with total := total, out := a.out ++ [.admitted] }
    else { a with out := a.out ++ [.parked] }

/-- R251, R267: the admission of all slots in the active set. -/
def State.admission (s : State) : Admission :=
  srcSlots.foldl (fun a n => s.admitSource a n) { taken := 0, quad := false, total := (0, 1), out := [] }

/-- R268: INP_BUDGET_SHADOW. -/
def State.budgetShadow (s : State) : Nat :=
  budgetUnits ((srcSlots.filter (fun n => s.bit (Reg.INP_SRC_CTL n.val) 31)).foldl
    (fun t n => addFrac t (costOf (s.rd (Reg.INP_SRC_SIZE n.val)).toNat (s.fld (Reg.INP_SRC_FMT n.val) 31 27))) (0, 1))

/-! ### Frames -/

/-- R272: the buffer that capture writes: neither held nor the newest when the frame began. -/
def Source.writing (x : Source) : Nat :=
  x.buf.getD (([0, 1, 2].find? (fun k => x.held != some k && x.newest != some k)).getD 0)

/-- R272: a frame in capture keeps its buffer. -/
def State.beginCapture (s : State) (n : Fin 16) : State := s.modSource n (fun x => { x with buf := some x.writing })

/-- R281: INP_SRCn_SEL. -/
def State.showSel (s : State) (n : Fin 16) : State :=
  let x := s.src[n]
  s.wrN (Reg.INP_SRC_SEL n.val) (x.held.getD 0 + 16 * x.newest.getD 0 + 256 * x.writing)

/-- R26, R273, R280: a frame is abandoned as incomplete. -/
def State.dropFrame (s : State) (n : Fin 16) : State :=
  let s := s.overrun 0
  let s := s.modSource n (fun x => { x with good := 0, buf := none })
  if s.src[n].overrun then s
  else (s.modSource n (fun x => { x with overrun := true })).raise Ev.inpOverrun n.val 1 []

/-- R273, R281: a frame is abandoned and counted. -/
def State.abandonFrame (s : State) (n : Fin 16) : State := (s.inc (Reg.INP_SRC_ERR n.val)).dropFrame n

/-- R274, R279, R284: a source that runs, or whose held frame is repeated after a reset, becomes lost with a cause. -/
def State.loseSource (s : State) (n : Fin 16) (cause : Nat) : State :=
  if s.srcState n = Src.running ∨ s.src[n].heldOver then
    let s := (s.setSrc n Src.lost cause).incFld (Reg.INP_SRC_STATUS n.val) 15 0
    (s.modSource n (fun x => { x with good := 0, heldOver := false, lastAt := s.tmb.tclk })).raise Ev.sourceLost n.val 1 [(1, cause)]
  else if s.srcState n = Src.acquiring then (s.setSrc n Src.acquiring cause).modSource n (fun x => { x with good := 0 })
  else s.modSource n (fun x => { x with good := 0 })

/-- R282: recover_frames. -/
def State.recoverFrames (s : State) (n : Fin 16) : Nat := max 1 (s.fldA (Reg.INP_SRC_CTL n.val) 17 14)

/-- R269, R270, R276, R277, R279: a good frame is complete in the writing buffer. -/
def State.frameGood (s : State) (n : Fin 16) : State :=
  let x := s.src[n]
  let st := s.srcState n
  let good := x.good + 1
  let returns := st != Src.running && (decide (s.recoverFrames n ≤ good) || x.heldOver)
  let s := s.modSource n (fun x => { x with
    newest := some x.writing, newestAt := s.tb48 1, lastAt := s.tmb.tclk, buf := none, newestSeq := x.seq + 1, seq := x.seq + 1, good := good, since := x.since + 1,
    from_ := if returns && st == Src.lost then x.seq + 2 else x.from_, heldOver := false })
  let s := (s.inc (Reg.INP_SRC_FRAMES n.val)).wr64 (Reg.INP_SRC_LAST_LO n.val) (s.stamp 1)
  if returns then
    let s := s.setSrc n Src.running 0
    if st = Src.lost then s.raise Ev.sourceBack n.val 1 [] else s
  else s

/-- A slot captures: enabled, admitted and INP itself enabled. -/
def State.captures (s : State) (n : Fin 16) : Bool :=
  s.sender && s.bit Reg.INP_CTL 0 && decide (1 ≤ s.srcState n) && decide (s.srcState n ≤ 3)

/-- R284: what the slot measures. -/
def State.showDetect (s : State) (n : Fin 16) (f : SrcFrame) : State :=
  let s := s.wrN (Reg.INP_SRC_DETECT n.val) (f.width % 2 ^ 16 * 2 ^ 16 + f.height % 2 ^ 16)
  let s := s.setFld (Reg.INP_SRC_STATUS n.val) 23 19 (f.rate.getD 0x1F)
  (s.setBit (Reg.INP_SRC_STATUS n.val) 18 f.scan).setFld (Reg.INP_SRC_STATUS n.val) 17 16 (f.depth.getD 3)

/-- R274: the measured format differs from the configuration. -/
def State.formatDiffers (s : State) (n : Fin 16) (f : SrcFrame) : Bool :=
  f.width != s.srcWidth n || f.height != s.srcHeight n || f.scan != s.bitA (Reg.INP_SRC_FMT n.val) 26 ||
    f.rate != some (rateOf (s.srcRate n)) || (match f.depth with | some d => d != s.srcDepth n | none => false)

/-- R256: the lines with CRC errors, counted at their receivers. -/
def State.countCrc (s : State) (f : SrcFrame) : State :=
  (List.range 4).foldl
    (fun s k => if f.crcLines.toArray.getD k 0 = 0 then s else s.inc (Reg.INP_SDI_CRC_ERR k) (f.crcLines.toArray.getD k 0)) s

/-- R254 to R256, R274: a frame of a source ends, as its receiver measured it. -/
def State.frameEnds (s : State) (n : Fin 16) (f : SrcFrame) : State :=
  let bad := f.crcLines.toList.any (fun c => c != 0)
  let s := if bad then s.inc (Reg.INP_SRC_ERR n.val) else s
  let s := s.showDetect n f
  if s.srcKind n = 1 ∧ 2 < f.skew then s.loseSource n 4
  else if s.formatDiffers n f then s.loseSource n 3
  else if bad && s.bitA (Reg.INP_SRC_CTL n.val) 24 then s.dropFrame n
  else (s.storePicture n s.src[n].writing (s.picture n f)).frameGood n

/-- R250 to R252: the slots that capture from an SDI receiver. -/
def State.slotsOf (s : State) (rx : Fin 4) : List (Fin 16) :=
  srcSlots.filter (fun n => s.captures n && (s.receivers n).testBit rx.val)

/-- R252, R256, R269: SOURCE_FRAME_COMPLETE: a frame ends at an SDI receiver, or with receiver 0 at the four of a quad-link; every slot
that captures from it takes it. -/
def execSourceFrameComplete (rx : Fin 4) (f : SrcFrame) (s : State) : Host.Outcome State Fault Refusal :=
  gate s.sender (fun s => (s.slotsOf rx).foldl (fun s n => s.frameEnds n f) (s.countCrc f)) s

/-- R274: TCLK cycles until loss_frames periods of the configured rate have passed since the last complete frame. -/
def State.lossLeft (s : State) (n : Fin 16) : Nat :=
  s.src[n].lastAt + ceilDiv (max 1 (s.fldA (Reg.INP_SRC_CTL n.val) 21 18) * period9 (rateOf (s.srcRate n)) * 4) 45 - s.tmb.tclk

/-- R274, R279: SOURCE_LOSS_TIMEOUT: time runs until loss_frames periods have passed without a complete frame, unless a tick comes
first. -/
def execSourceLossTimeout (n : Fin 16) (s : State) : Host.Outcome State Fault Refusal :=
  gate (s.captures n && (s.srcState n == Src.running || s.src[n].heldOver))
    (fun s => s.wait (s.lossLeft n) (fun s => s.loseSource n 2)) s

/-! ### SDI -/

/-- R281: SDI_LOCK: the receiver's standard, payload identifier and link number. -/
def execSdiLock (k : Fin 4) (standard : Nat) (pid : Option Word) (linkNo : Nat) (s : State) :
    Host.Outcome State Fault Refusal :=
  gate s.sender
    (fun s =>
      let s := s.wrN (Reg.INP_SDI_STATUS k.val)
        (2 ^ 31 + standard % 8 * 2 ^ 28 + b2n pid.isSome * 2 ^ 27 + linkNo % 4 * 2 ^ 24)
      let s := match pid with
        | some v => s.wr (Reg.INP_SDI_PID k.val) v
        | none => s
      s.raise Ev.sdiLock k.val 0 []) s

/-- R274, R280: SDI_UNLOCK: the running sources of the receiver are lost. -/
def execSdiUnlock (k : Fin 4) (s : State) : Host.Outcome State Fault Refusal :=
  gate s.sender
    (fun s =>
      let s := (s.wr (Reg.INP_SDI_STATUS k.val) 0).raise Ev.sdiUnlock k.val 0 []
      srcSlots.foldl (fun s n => if s.captures n && (s.receivers n).testBit k.val then s.loseSource n 1 else s) s) s

/-! ### Ethernet and ST 2110-20 -/

/-- R257, R280: ETH_LINK_CHANGE: link-up and link-down are PCS alignment gained and lost. -/
def execEthLinkChange (p : Fin 2) (up pcs fec : Bool) (s : State) : Host.Outcome State Fault Refusal :=
  gate s.sender
    (fun s =>
      let was := s.bit (Reg.INP_ETH_STATUS p.val) 30
      let s := s.wrN (Reg.INP_ETH_STATUS p.val) (b2n up * 2 ^ 31 + b2n pcs * 2 ^ 30 + b2n fec * 2 ^ 29)
      if pcs && !was then s.raise Ev.ethUp p.val 0 []
      else if !pcs && was then s.raise Ev.ethDown p.val 0 []
      else s) s

/-- R258: the slot whose stream a packet on a port belongs to. -/
def State.videoSlot (s : State) (p : Fin 2) (k : VideoPacket) : Option (Fin 16) :=
  srcSlots.find? (fun n =>
    s.captures n && s.srcKind n == 2 && decide (96 ≤ k.pt) && decide (k.pt ≤ 127) && s.fldA (Reg.INP_SRC_NET_PORT n.val) 24 24 == p.val &&
      s.fldA (Reg.INP_SRC_NET_PORT n.val) 22 16 == k.pt && s.fldA (Reg.INP_SRC_NET_PORT n.val) 15 0 == k.udp &&
      (s.rdA (Reg.INP_SRC_NET_DST n.val)).toNat == k.dst &&
      (s.rdA (Reg.INP_SRC_NET_SRC n.val) == 0 || (s.rdA (Reg.INP_SRC_NET_SRC n.val)).toNat == k.src))

/-- The state with the packet books of a slot changed. -/
def State.modPackets (s : State) (n : Fin 16) (f : Packets → Packets) : State :=
  s.modSource n (fun x => { x with packets := f x.packets })

/-- R259, R260: the frame in capture of a stream is broken: abandoned, counted once. -/
def State.breakFrame (s : State) (n : Fin 16) : State :=
  if s.src[n].packets.broken then s
  else (s.modPackets n (fun x => { x with broken := true })).abandonFrame n

/-- R274: what the rows of a stream's frame show: its width, its height in the woven frame and its scan; the signal states no depth. -/
def State.packetFrame (s : State) (n : Fin 16) (rate : Option Nat) : SrcFrame :=
  let x := s.src[n].packets
  { width := x.width, height := if x.second then 2 * x.height else x.height, rate := rate, scan := x.second, depth := none,
    crcLines := Vector.replicate 4 0, skew := 0, links := [] }

/-- R260, R274: the marker ends a frame of a stream: it is complete unless broken, and a good one where its format is as configured. -/
def State.markerEnds (s : State) (n : Fin 16) (rate : Option Nat) : State :=
  let f := s.packetFrame n rate
  let ok := !s.src[n].packets.broken
  let s := s.modPackets n (fun x => { x with ts := none, broken := false, width := 0, height := 0, second := false })
  if !ok then s
  else
    let s := s.showDetect n f
    if s.formatDiffers n f then (s.modSource n (fun x => { x with buf := none })).loseSource n 3 else s.frameGood n

/-- R260: a packet of a stream is stored, and its marker ends the frame. -/
def State.videoPacket (s : State) (n : Fin 16) (k : VideoPacket) : State :=
  let x := s.src[n].packets
  let s := if x.ts.isSome && x.ts != some k.ts then
      (s.breakFrame n).modPackets n (fun x => { x with broken := false, width := 0, height := 0, second := false }) else s
  let s := match x.seq with
    | some q => if k.seq = (q + 1) % 2 ^ 32 then s else s.breakFrame n
    | none => s
  let s := s.modPackets n (fun x => { x with
    seq := some k.seq, ts := some k.ts
    width := (k.rows.map (fun r => r.offset + r.c0.length)).foldl max x.width
    height := (k.rows.map (fun r => r.line + 1)).foldl max x.height
    second := x.second || k.rows.any (fun r => r.second) })
  let s := s.beginCapture n
  let buf := s.src[n].writing
  let s := k.rows.foldl (fun s r => s.storeRow n buf r) s
  if k.marker then s.markerEnds n k.rate else s

/-- R258 to R260, R281: ST2110_PACKET_RX. -/
def execSt2110PacketRx (p : Fin 2) (k : VideoPacket) (s : State) : Host.Outcome State Fault Refusal :=
  gate (s.sender && s.bit (Reg.INP_ETH_CTL p.val) 0)
    (fun s =>
      let s := s.inc (Reg.INP_ETH_RX_FRAMES p.val)
      let s := if k.fecUncorr = 0 then s else s.inc (Reg.INP_ETH_FEC_UNCORR p.val) k.fecUncorr
      let s := if k.full || k.badFcs then s.inc (Reg.INP_ETH_RX_DROP p.val) else s
      if k.badFcs then s else
      match s.videoSlot p k with
      | none => s
      | some n => if k.full then s.breakFrame n else s.videoPacket n k) s

/-- R261, R280: AUDIO_STREAM_LOSS_TIMEOUT. -/
def execAudioStreamLossTimeout (m : Fin 16) (s : State) : Host.Outcome State Fault Refusal :=
  gate (s.sender && s.bitA (Reg.INP_AUD_CTL m.val) 31)
    (fun s => (s.setBit (Reg.INP_AUD_STATUS m.val) 31 false).raise Ev.audioStreamLoss m.val 0 []) s

/-! ### Host pulls (R262 to R264, R670) -/

/-- R263: a pull completes: its status register and event. -/
def State.pullEnds (s : State) (n : Fin 16) (cmdId code : Nat) : State :=
  let flight := s.src[n].pull.isSome
  ((s.cmdDone code).wrN (Reg.INP_SRC_HOST_STAT n.val) (code * 2 ^ 28 + b2n flight * 2 ^ 27)).raise Ev.hostPullDone n.val 1
    [(4, cmdId), (1, code)]

/-- R263, R670: a write of INP_SRCn_HOST_POST. A post in a slot that is no capturing host-pull slot is refused. -/
def State.pullPost (s : State) (n : Fin 16) (v : Word) : State :=
  let s := (s.wr (Reg.INP_SRC_HOST_POST n.val) v).cmdPosted
  if s.src[n].pull.isSome then s.pullEnds n v.toNat Code.BUSY
  else if !s.pci.bme then s.pullEnds n v.toNat Code.FAULT
  else if !(s.captures n && s.srcKind n == 3) then s.pullEnds n v.toNat Code.REFUSED
  else
    let s := (s.modSource n (fun x => { x with pull := some v.toNat })).beginCapture n
    let s := s.setBit (Reg.INP_SRC_HOST_STAT n.val) 27 true
    s.emit (.tlp "MRd" (s.rd64 (Reg.INP_SRC_HOST_ADDR_LO n.val)) [])

/-- R263: HOST_PULL_POST. -/
def execHostPullPost (n : Fin 16) (cmdId : Word) (s : State) : Host.Outcome State Fault Refusal :=
  gate s.sender (fun s => s.pullPost n cmdId) s

/-- R263, R264, R273: a pull finishes with OK or FAULT; the bytes are the frame in its storage layout. A pull whose slot captures no more
is discarded (DESIGN CHOICE, log entry 67). -/
def State.pullDone (s : State) (n : Fin 16) (ok : Bool) (data : List Byte) : State :=
  match s.src[n].pull with
  | none => s
  | some cmdId =>
    let s := s.modSource n (fun x => { x with pull := none })
    if !s.captures n then (s.modSource n (fun x => { x with buf := none })).pullEnds n cmdId Code.DISCARDED
    else if ok then
      let bytes := data.take (frameBytes (s.srcLayout n) (s.srcPitch n) (s.srcHeight n))
      ((s.wrMem 4 (s.srcBuffer n s.src[n].writing) bytes).frameGood n).pullEnds n cmdId Code.OK
    else (s.abandonFrame n).pullEnds n cmdId Code.FAULT

/-- R263: HOST_PULL_DONE: a pull's last byte is in DRAM, or it has failed, perhaps by a poisoned completion (R688). -/
def execHostPullDone (n : Fin 16) (ok poisoned : Bool) (data : List Byte) (s : State) : Host.Outcome State Fault Refusal :=
  gate s.sender
    (fun s =>
      let s := if poisoned && s.src[n].pull.isSome then s.inc Reg.PCI_POISON_RX else s
      s.pullDone n (ok && !poisoned) data) s

/-- R263, R273, R278, R279: the frame in capture and the pull of one slot, of a kind, are abandoned. -/
def State.abandonCapture (s : State) (n : Fin 16) (kind : Nat) : State :=
  let x := s.src[n]
  let inCapture := s.captures n && (decide (kind ≤ 1) || x.packets.ts.isSome || x.pull.isSome)
  let s := if inCapture then s.abandonFrame n else s
  let s := s.modSource n (fun x => { x with pull := none, packets := Packets.none, buf := none })
  match x.pull with
  | some id => s.pullEnds n id Code.DISCARDED
  | none => s

/-- R279: one slot is reset. -/
def State.resetSource (s : State) (n : Fin 16) : State :=
  let s := s.abandonCapture n (s.srcKind n)
  if s.srcState n = Src.running then
    (s.setSrc n Src.acquiring 7).modSource n (fun x => { x with heldOver := true, good := 0 })
  else s

/-- R279: INP_RESET. -/
def execInpReset (s : State) : Host.Outcome State Fault Refusal :=
  gate s.sender (fun s => srcSlots.foldl (fun s n => s.resetSource n) s) s

/-! ### The tick (R251, R267, R268, R270, R271, R275 to R278) -/

/-- R278: the shadowed registers of a slot whose change disturbs capture; of CTL, all but the policy fields. -/
def State.srcShape (s : State) (n : Fin 16) : List Nat :=
  putBits (s.rdA (Reg.INP_SRC_CTL n.val)).toNat 23 10 0 ::
    ([Reg.INP_SRC_FMT n.val, Reg.INP_SRC_SIZE n.val, Reg.INP_SRC_BUF_LO n.val, Reg.INP_SRC_BUF_HI n.val,
      Reg.INP_SRC_PITCH n.val, Reg.INP_SRC_BUF_STRIDE n.val, Reg.INP_SRC_NET_DST n.val, Reg.INP_SRC_NET_SRC n.val,
      Reg.INP_SRC_NET_PORT n.val].map (fun r => (s.rdA r).toNat))

/-- R284: a slot is off or parked: it presents nothing, by its loss policy or otherwise. -/
def State.stopSource (s : State) (n : Fin 16) (state cause : Nat) : State :=
  (s.setSrc n state cause).setBit (Reg.INP_SRC_STATUS n.val) 24 false

/-- R251, R267, R278: a slot takes up what admission decided at a commit; `old` is the state before the commit. -/
def State.slotCommit (s old : State) (n : Fin 16) (a : Admit) : State :=
  let changed := old.srcShape n != s.srcShape n
  let s := if changed then
      (s.abandonCapture n (old.srcKind n)).modSource n (fun x => { Source.off with seq := x.seq, overrun := x.overrun })
    else s
  let was := old.srcState n
  match a with
  | .off => s.stopSource n Src.off 0
  | .invalid => s.stopSource n Src.off 6
  | .parked => if was = Src.parked && !changed then s else (s.stopSource n Src.parked 5).raise Ev.budgetPark n.val 1 []
  | .admitted =>
    if changed || was = Src.off || was = Src.parked then
      (s.setSrc n Src.acquiring 0).modSource n (fun x => { x with good := 0, lastAt := s.tmb.tclk, packets := Packets.none })
    else s

/-- R251, R261, R267, R268: what a commit does to INP. -/
def State.inpCommit (s old : State) : State :=
  let a := s.admission
  let s := srcSlots.foldl (fun s n => s.slotCommit old n (a.out.getD n.val .off)) s
  let parked := ((List.range 16).map (fun i => if a.out.getD i .off = .parked then 2 ^ i else 0)).sum
  let s := (s.wrN Reg.INP_PARKED parked).wrN Reg.INP_BUDGET_ACTIVE (budgetUnits a.total)
  let streams := (List.range 16).foldl
    (fun (acc : State × Nat) m =>
      let c := Reg.INP_AUD_CTL m
      let ch := acc.1.fldA c 21 16 + 1
      let on := acc.1.bitA c 31
      let beyond := on && decide (256 < acc.2 + ch)
      let s := (acc.1.setBit (Reg.INP_AUD_STATUS m) 30 beyond)
      (if on && !beyond then s else s.setBit (Reg.INP_AUD_STATUS m) 31 false, if on && !beyond then acc.2 + ch else acc.2)) (s, 0)
  streams.1

/-- R270, R271: a running source's selection at a tick: its newest complete frame, where its completion stamp is not past the tick. -/
def State.selectFrame (s : State) (n : Fin 16) : State :=
  let x := s.src[n]
  let tick := s.rd64 Reg.TMB_TICK_LO / 2 ^ 16 % 2 ^ 48
  let fresh := x.newest.isSome && decide (diff48 x.newestAt tick ≤ 0) && decide (x.from_ ≤ x.newestSeq) && (x.held == none || x.newestSeq != x.heldSeq)
  let s := s.setBit (Reg.INP_SRC_STATUS n.val) 24 false
  let s :=
    if fresh then
      let s := if 1 < x.since then s.inc (Reg.INP_SRC_DROP n.val) (x.since - 1) else s
      s.modSource n (fun x => { x with held := x.newest, heldSeq := x.newestSeq })
    else if x.held.isSome then s.inc (Reg.INP_SRC_REPEAT n.val)
    else s
  let s := s.modSource n (fun x => { x with
    since := 0, overrun := false, pres := match x.held with | some k => .frame n.val k | none => .fill n.val })
  (s.wrN (Reg.INP_SRC_SEL_SEQ n.val) s.src[n].heldSeq).showSel n

/-- R275, R277: the presentation of a slot by its loss policy. -/
def State.policyTick (s : State) (n : Fin 16) : State :=
  let x := s.src[n]
  let policy := s.fldA (Reg.INP_SRC_CTL n.val) 23 22
  let lost := s.srcState n != Src.acquiring || x.heldOver
  let s := s.setBit (Reg.INP_SRC_STATUS n.val) 24 (!x.heldOver)
  let hold := policy == 0 && lost && x.held.isSome
  let s := if hold || x.heldOver then s.inc (Reg.INP_SRC_REPEAT n.val) else s
  let pres : Pres :=
    if (hold || x.heldOver) && x.held.isSome then .frame n.val (x.held.getD 0)
    else if policy = 2 then .absent
    else .fill n.val
  (s.modSource n (fun x => { x with since := 0, overrun := false, pres := pres })).showSel n

/-- R275: a source presented by its substitute takes the substitute's selection. -/
def State.substituteTick (s : State) (n : Fin 16) : State :=
  let m := Fin.ofNat 16 (s.fldA (Reg.INP_SRC_CTL n.val) 13 10)
  let byPolicy := decide (1 ≤ s.srcState n) && decide (s.srcState n ≤ 3) && s.bit (Reg.INP_SRC_STATUS n.val) 24 && s.fldA (Reg.INP_SRC_CTL n.val) 23 22 == 3
  if byPolicy && m != n && s.srcState m == Src.running && !s.bit (Reg.INP_SRC_STATUS m.val) 24 then
    s.modSource n (fun x => { x with pres := s.src[m].pres })
  else s

/-- R266 to R278: INP at a tick. -/
def State.inpTick (s : State) : State :=
  let s := srcSlots.foldl
    (fun s n =>
      if s.srcState n = Src.off ∨ s.srcState n = Src.parked then s.modSource n (fun x => { x with pres := .absent })
      else if s.srcState n = Src.running ∧ s.bit Reg.INP_CTL 0 ∧
          (s.src[n].held.isSome ∨ (s.src[n].newest.isSome ∧ s.src[n].from_ ≤ s.src[n].newestSeq)) then s.selectFrame n
      else s.policyTick n) s
  srcSlots.foldl (fun s n => s.substituteTick n) s

end Sys2Proof.Machine
end

