-- ==== Sys2Proof/Machine/CmpPixel.lean ====
section
/-!
DEFINITION. The compositor's pixel arithmetic: unpacking, chroma upsampling, colour conversion, rotation, scaling and blending
(chapter 07, R290 to R308).
-/

namespace Sys2Proof.Machine

/-- R290: three 12-bit components and a 12-bit alpha. -/
structure Px where
  c0 : Nat
  c1 : Nat
  c2 : Nat
  a : Nat
  deriving DecidableEq, Repr

/-! ### Rectangles -/

/-- A rectangle of a register pair: x [31:16] and y [15:0]; width_m1 [31:16] and height_m1 [15:0]. -/
def rectOf (xy wh : Nat) : Rect :=
  { x := bits xy 31 16, y := bits xy 15 0, w := bits wh 31 16 + 1, h := bits wh 15 0 + 1 }

/-- The pixel lies in the rectangle. -/
def Rect.has (r : Rect) (x y : Nat) : Bool :=
  decide (r.x ≤ x) && decide (x < r.x + r.w) && decide (r.y ≤ y) && decide (y < r.y + r.h)

/-- The part of a rectangle that lies in another. -/
def Rect.cut (a b : Rect) : Rect :=
  let x := max a.x b.x
  let y := max a.y b.y
  { x := x, y := y, w := min (a.x + a.w) (b.x + b.w) - x, h := min (a.y + a.h) (b.y + b.h) - y }

/-- The number of pixels of a rectangle. -/
def Rect.area (r : Rect) : Nat := r.w * r.h

/-- R22: the rectangle lies within a canvas of `w` by `h` pixels. -/
def Rect.within (r : Rect) (w h : Nat) : Bool := decide (r.x + r.w ≤ w) && decide (r.y + r.h ≤ h)

/-- The pixels of a rectangle, in raster order. -/
def Rect.pixels (r : Rect) : List (Nat × Nat) :=
  (List.range r.h).flatMap (fun j => (List.range r.w).map (fun i => (r.x + i, r.y + j)))

/-- R61: the canvas size in the active set. -/
def State.canvasW (s : State) : Nat := s.fldA Reg.GLB_CANVAS_SIZE 15 0 + 1
def State.canvasH (s : State) : Nat := s.fldA Reg.GLB_CANVAS_SIZE 31 16 + 1

/-! ### A layer's picture -/

/-- What a layer reads: a picture in memory, or one constant value (R286, R275). -/
inductive Picture where
  | memory (layout base pitch height : Nat)
  | constant (p : Px)
  deriving DecidableEq, Repr

/-- R294: a layer's colour matrix and offsets. -/
structure Matrix where
  m : List (List Int)
  inOff : List Int
  outOff : List Int
  deriving DecidableEq, Repr

/-- A layer as it is composed: its number, picture, crop and destination, rotation, filter, alpha source, colour conversion, LUT
bank (R295) and limited layer alpha (R304). -/
structure Layer where
  n : Nat
  pic : Picture
  crop : Rect
  dst : Rect
  rotate : Nat
  bilinear : Bool
  alphaSrc : Nat
  matrix : Option Matrix
  lut : Option Nat
  la : Nat
  deriving DecidableEq, Repr

/-- R313: bytes of a layer's memory; zeros where a fetch of this canvas returned an uncorrectable error. -/
def State.fetch (s : State) (layer a n : Nat) : List Byte :=
  (List.range n).map (fun i =>
    if s.cmp.zeroed.any (fun z => z.1 == layer && decide (z.2.1 ≤ a + i) && decide (a + i < z.2.1 + z.2.2)) then 0
    else s.memByte (a + i))

/-- R290: bits [11:0] of a stored word of a layer. -/
def State.fetchWord (s : State) (layer a : Nat) : Nat := leNat (s.fetch layer a 2) % 2 ^ 12

/-- R293: the vertically interpolated chroma word (0 Cb, 1 Cr) of pair `k` for line `y` of the crop. -/
def State.chromaV (s : State) (layer layout base pitch height : Nat) (crop : Rect) (y k which : Nat) : Nat :=
  let plane := base + pitch * height
  let at_ := fun (line : Nat) => s.fetchWord layer (plane + pitch * line + 4 * (crop.x / 2 + k) + 2 * which)
  if layout = 0 then at_ (crop.y + y)
  else
    let jmax := (crop.h + 1) / 2 - 1
    let j := y / 2
    let n := if y % 2 = 0 then j - 1 else min (j + 1) jmax
    (3 * at_ (crop.y / 2 + j) + at_ (crop.y / 2 + n) + 2) / 4

/-- R293: the chroma sample of pixel (x, y) of the crop. -/
def State.chroma (s : State) (layer layout base pitch height : Nat) (crop : Rect) (x y which : Nat) : Nat :=
  let kmax := (crop.w + 1) / 2 - 1
  let k := x / 2
  let c := fun (k : Nat) => s.chromaV layer layout base pitch height crop y k which
  if x % 2 = 0 then c k else (c k + c (min (k + 1) kmax) + 1) / 2

/-- R290: an 8-bit component at 12 bits. -/
def widen8 (c : Nat) : Nat := (c * 16) ||| (c / 16)

/-- R290, R293: pixel (x, y) of a layer's crop, in the source orientation. -/
def State.cropPixel (s : State) (l : Layer) (x y : Nat) : Px :=
  match l.pic with
  | .constant p => p
  | .memory layout base pitch height =>
    let cx := l.crop.x + x
    let cy := l.crop.y + y
    let row := base + pitch * cy
    if layout ≤ 1 then
      { c0 := s.fetchWord l.n (row + 2 * cx), c1 := s.chroma l.n layout base pitch height l.crop x y 0,
        c2 := s.chroma l.n layout base pitch height l.crop x y 1, a := 4095 }
    else if layout = 2 then
      { c0 := s.fetchWord l.n (row + 8 * cx), c1 := s.fetchWord l.n (row + 8 * cx + 2),
        c2 := s.fetchWord l.n (row + 8 * cx + 4), a := s.fetchWord l.n (row + 8 * cx + 6) }
    else
      let b := fun (i : Nat) => widen8 (leNat (s.fetch l.n (row + 4 * cx + i) 1))
      { c0 := b 0, c1 := b 1, c2 := b 2, a := b 3 }

/-! ### Colour conversion (R294, R295) -/

/-- R294: one converted component. -/
def convert1 (row : List Int) (inOff : List Int) (outOff : Int) (c : List Nat) : Nat :=
  let sum := ((List.range 3).map (fun i => row.getD i 0 * ((c.getD i 0 : Int) + inOff.getD i 0))).sum
  (clampI 0 4095 (asr (sum + 2048) 12 + outOff)).toNat

/-- R294: the colour matrix. -/
def Matrix.apply (m : Matrix) (p : Px) : Px :=
  let c := [p.c0, p.c1, p.c2]
  { c0 := convert1 (m.m.getD 0 []) m.inOff (m.outOff.getD 0 0) c,
    c1 := convert1 (m.m.getD 1 []) m.inOff (m.outOff.getD 1 0) c,
    c2 := convert1 (m.m.getD 2 []) m.inOff (m.outOff.getD 2 0) c, a := p.a }

/-- R332: entry `i` of component table `j` of LUT bank `b`, in the active set. -/
def State.lutEntry (s : State) (b j i : Nat) : Nat :=
  let o := 0xA4000 + 0x6000 * b + 0x2000 * j + 4 * (i / 2)
  if i % 2 = 0 then s.fldA o 11 0 else s.fldA o 27 16

/-- R291, R294, R295: a pixel of the crop after colour conversion and LUT; without per-pixel alpha its alpha is 4,095. -/
def State.sourcePixel (s : State) (l : Layer) (x y : Nat) : Px :=
  let p := s.cropPixel l x y
  let p := match l.matrix with
    | some m => m.apply p
    | none => p
  let p := match l.lut with
    | some b => { p with c0 := s.lutEntry b 0 p.c0, c1 := s.lutEntry b 1 p.c1, c2 := s.lutEntry b 2 p.c2 }
    | none => p
  if l.alphaSrc = 0 then { p with a := 4095 } else p

/-! ### Rotation and scaling (R297, R298) -/

/-- R297: the size of the rotated picture. -/
def Layer.rotW (l : Layer) : Nat := if l.rotate % 2 = 0 then l.crop.w else l.crop.h
def Layer.rotH (l : Layer) : Nat := if l.rotate % 2 = 0 then l.crop.h else l.crop.w

/-- R297: pixel (u, v) of the rotated picture. -/
def State.rotPixel (s : State) (l : Layer) (u v : Nat) : Px :=
  if l.rotate = 0 then s.sourcePixel l u v
  else if l.rotate = 1 then s.sourcePixel l v (l.crop.h - 1 - u)
  else if l.rotate = 2 then s.sourcePixel l (l.crop.w - 1 - u) (l.crop.h - 1 - v)
  else s.sourcePixel l (l.crop.w - 1 - v) u

/-- R298: the step of a pass of input size `n` and output size `d`. -/
def scaleStep (n d : Nat) : Nat := n * 65536 / d

/-- R298: the 16.16 position of output sample `i`. -/
def scalePos (n d i : Nat) : Nat :=
  let step := scaleStep n d
  (clampI 0 (((n - 1) * 65536 : Nat) : Int) ((i * step + step / 2 : Nat) - 32768)).toNat

/-- R298: two pixels mixed with weight `f` of 256 on the second. -/
def Px.mix (p q : Px) (f : Nat) : Px :=
  let m := fun (a b : Nat) => (a * (256 - f) + b * f + 128) / 256
  { c0 := m p.c0 q.c0, c1 := m p.c1 q.c1, c2 := m p.c2 q.c2, a := m p.a q.a }

/-- R298: one pass: output sample `i` of a line of `n` pixels read by `px`. -/
def scalePass (bilinear : Bool) (n d i : Nat) (px : Nat → Px) : Px :=
  let p := scalePos n d i
  if bilinear then (px (p / 65536)).mix (px (min (p / 65536 + 1) (n - 1))) (p / 256 % 256)
  else px ((p + 32768) / 65536)

/-- R298: scaled sample (i, j) of a layer: horizontally first, then vertically. -/
def State.scaledSample (s : State) (l : Layer) (i j : Nat) : Px :=
  match l.pic with
  | .constant _ => s.sourcePixel l 0 0
  | .memory _ _ _ _ =>
    scalePass l.bilinear l.rotH l.dst.h j
      (fun v => scalePass l.bilinear l.rotW l.dst.w i (fun u => s.rotPixel l u v))

/-! ### Blending (R305 to R308) -/

/-- A function of each component's sample and accumulator. -/
def Acc.zip (acc : Acc) (f : Nat → Nat → Nat) (p : Px) : Acc :=
  { c0 := f p.c0 acc.c0, c1 := f p.c1 acc.c1, c2 := f p.c2 acc.c2 }

/-- R306: the exact blend of one component. -/
def blendExact1 (la v acc : Nat) : Nat := (v * 16 * la + acc * (256 - la) + 128) / 256

/-- R307: the effective alpha of wide mode. -/
def effAlpha (la a12 : Nat) : Nat := ((a12 + a12 / 2048) * la + 128) / 256

/-- R307: the wide blend of one component. -/
def blendWide1 (alphaSrc la ea v acc : Nat) : Nat :=
  let t := if alphaSrc = 2 then (v * 256 * la + 128) / 256 else (v * 256 * ea + 2048) / 4096
  min 1048320 (t + (acc * (4096 - ea) + 2048) / 4096)

/-- R306, R307: a layer's sample is blended. -/
def blend (exact : Bool) (l : Layer) (p : Px) (acc : Acc) : Acc :=
  if exact then acc.zip (blendExact1 l.la) p
  else acc.zip (blendWide1 l.alphaSrc l.la (effAlpha l.la p.a)) p

/-- R305: the pixel of the accumulator. -/
def finish (exact : Bool) (acc : Nat) : Nat :=
  if exact then min 4095 ((acc + 8) / 16) else min 4095 ((acc + 128) / 256)

/-- R305: the accumulator of the background alone. -/
def Acc.start (exact : Bool) (bg : Acc) : Acc :=
  let k := if exact then 16 else 256
  { c0 := bg.c0 * k, c1 := bg.c1 * k, c2 := bg.c2 * k }

/-- R305: the layers that are composed, in ascending order, blended at a canvas pixel onto an accumulator. -/
def State.blendOver (s : State) (exact : Bool) (ls : List Layer) (x y : Nat) (acc : Acc) : Acc :=
  ls.foldl (fun acc l => if l.dst.has x y then blend exact l (s.scaledSample l (x - l.dst.x) (y - l.dst.y)) acc else acc) acc

/-- R305: the canvas pixel of an accumulator. -/
def Acc.pixel (exact : Bool) (acc : Acc) : Acc :=
  { c0 := finish exact acc.c0, c1 := finish exact acc.c1, c2 := finish exact acc.c2 }

/-- R305: one canvas pixel over a background. -/
def State.composePixel (s : State) (exact : Bool) (bg : Acc) (ls : List Layer) (x y : Nat) : Acc :=
  (s.blendOver exact ls x y (Acc.start exact bg)).pixel exact

end Sys2Proof.Machine
end

