-- ==== Sys2Proof/Machine/Cmp.lean ====
section
/-!
DEFINITION. The compositor: layers, zones, canvases, coverage and the Loaf cache (chapter 07, R285 to R289, R296 to R304,
R309 to R334).
-/

namespace Sys2Proof.Machine

/-- R328, R605: the event sources of CMP. -/
abbrev Ev.canvasAbandoned : Nat := 256
abbrev Ev.layerInvalid : Nat := 257
abbrev Ev.zoneFallback : Nat := 258
abbrev Ev.cmpFetchError : Nat := 259
abbrev Ev.loafDone : Nat := 260
abbrev Ev.loafEcc : Nat := 261

/-- R334: the states of a layer. -/
abbrev Lay.disabled : Nat := 0
abbrev Lay.composed : Nat := 1
abbrev Lay.invalid : Nat := 2
abbrev Lay.transparent : Nat := 3

/-! ### Layers in the active set -/

/-- R331: a field of a layer's active control register. -/
def State.layCtl (s : State) (n hi lo : Nat) : Nat := s.fldA (Reg.CMP_LAYER_CTL n) hi lo

/-- R330: the rectangles of a layer. -/
def State.layCrop (s : State) (n : Nat) : Rect :=
  rectOf (s.rdA (Reg.CMP_LAYER_SRC_XY n)).toNat (s.rdA (Reg.CMP_LAYER_SRC_WH n)).toNat
def State.layDst (s : State) (n : Nat) : Rect :=
  rectOf (s.rdA (Reg.CMP_LAYER_DST_XY n)).toNat (s.rdA (Reg.CMP_LAYER_DST_WH n)).toNat

/-- R304: the limited layer alpha. -/
def State.layAlpha (s : State) (n : Nat) : Nat := min 256 (s.fldA (Reg.CMP_LAYER_ALPHA n) 15 0)

/-- R286: the INP slot of a layer. -/
def State.laySlot (s : State) (n : Nat) : Fin 16 := Fin.ofNat 16 (s.layCtl n 28 25)

/-- R286, R330: a layer's layout: that of its slot, or its surface's. -/
def State.layLayout (s : State) (n : Nat) : Nat :=
  if s.layCtl n 30 29 = 0 then s.srcLayout (s.laySlot n) else s.fldA (Reg.CMP_LAYER_FMT n) 25 24

/-- R296: the size of a layer's source. -/
def State.laySize (s : State) (n : Nat) : Nat × Nat :=
  if s.layCtl n 30 29 = 0 then (s.srcWidth (s.laySlot n), s.srcHeight (s.laySlot n))
  else (s.fldA (Reg.CMP_LAYER_SURF_SIZE n) 31 16 + 1, s.fldA (Reg.CMP_LAYER_SURF_SIZE n) 15 0 + 1)

/-- R297: the rotated size of a layer's crop. -/
def State.layRot (s : State) (n : Nat) : Nat × Nat :=
  let c := s.layCrop n
  if s.layCtl n 23 22 % 2 = 0 then (c.w, c.h) else (c.h, c.w)

/-- R288, R291, R292, R295, R296, R299, R300, R331: why a layer is invalid: the first cause that holds, in the order
reserved value, surface, crop, alignment, alpha, ratio, destination; 0 where it is valid (log entry 20). -/
def State.layCause (s : State) (n : Nat) : Nat :=
  let kind := s.layCtl n 30 29
  let alpha := s.layCtl n 20 19
  let layout := s.layLayout n
  let c := s.layCrop n
  let d := s.layDst n
  let sz := s.laySize n
  let rot := s.layRot n
  let pitch := (s.rdA (Reg.CMP_LAYER_SURF_PITCH n)).toNat
  if kind = 3 ∨ alpha = 3 ∨ s.layCtl n 17 16 = 3 then 6
  else if kind = 1 ∧ (s.addrA (Reg.CMP_LAYER_SURF_LO n) % 4096 ≠ 0 ∨ pitch % 64 ≠ 0 ∨ pitch < lineBytes layout sz.1) then 7
  else if kind ≠ 2 ∧ !c.within sz.1 sz.2 then 1
  else if kind ≠ 2 ∧ ((layout ≤ 1 ∧ c.x % 2 ≠ 0) ∨ (layout = 1 ∧ c.y % 2 ≠ 0)) then 5
  else if alpha ≠ 0 ∧ kind ≠ 2 ∧ layout ≠ 3 ∧ !(layout = 2 ∧ kind = 1) then 4
  else if kind ≠ 2 ∧ (4 * d.w < rot.1 ∨ 64 * rot.1 < d.w ∨ 4 * d.h < rot.2 ∨ 64 * rot.2 < d.h) then 3
  else if !d.within s.canvasW s.canvasH then 2
  else 0

/-- R287: a layer without a picture in this interval. -/
def State.layTransparent (s : State) (n : Nat) : Bool := s.layCtl n 30 29 == 0 && s.src[s.laySlot n].pres == .absent

/-- R334: the state of a layer. -/
def State.layState (s : State) (n : Nat) : Nat :=
  if s.layCtl n 31 31 = 0 then Lay.disabled
  else if s.layCause n ≠ 0 then Lay.invalid
  else if s.layTransparent n then Lay.transparent
  else Lay.composed

/-- R316: a layer is opaque in the interval. -/
def State.layOpaque (s : State) (n : Nat) : Bool :=
  s.layState n == Lay.composed && s.layCtl n 20 19 == 0 && s.layAlpha n == 256

/-- R319: a layer may be in the static base: disabled layers do not interrupt it. -/
def State.layStatic (s : State) (n : Nat) : Bool :=
  s.layCtl n 24 24 == 1 && (s.layCtl n 30 29 == 1 || s.layCtl n 30 29 == 2)

/-- The layer numbers. -/
def layerNos : List Nat := List.range 64

/-- R319: the layers of the static base. -/
def State.staticBase (s : State) : List Nat :=
  (layerNos.filter (fun n => s.layCtl n 31 31 == 1)).takeWhile s.layStatic

/-- R294, R330: a layer's colour matrix. -/
def State.layMatrix (s : State) (n : Nat) : Matrix :=
  let f := fun (o hi lo : Nat) => sx (hi + 1 - lo) (s.fldA o hi lo)
  { m := [[f (Reg.CMP_LAYER_CSC_M00_01 n) 31 16, f (Reg.CMP_LAYER_CSC_M00_01 n) 15 0, f (Reg.CMP_LAYER_CSC_M02_10 n) 31 16],
          [f (Reg.CMP_LAYER_CSC_M02_10 n) 15 0, f (Reg.CMP_LAYER_CSC_M11_12 n) 31 16, f (Reg.CMP_LAYER_CSC_M11_12 n) 15 0],
          [f (Reg.CMP_LAYER_CSC_M20_21 n) 31 16, f (Reg.CMP_LAYER_CSC_M20_21 n) 15 0, f (Reg.CMP_LAYER_CSC_M22 n) 15 0]],
    inOff := [f (Reg.CMP_LAYER_CSC_IN01 n) 29 16, f (Reg.CMP_LAYER_CSC_IN01 n) 13 0, f (Reg.CMP_LAYER_CSC_IN2_OUT0 n) 29 16],
    outOff := [f (Reg.CMP_LAYER_CSC_IN2_OUT0 n) 13 0, f (Reg.CMP_LAYER_CSC_OUT12 n) 29 16, f (Reg.CMP_LAYER_CSC_OUT12 n) 13 0] }

/-- R275, R281: the constant picture of a slot's fill value. -/
def State.fillPx (s : State) (m : Nat) : Px :=
  let f := Reg.INP_SRC_FILL m
  { c0 := s.fldA f 29 20 * 4, c1 := s.fldA f 19 10 * 4, c2 := s.fldA f 9 0 * 4, a := 4095 }

/-- R275, R286, R288: what a layer reads in this interval. -/
def State.layPicture (s : State) (n : Nat) : Picture :=
  let kind := s.layCtl n 30 29
  if kind = 0 then
    match s.src[s.laySlot n].pres with
    | .frame m k =>
      let m := Fin.ofNat 16 m
      .memory (s.srcLayout m) (s.srcBuffer m k) (s.srcPitch m) (s.srcHeight m)
    | .fill m => .constant (s.fillPx m)
    | .absent => .constant { c0 := 0, c1 := 0, c2 := 0, a := 0 }
  else if kind = 1 then
    .memory (s.layLayout n) (s.addrA (Reg.CMP_LAYER_SURF_LO n)) (s.rdA (Reg.CMP_LAYER_SURF_PITCH n)).toNat (s.laySize n).2
  else .constant { c0 := s.fldA (Reg.CMP_LAYER_CONST_RG n) 27 16, c1 := s.fldA (Reg.CMP_LAYER_CONST_RG n) 11 0,
                   c2 := s.fldA (Reg.CMP_LAYER_CONST_BA n) 27 16, a := s.fldA (Reg.CMP_LAYER_CONST_BA n) 11 0 }

/-- R286 to R304: a layer as it is composed. -/
def State.layer (s : State) (n : Nat) : Layer :=
  { n := n, pic := s.layPicture n, crop := s.layCrop n, dst := s.layDst n, rotate := s.layCtl n 23 22,
    bilinear := s.layCtl n 21 21 == 1, alphaSrc := s.layCtl n 20 19,
    matrix := if s.layCtl n 18 18 = 1 then some (s.layMatrix n) else none,
    lut := if s.layCtl n 17 16 = 0 then none else some (s.layCtl n 17 16 - 1), la := s.layAlpha n }

/-- R305: the layers composed in the interval, in ascending order. -/
def State.composed (s : State) : List Layer := (layerNos.filter (fun n => s.layState n == Lay.composed)).map s.layer

/-! ### The window and the zones -/

/-- R309: the composition window, as far as it lies in the canvas. -/
def State.window (s : State) : Rect :=
  (rectOf (s.rdA Reg.CMP_WINDOW_XY).toNat (s.rdA Reg.CMP_WINDOW_WH).toNat).cut { x := 0, y := 0, w := s.canvasW, h := s.canvasH }

/-- R310: the canvas buffers break their rules. -/
def State.badBuf (s : State) : Bool :=
  let pitch := (s.rdA Reg.CMP_CANVAS_PITCH).toNat
  pitch % 64 != 0 || decide (pitch < 6 * s.window.w) || s.addrA Reg.CMP_CANVAS_BUF0_LO % 4096 != 0 ||
    s.addrA Reg.CMP_CANVAS_BUF1_LO % 4096 != 0

/-- R301: the rectangle of a zone. -/
def State.zoneRect (s : State) (z : Nat) : Rect :=
  rectOf (s.rdA (Reg.CMP_ZONE_XY z)).toNat (s.rdA (Reg.CMP_ZONE_WH z)).toNat

/-- R301: a zone that is enabled and lies within the canvas. -/
def State.zoneOn (s : State) (z : Nat) : Bool :=
  s.fldA (Reg.CMP_ZONE_CTL z) 31 31 == 1 && (s.zoneRect z).within s.canvasW s.canvasH

/-- R302: the layers that contribute to a zone: decided from the active set, regardless of source state. -/
def State.contributors (s : State) (z : Nat) : List Nat :=
  layerNos.filter (fun n =>
    s.layCtl n 31 31 == 1 && s.layCause n == 0 && s.layAlpha n != 0 &&
      decide (0 < (((s.layDst n).cut s.window).cut (s.zoneRect z)).area))

/-- R303: why an exact zone falls back: 1 more than 8 layers, 2 per-pixel alpha, 0 not at all. -/
def State.zoneFall (s : State) (z : Nat) : Nat :=
  if !s.zoneOn z ∨ s.fldA (Reg.CMP_ZONE_CTL z) 0 0 = 1 then 0
  else if 8 < (s.contributors z).length then 1
  else if (s.contributors z).any (fun n => s.layCtl n 20 19 != 0) then 2
  else 0

/-- R301, R303: the mode of a pixel is exact. -/
def State.exactAt (s : State) (x y : Nat) : Bool :=
  match layerNos.find? (fun z => s.zoneOn z && (s.zoneRect z).has x y) with
  | some z => s.fldA (Reg.CMP_ZONE_CTL z) 0 0 == 0 && s.zoneFall z == 0
  | none => s.fldA Reg.CMP_CTL 2 2 == 0

/-- R285: the background colour. -/
def State.background (s : State) : Acc :=
  { c0 := s.fldA Reg.CMP_BG_RG 27 16, c1 := s.fldA Reg.CMP_BG_RG 11 0, c2 := s.fldA Reg.CMP_BG_B 11 0 }

/-- R319, R320, R322: the accumulator that the Loaf holds for a pixel, in an entry that may be used. -/
def State.loafAt (s : State) (x y : Nat) : Option Acc :=
  match s.cmp.loaf.entries.find? (fun e => s.cmp.loaf.use.contains e.tile && e.rect.has x y) with
  | some e => e.accs[(y - e.rect.y) * e.rect.w + (x - e.rect.x)]?
  | none => none

/-- R305, R319, R320: one canvas pixel: the layers above the static base over what the Loaf holds, or all over the background. -/
def State.canvasColour (s : State) (ls : List Layer) (x y : Nat) : Acc :=
  let exact := s.exactAt x y
  match s.loafAt x y with
  | some acc => (s.blendOver exact (ls.filter (fun l => !s.staticBase.contains l.n)) x y acc).pixel exact
  | none => s.composePixel exact s.background ls x y

/-- R310: one canvas pixel as stored. -/
def State.canvasPixel (s : State) (ls : List Layer) (x y : Nat) : List Byte :=
  let p := s.canvasColour ls x y
  leBytes 2 p.c0 ++ leBytes 2 p.c1 ++ leBytes 2 p.c2

/-- R310: the buffer of number `k`. -/
def State.canvasBuf (s : State) (k : Nat) : Nat :=
  if k = 0 then s.addrA Reg.CMP_CANVAS_BUF0_LO else s.addrA Reg.CMP_CANVAS_BUF1_LO

/-- R305, R309, R310: the canvas is written to a buffer. -/
def State.writeCanvas (s : State) (c : Canvas) : State :=
  let ls := s.composed
  (List.range c.win.h).foldl
    (fun t j => t.wrMem 6 (c.addr + j * c.pitch)
      ((List.range c.win.w).flatMap (fun i => s.canvasPixel ls (c.win.x + i) (c.win.y + j)))) s

/-! ### Coverage and cost (R314 to R318) -/

/-- R317: a pixel of layer `n` is covered by an opaque layer above it. -/
def State.coveredAt (s : State) (n x y : Nat) : Bool :=
  s.window.has x y && layerNos.any (fun m => decide (n < m) && s.layOpaque m && (s.layDst m).has x y)

/-- R317: cov_stop. -/
def State.covStop (s : State) : Bool := s.fldA Reg.CMP_CTL 1 1 == 1

/-- R317: the pixels of a rectangle that a layer skips. -/
def State.skippedIn (s : State) (n : Nat) (r : Rect) : Nat :=
  if !s.covStop then 0
  else if s.layAlpha n = 0 then r.area
  else (r.pixels.filter (fun p => s.coveredAt n p.1 p.2)).length

/-- R314: the compositor tiles of the window: 64 by 16 pixels aligned in canvas coordinates, cut to the window. -/
def State.cmpTiles (s : State) : List Rect :=
  let w := s.window
  let rows := (List.range ((w.y + w.h + 15) / 16)).filter (fun j => decide (w.y < 16 * j + 16))
  let cols := (List.range ((w.x + w.w + 63) / 64)).filter (fun i => decide (w.x < 64 * i + 64))
  rows.flatMap (fun j => cols.map (fun i => { x := 64 * i, y := 16 * j, w := 64, h := 16 : Rect }.cut w))

/-- R321: the tiles that the static base needs, in raster order. -/
def State.loafTiles (s : State) : List Rect :=
  s.cmpTiles.filter (fun t => s.staticBase.any (fun n => decide (0 < ((s.layDst n).cut t).area)))

/-- R314: the passes of a tile; a Loaf hit replaces those of the static base by one. -/
def State.passes (s : State) (t : Rect) : Nat :=
  let busy := layerNos.filter (fun n =>
    s.layState n == Lay.composed &&
      (let r := (s.layDst n).cut t
       decide (s.skippedIn n r < r.area)))
  let hit := (s.loafTiles.zipIdx.find? (fun x => x.1 == t && s.cmp.loaf.use.contains x.2)).isSome
  let base := s.staticBase
  if hit then 1 + (busy.filter (fun n => !base.contains n)).length else 1 + busy.length

/-- R595: the cycles that the compositor waits before each tile while the die throttle comparator is asserted. -/
def State.cmpQuantum (s : State) : Nat := if s.bit Reg.HKP_STATE 1 then s.fldA Reg.HKP_THROTTLE 15 0 else 0

/-- R314, R595: the cycles of a canvas, without what other waits add. -/
def State.canvasCycles (s : State) : Nat := (s.cmpTiles.map (fun t => 4 + 64 * s.passes t + s.cmpQuantum)).sum

/-- R317: the layer-pixels skipped in a canvas. -/
def State.skippedPixels (s : State) : Nat :=
  ((layerNos.filter (fun n => s.layState n == Lay.composed)).map (fun n => s.skippedIn n ((s.layDst n).cut s.window))).sum

/-- R315: CMP_CYCLES_LAST and CMP_CYCLES_PEAK. -/
def State.showCycles (s : State) (c : Nat) : State :=
  let c := min 0xFFFFFFFF c
  (s.wrN Reg.CMP_CYCLES_LAST c).wrN Reg.CMP_CYCLES_PEAK (max (s.rd Reg.CMP_CYCLES_PEAK).toNat c)

/-! ### The canvas (R311 to R313, R322) -/

/-- The state with the Loaf's books changed. -/
def State.modLoaf (s : State) (f : Loaf → Loaf) : State := s.modCmp (fun x => { x with loaf := f x.loaf })

/-- R321: how many tiles the Loaf is to hold. -/
def Loaf.goal (l : Loaf) : Nat := min l.needed l.cap

/-- R320: the Loaf holds the entry of a tile. -/
def Loaf.has (l : Loaf) (tile : Nat) : Bool := l.entries.any (fun e => e.tile == tile)

/-- R322: the tiles of the next `k` entries that the engine writes, in raster order. -/
def Loaf.nextTiles (l : Loaf) (k : Nat) : List Nat := ((List.range l.goal).filter (fun i => !l.has i)).take k

/-- R320: the entry of a tile: the background and the static base as they stand. -/
def State.flatten (s : State) (tile : Nat) : LoafEntry :=
  let r := s.loafTiles.getD tile { x := 0, y := 0, w := 0, h := 0 }
  let s := s.modCmp (fun g => { g with zeroed := [] })
  let ls := s.composed.filter (fun l => s.staticBase.contains l.n)
  { tile := tile, rect := r, accs := r.pixels.map (fun p =>
      s.blendOver (s.exactAt p.1 p.2) ls p.1 p.2 (Acc.start (s.exactAt p.1 p.2) s.background)) }

/-- R322: the engine writes `k` entries. -/
def State.loafFill (s : State) (k : Nat) : State :=
  s.modLoaf (fun l => { l with entries := l.entries ++ (l.nextTiles k).map s.flatten })

/-- R305 to R322: the canvas in progress completes: `lost` cycles of waits, and `entries` Loaf entries that the engine writes
before the next tick (log entry 21). -/
def State.canvasDone (s : State) (lost entries : Nat) : State :=
  let buf := s.fld Reg.CMP_STATUS 29 29
  let c : Canvas := { addr := s.canvasBuf buf, pitch := (s.rdA Reg.CMP_CANVAS_PITCH).toNat, win := s.window }
  let cycles := s.canvasCycles + lost
  let skipped := s.skippedPixels
  let s := s.writeCanvas c
  let s := (s.setBit Reg.CMP_STATUS 31 true).setBit Reg.CMP_STATUS 30 false
  let s := (s.showCycles cycles).wrN Reg.CMP_COV_SKIPPED (min 0xFFFFFFFF skipped)
  let s := s.wrN Reg.CMP_LAST_FRAME s.cmp.frame
  let l := s.cmp.loaf
  let s := if l.begun && s.bitA Reg.CMP_LOAF_CTL 31 then s.inc Reg.CMP_LOAF_MISS (l.needed - l.cap) else s
  (s.modCmp (fun g => { g with done := true, latest := some c })).loafFill entries

/-- R311: CANVAS_COMPLETE. -/
def execCanvasComplete (lost entries : Nat) (s : State) : Host.Outcome State Fault Refusal :=
  gate (s.sender && s.bit Reg.CMP_STATUS 30) (fun s => s.canvasDone lost entries) s

/-- R313: CMP_FETCH_ERROR: a fetch of a layer returns uncorrectable. -/
def execCmpFetchError (layer : Fin 64) (addr len : Nat) (s : State) : Host.Outcome State Fault Refusal :=
  gate (s.sender && s.bit Reg.CMP_STATUS 30)
    (fun s =>
      let s := s.modCmp (fun g => { g with zeroed := (layer.val, addr, len) :: s.cmp.zeroed })
      (s.inc Reg.CMP_FETCH_ERR).raise Ev.cmpFetchError noInst 0 [(4, layer.val), (8, addr)]) s

/-- R326: LOAF_ECC_ERROR: the entry of a needed tile, by its place in raster order, reads uncorrectable. -/
def execLoafEccError (tile : Nat) (s : State) : Host.Outcome State Fault Refusal :=
  gate (s.sender && s.cmp.loaf.has tile)
    (fun s =>
      let s := s.modLoaf (fun l => { l with entries := l.entries.filter (fun e => e.tile != tile), use := l.use.filter (· != tile) })
      (s.inc Reg.CMP_LOAF_ECC).raise Ev.loafEcc noInst 0 []) s

/-- R26, R312: the canvas in progress is abandoned whole, after `cycles` cycles. -/
def State.abandonCanvas (s : State) (cycles : Nat) : State :=
  let s := ((s.inc Reg.CMP_ABANDONED).overrun 1).showCycles cycles
  let s := s.setBit Reg.CMP_STATUS 30 false
  s.raise Ev.canvasAbandoned noInst 1 [(4, s.cmp.frame), (4, (s.rd Reg.CMP_CYCLES_LAST).toNat)]

/-- R315: 800 MHz cycles per frame period. -/
def State.cycleBudget (s : State) : Nat := period9 s.rateNow * 4 / 45

/-- R327: CMP_RESET: the canvas in progress is abandoned after the cycles since the tick, and the Loaf invalidated. -/
def execCmpReset (s : State) : Host.Outcome State Fault Refusal :=
  gate s.sender
    (fun s =>
      let used := ((s.cycleBudget : Int) + s.sinceNextTick * 4 / (45 * 2 ^ 16)).toNat
      let s := if s.bit Reg.CMP_STATUS 30 then (s.abandonCanvas used).modCmp (fun g => { g with dropped := true }) else s
      s.modLoaf (fun l => { l with entries := [], use := [], restart := true })) s

/-! ### The tick -/

/-- R298, R319, R328, R334: a layer's registers at a tick; `committed` that the active set has just changed. -/
def State.layTick (s : State) (committed : Bool) (n : Nat) : State :=
  let st := s.layState n
  let cause := if st = Lay.invalid then s.layCause n else 0
  let before := s.fld (Reg.CMP_LAYER_STATUS n) 31 25
  let ignored := s.layCtl n 24 24 == 1 && s.layCtl n 30 29 == 0
  let steps := s.layCtl n 30 29 != 2 && s.layCause n == 0
  let s' := s.wrN (Reg.CMP_LAYER_STATUS n)
    (st * 2 ^ 29 + cause * 2 ^ 25 + b2n (s.staticBase.contains n) * 2 ^ 24 + b2n ignored * 2 ^ 23 + b2n (s.layOpaque n) * 2 ^ 22)
  let s' := s'.wrN (Reg.CMP_LAYER_STEP_X n) (if steps then scaleStep (s.layRot n).1 (s.layDst n).w else 0)
  let s' := s'.wrN (Reg.CMP_LAYER_STEP_Y n) (if steps then scaleStep (s.layRot n).2 (s.layDst n).h else 0)
  if committed && st == Lay.invalid && before != st * 16 + cause then s'.raise Ev.layerInvalid n 1 [(1, cause)] else s'

/-- R301 to R303: a zone's registers at a tick; `committed` that the active set has just changed by a commit, which raises the event. -/
def State.zoneTick (s : State) (committed : Bool) (z : Nat) : State :=
  let fall := s.zoneFall z
  let r := if z < 32 then Reg.CMP_FALLBACK_LO else Reg.CMP_FALLBACK_HI
  let before := s.bit r (z % 32)
  let cause := if !(s.zoneRect z).within s.canvasW s.canvasH then 3 else fall
  let layers := if s.zoneOn z then (s.contributors z).length else 0
  let s := s.wrN (Reg.CMP_ZONE_STATUS z) (b2n (fall != 0) * 2 ^ 31 + cause * 2 ^ 29 + layers)
  let s := s.setBit r (z % 32) (fall != 0)
  if committed && before != (fall != 0) then s.raise Ev.zoneFallback z 1 [] else s

/-- R323: what the Loaf depends on, in the active set: the base and its layers, the background, the zones, the window, the LUT
banks of the base, and CMP_LOAF_CTL; the extent of the base with the layers of it that are composed, a zone with the mode that it acts
in, and the window as the canvas cuts it (DEDUCED, log entry 21). -/
def State.loafKey (s old : State) : List Nat :=
  let base := s.staticBase ++ old.staticBase
  let regs := fun (n : Nat) => (List.range 22).map (fun k => 0xA1000 + 0x80 * n + 4 * k)
  let banks := (base.filterMap (fun n => if s.layCtl n 17 16 = 0 then none else some (s.layCtl n 17 16 - 1))).eraseDups
  let luts := banks.flatMap (fun b => (List.range 6144).map (fun k => 0xA4000 + 0x6000 * b + 4 * k))
  let zones := layerNos.flatMap (fun z => [Reg.CMP_ZONE_XY z, Reg.CMP_ZONE_WH z, Reg.CMP_ZONE_CTL z])
  s.staticBase ++ base.map s.layState ++ layerNos.map (fun z => b2n (s.zoneOn z) * 2 + b2n (s.zoneFall z != 0)) ++
    [s.window.x, s.window.y, s.window.w, s.window.h] ++
    ([Reg.CMP_BG_RG, Reg.CMP_BG_B, Reg.CMP_WINDOW_XY, Reg.CMP_WINDOW_WH, Reg.CMP_LOAF_CTL] ++ base.flatMap regs ++ zones ++
      luts).map (fun r => (s.rdA r).toNat)

/-- R320: the entries that the Loaf can hold. -/
def State.loafCap (s : State) : Nat :=
  if s.fldA Reg.CMP_LOAF_CTL 31 31 = 1 then min 32 (s.fldA Reg.CMP_LOAF_CTL 5 0) * 128 else 0

/-- R323, R325, R327: a new flattening replaces the one before. -/
def State.loafStart (s : State) (tag : Nat) : State :=
  s.modLoaf (fun _ => { entries := [], use := [], needed := s.loafTiles.length, cap := s.loafCap, tag := tag, begun := true, told := false, restart := false })

/-- R322, R325: the Loaf's books at a tick. -/
def State.loafTick (s : State) : State :=
  let l := s.cmp.loaf
  let goal := l.goal
  let valid := l.entries.length
  let done := goal ≤ valid
  let old := s.fld Reg.CMP_LOAF_STATUS 15 8
  let changed := s.fld Reg.CMP_LOAF_TILES 15 0 != valid
  let s := s.wrN Reg.CMP_LOAF_TILES (min 0xFFFF l.needed * 2 ^ 16 + valid)
  let s := s.wrN Reg.CMP_LOAF_STATUS (statusWord (if done then Phase.done else Phase.running) 0 true
    (if goal = 0 then 100 else valid * 100 / goal) (if changed then old + 1 else old) l.tag)
  let s := s.modLoaf (fun l => { l with use := l.entries.map (fun e => e.tile), told := done })
  if done && !l.told then s.raise Ev.loafDone noInst 1 [] else s

/-- R311, R312: a canvas starts after the tick of frame `f`. -/
def State.canvasStart (s : State) (f : Nat) : State :=
  if s.fldA Reg.CMP_CTL 0 0 = 1 ∧ !s.badBuf then
    let s := (s.setFld Reg.CMP_STATUS 29 29 (1 - s.fld Reg.CMP_STATUS 28 28)).setBit Reg.CMP_STATUS 30 true
    s.modCmp (fun g => { g with frame := (f + 2) % 2 ^ 32, zeroed := [] })
  else s

/-- R311, R312: the canvas of the interval that ends: read by scan-out from now on, or abandoned. -/
def State.canvasEnd (s : State) : State :=
  let s := s.modCmp (fun g => { g with repeated := s.bit Reg.CMP_STATUS 30 || g.dropped, dropped := false })
  if s.bit Reg.CMP_STATUS 30 then s.abandonCanvas s.cycleBudget
  else if s.cmp.done then
    let s := s.setFld Reg.CMP_STATUS 28 28 (s.fld Reg.CMP_STATUS 29 29)
    s.modCmp (fun g => { g with done := false, scan := s.cmp.latest })
  else s

/-- R312, R318, R323, R327, R334: CMP at the tick that begins frame `f`, after the commit and INP's selection. `old` is the state
before the commit, and `tag` the identifier of a commit just applied. -/
def State.cmpTick (s old : State) (f : Nat) (tag : Option Nat) : State :=
  let s := layerNos.foldl (fun s n => s.layTick tag.isSome n) s
  let s := layerNos.foldl (fun s z => s.zoneTick tag.isSome z) s
  let s := s.setBit Reg.CMP_STATUS 27 s.badBuf
  let s := s.wrN Reg.CMP_CYCLES_BUDGET s.cycleBudget
  let l := s.cmp.loaf
  let due := if l.begun then l.restart || (tag.isSome && s.loafKey old != old.loafKey s) else s.fldA Reg.CMP_CTL 0 0 == 1
  let s := if due then s.loafStart ((tag.getD l.tag) % 256) else s
  let s := if s.cmp.loaf.begun then s.loafTick else s
  s.canvasStart f

end Sys2Proof.Machine
end

