-- ==== Sys2Proof/Machine/Scn.lean ====
section
/-!
DEFINITION. Scan-out to chains and monitor, and the sender's watch regions (chapter 08, R335 to R356; the digest of R229).
-/

namespace Sys2Proof.Machine

/-- R360, R605: the event sources of SCN. -/
abbrev Ev.regionPark : Nat := 288
abbrev Ev.portDiscard : Nat := 289
abbrev Ev.watchMismatch : Nat := 290
abbrev Ev.monUnderflow : Nat := 291
abbrev Ev.tileWatch : Nat := 292
abbrev Ev.trailerMissing : Nat := 293

/-! ### Regions and watch regions in the active set -/

/-- R361, R363: fields of a region. -/
def State.regRect (s : State) (r : Nat) : Rect := rectOf (s.rdA (Reg.SCN_REG_XY r)).toNat (s.rdA (Reg.SCN_REG_WH r)).toNat
def State.regPort (s : State) (r : Nat) : Port := portOf (s.fldA (Reg.SCN_REG_CTL r) 13 12)

/-- R338: n_d and n_s of a region. -/
def State.dataSheaves (s : State) (r : Nat) : Nat := ceilDiv (s.regRect r).area 896
def State.sheavesOf (s : State) (r : Nat) : Nat := s.dataSheaves r + 2

/-- R336: why a region is invalid; 0 where it is valid. -/
def State.regCause (s : State) (r : Nat) : Nat :=
  let k := s.kind (s.regPort r)
  if !(s.regRect r).within s.canvasW s.canvasH then 1
  else if 1048576 < (s.regRect r).area then 2
  else if k ≠ 1 ∧ k ≠ 2 then 3
  else 0

/-- R353: the rectangle of a watch region, and whether it is valid. -/
def State.watchRect (s : State) (w : Nat) : Rect := rectOf (s.rdA (Reg.SCN_WR_XY w)).toNat (s.rdA (Reg.SCN_WR_WH w)).toNat
def State.watchRegion (s : State) (w : Nat) : Nat := s.fldA (Reg.SCN_WR_CTL w) 7 0
def State.watchValid (s : State) (w : Nat) : Bool :=
  let a := s.watchRect w
  let b := s.regRect (s.watchRegion w)
  s.bitA (Reg.SCN_WR_CTL w) 31 && decide (b.x ≤ a.x) && decide (b.y ≤ a.y) && decide (a.x + a.w ≤ b.x + b.w) &&
    decide (a.y + a.h ≤ b.y + b.h)

/-- R353: the watch regions of a region, ascending. -/
def State.watchesOf (s : State) (r : Nat) : List Nat :=
  (List.range 64).filter (fun w => s.watchValid w && s.watchRegion w == r)

/-- R339, R340, R341: payload lengths. -/
def dataLen (count : Nat) : Nat := 16 + ceilDiv (9 * count) 2
def headerLen (watches : Nat) : Nat := 16 + 16 * watches
def trailerLen (watches : Nat) : Nat := 8 + 8 * watches

/-- R337: the units of a sheaf. -/
def sheafUnits (len : Nat) : Nat := 2 + ceilDiv len 16

/-- R337: the load of a region. -/
def State.regLoad (s : State) (r : Nat) : Nat :=
  let px := (s.regRect r).area
  let nd := s.dataSheaves r
  let wc := (s.watchesOf r).length
  sheafUnits (headerLen wc) + (nd - 1) * sheafUnits (dataLen 896) + sheafUnits (dataLen (px - (nd - 1) * 896)) +
    sheafUnits (trailerLen wc)

/-- R362: the transport guard in µs, and VC0's share in sixteenths. -/
def State.guardUs (s : State) : Nat := max 1 (s.fldA Reg.SCN_CTL 31 16)
def State.vc0Share (s : State) : Nat := max 1 (s.fldA Reg.SCN_CTL 11 8)

/-- R337: a port's allowance in units per frame. -/
def State.allowance (s : State) : Nat :=
  (period9 s.rateNow / 9 - s.guardUs * 1000) * s.vc0Share * 7163 / 131072

/-- R337: the units of a ring port's digest. -/
def State.digestUnits (s : State) (p : Port) : Nat := if s.kind p = 2 then 20 else 0

/-- R337: admission of the regions of a port: the admitted regions and their total. -/
def State.admitRegions (s : State) (p : Port) : List Nat × Nat :=
  let extra := s.digestUnits p
  (List.range 256).foldl
    (fun acc r =>
      if s.bitA (Reg.SCN_REG_CTL r) 31 && s.regCause r == 0 && s.regPort r == p &&
          decide (acc.2 + s.regLoad r + extra ≤ s.allowance) then (acc.1 ++ [r], acc.2 + s.regLoad r)
      else acc) ([], 0)

/-- R336, R337, R361: the status and load of a region after a commit. -/
def State.regionCommit (s : State) (admitted : List Nat) (r : Nat) : State :=
  let on := s.bitA (Reg.SCN_REG_CTL r) 31
  let cause := s.regCause r
  let was := s.fld (Reg.SCN_REG_STATUS r) 31 29
  let ok := on && cause == 0
  let in_ := admitted.contains r
  let state := if !on then 0 else if cause ≠ 0 then 3 else if in_ then 1 else 2
  let c := if !on then 0 else if cause ≠ 0 then cause else if in_ then 0 else 4
  let s' := s.wrN (Reg.SCN_REG_STATUS r) (state * 2 ^ 29 + c * 2 ^ 25 + (if ok then s.sheavesOf r else 0))
  let s' := s'.wrN (Reg.SCN_REG_LOAD r) (if ok then s.regLoad r else 0)
  if state = 2 ∧ was ≠ 2 then s'.raise Ev.regionPark r 1 [] else s'

/-- R345: the line buffers are below their minimum. -/
def State.lbUnsafe (s : State) : Bool :=
  let ports := ports.any (fun p =>
    let n := p.val
    let depth := clampN 16 256 (s.fldA (Reg.SCN_PORT_LB n) 24 16)
    let wm := clampN 16 256 (s.fldA (Reg.SCN_PORT_LB n) 8 0)
    (s.kind p == 1 || s.kind p == 2) && (decide (wm < 64) || decide (depth < 80) || decide (depth < wm + 16)))
  let fmt := s.fldA Reg.SCN_MON_CTL 27 24
  let depth := clampN 4 64 (s.fldA Reg.SCN_MON_CTL 14 8)
  let wm := s.fldA Reg.SCN_MON_CTL 6 0
  let minWm := if 13 ≤ fmt then 16 else if 10 ≤ fmt then 8 else 4
  ports || (fmt != 0 && (decide (wm < minWm) || decide (depth < minWm + 16) || decide (depth < wm + 16)))

/-! ### Monitor (R348 to R352) -/

/-- R348: width, height and rate code of a monitor format. -/
def monRaster (fmt : Nat) : Nat × Nat × Nat :=
  let size := if fmt ≤ 3 then (1280, 720) else if fmt ≤ 9 then (1920, 1080) else (3840, 2160)
  let rate := match fmt with
    | 1 => 7
    | 2 => 8
    | 3 => 9
    | 4 => 2
    | 5 => 3
    | 6 => 4
    | 7 => 7
    | 8 => 8
    | 9 => 9
    | 10 => 2
    | 11 => 3
    | 12 => 4
    | 13 => 7
    | 14 => 8
    | _ => 9
  (size.1, size.2, rate)

/-- R348: 4:4:4 12-bit is available. -/
def mon444 (fmt : Nat) : Bool := (decide (4 ≤ fmt) && decide (fmt ≤ 6)) || (decide (10 ≤ fmt) && decide (fmt ≤ 12))

/-- R351: m where the wall rate is m times the monitor rate, m = 1, 2 or 4. -/
def State.monRatio (s : State) : Option Nat :=
  let mon := period9 (monRaster (s.fldA Reg.SCN_MON_CTL 27 24)).2.2
  [1, 2, 4].find? (fun m => mon == m * period9 s.rateNow)

/-- R348, R351: SCN_MON_STATUS. -/
def State.monStatus (s : State) : State :=
  let fmt := s.fldA Reg.SCN_MON_CTL 27 24
  let bad := s.bitA Reg.SCN_MON_CTL 23 && !mon444 fmt
  if fmt = 0 then s.wr Reg.SCN_MON_STATUS 0
  else s.wrN Reg.SCN_MON_STATUS
    (b2n s.monRatio.isSome * 2 ^ 31 + b2n (s.monRatio != some 1) * 2 ^ 30 + b2n bad * 2 ^ 29)

/-- R342: the fill pixel. -/
def State.scnFill (s : State) : Nat × Nat × Nat :=
  (s.fldA Reg.SCN_FILL_RG 27 16, s.fldA Reg.SCN_FILL_RG 11 0, s.fldA Reg.SCN_FILL_B 11 0)

/-- R310, R342: pixel (x, y) of a stored canvas; fill outside its window and where there is none. -/
def State.storedPixel (s : State) (c : Option Canvas) (x y : Nat) : Nat × Nat × Nat :=
  match c with
  | none => s.scnFill
  | some c =>
    if c.win.has x y then
      let a := c.addr + (y - c.win.y) * c.pitch + 6 * (x - c.win.x)
      (s.memLe a 2 % 2 ^ 12, s.memLe (a + 2) 2 % 2 ^ 12, s.memLe (a + 4) 2 % 2 ^ 12)
    else s.scnFill

/-- R349: the canvas pixel of output pixel (i, j): border, fill or the sampled pixel. -/
def State.monSource (s : State) (i j : Nat) : Nat × Nat × Nat :=
  let dx := s.fldA Reg.SCN_MON_DST_XY 31 16
  let dy := s.fldA Reg.SCN_MON_DST_XY 15 0
  let w := s.fldA Reg.SCN_MON_SRC_WH 31 16 + 1
  let h := s.fldA Reg.SCN_MON_SRC_WH 15 0 + 1
  let x := s.fldA Reg.SCN_MON_SRC_XY 31 16 + 2 ^ s.fldA Reg.SCN_MON_CTL 21 20 * (i - dx)
  let y := s.fldA Reg.SCN_MON_SRC_XY 15 0 + 2 ^ s.fldA Reg.SCN_MON_CTL 17 16 * (j - dy)
  if dx ≤ i ∧ i < dx + w ∧ dy ≤ j ∧ j < dy + h ∧ x < s.canvasW ∧ y < s.canvasH then s.storedPixel s.cmp.scan x y
  else (s.fldA Reg.SCN_MON_BORDER_RG 27 16, s.fldA Reg.SCN_MON_BORDER_RG 11 0, s.fldA Reg.SCN_MON_BORDER_B 11 0)

/-- R350, R361: the monitor's matrix. -/
def State.monMatrix (s : State) : Matrix :=
  let f := fun (o hi lo : Nat) => sx (hi + 1 - lo) (s.fldA o hi lo)
  { m := [[f Reg.SCN_MON_CSC_M00_01 31 16, f Reg.SCN_MON_CSC_M00_01 15 0, f Reg.SCN_MON_CSC_M02_10 31 16],
          [f Reg.SCN_MON_CSC_M02_10 15 0, f Reg.SCN_MON_CSC_M11_12 31 16, f Reg.SCN_MON_CSC_M11_12 15 0],
          [f Reg.SCN_MON_CSC_M20_21 31 16, f Reg.SCN_MON_CSC_M20_21 15 0, f Reg.SCN_MON_CSC_M22 15 0]],
    inOff := [f Reg.SCN_MON_CSC_IN01 29 16, f Reg.SCN_MON_CSC_IN01 13 0, f Reg.SCN_MON_CSC_IN2_OUT0 29 16],
    outOff := [f Reg.SCN_MON_CSC_IN2_OUT0 13 0, f Reg.SCN_MON_CSC_OUT12 29 16, f Reg.SCN_MON_CSC_OUT12 13 0] }

/-- R350: an output component of the two samplings. -/
def mon12 (v : Nat) : Nat := clampN 16 4079 v
def mon10 (v : Nat) : Nat := min 1019 (max 4 ((v + 2) / 4))

/-- R350, R352: one output pixel; from the empty point onward the source is fill. -/
def State.monPixel (s : State) (j : Nat) (emptyAt : Option Nat) (i : Nat) : Nat × Nat × Nat :=
  let src := fun (i : Nat) =>
    let c := if (match emptyAt with | some k => decide (k ≤ i) | none => false) then s.scnFill else s.monSource i j
    s.monMatrix.apply { c0 := c.1, c1 := c.2.1, c2 := c.2.2, a := 0 }
  if s.bitA Reg.SCN_MON_CTL 23 && mon444 (s.fldA Reg.SCN_MON_CTL 27 24) then
    (mon12 (src i).c0, mon12 (src i).c1, mon12 (src i).c2)
  else
    let e := src (i - i % 2)
    (mon10 (src i).c0, mon10 e.c1, mon10 e.c2)

/-- R349 to R352: MONITOR_LINE. -/
def execMonitorLine (line : Nat) (emptyAt : Option Nat) (s : State) : Host.Outcome State Fault Refusal :=
  gate (s.sender && s.fldA Reg.SCN_MON_CTL 27 24 != 0)
    (fun s =>
      let w := (monRaster (s.fldA Reg.SCN_MON_CTL 27 24)).1
      let s' := s.emit (.monLine line ((List.range w).map (s.monPixel line emptyAt)))
      if emptyAt.isNone then s'
      else
        let s' := s'.inc Reg.SCN_MON_UNDERFLOW
        if s'.scn.monRaised then s'
        else (s'.modScnAll (fun g => { g with monRaised := true })).raise Ev.monUnderflow noInst 0 []) s

/-- R351: MONITOR_FRAME_START: where the monitor is locked, a frame starts only at a tick whose number is a multiple of m. -/
def execMonitorFrameStart (s : State) : Host.Outcome State Fault Refusal :=
  gate (s.sender && s.fldA Reg.SCN_MON_CTL 27 24 != 0 &&
      (match s.monRatio with | some m => s.frame % m == 0 | none => true))
    (fun s => (s.modScnAll (fun g => { g with monRaised := false })).monStatus) s

/-! ### Signatures (R354 to R356) -/

/-- R354: the bytes of a pixel in a signature. -/
def pixelBytes (c : Nat × Nat × Nat) : List Byte := leBytes 2 c.1 ++ leBytes 2 c.2.1 ++ leBytes 2 c.2.2

/-- R354, R355: T0 of a watch region. -/
def State.sigT0 (s : State) (w : Nat) : Nat :=
  crc32c ((s.watchRect w).pixels.flatMap (fun p => pixelBytes (s.storedPixel s.scn.canvas p.1 p.2)))

/-- The signature T0 of a watch region for the frame in transport. -/
def State.sigOf (s : State) (w : Nat) : Option Nat := (s.scn.sigs.find? (fun x => x.1 == w)).map (fun x => x.2)

/-- R356: T0 of a watch region is published and compared, once in a frame. -/
def State.publishT0 (s : State) (w : Nat) : State :=
  let t0 := s.sigT0 w
  if (s.sigOf w).isSome then s else
  let s := (s.wrN (Reg.SCN_WR_SIG w) t0).wrN (Reg.SCN_WR_SIG_FRAME w) s.scn.frame
  let s := s.modScnAll (fun g => { g with sigs := (w, t0) :: s.scn.sigs.filter (fun x => x.1 != w) })
  if s.bitA (Reg.SCN_WR_CTL w) 30 && t0 != (s.rdA (Reg.SCN_WR_EXPECT w)).toNat then
    (s.inc (Reg.SCN_WR_MISMATCH w)).raise Ev.watchMismatch w 1 []
  else s

/-! ### Pixel sheaves (R338 to R344) -/

/-- R339: two pixels in 9 bytes, or one in 5. -/
def packPixels : List (Nat × Nat × Nat) → List Byte
  | [] => []
  | [a] => leBytes 5 (a.1 + a.2.1 * 2 ^ 12 + a.2.2 * 2 ^ 24)
  | a :: b :: t =>
    leBytes 9 (a.1 + a.2.1 * 2 ^ 12 + a.2.2 * 2 ^ 24 + b.1 * 2 ^ 36 + b.2.1 * 2 ^ 48 + b.2.2 * 2 ^ 60) ++ packPixels t

/-- R339: the payload of data sheaf `i` (from 1) of a region. -/
def State.dataPayload (s : State) (r i : Nat) : List Byte :=
  let a := s.regRect r
  let first := 896 * (i - 1)
  let count := min 896 (a.area - first)
  let px := (List.range count).map (fun k =>
    let n := first + k
    s.storedPixel s.scn.canvas (a.x + n % a.w) (a.y + n / a.w))
  leBytes 4 first ++ leBytes 2 count ++ zeros 10 ++ packPixels px

/-- R340: one watch entry of a region header. -/
def State.watchEntry (s : State) (r w : Nat) : List Byte :=
  let a := s.regRect r
  let b := s.watchRect w
  leBytes 1 w ++ leBytes 1 (s.fldA (Reg.SCN_WR_CTL w) 29 28 + b2n (s.bitA (Reg.SCN_WR_CTL w) 30) * 2 ^ 7) ++ zeros 2 ++
    leBytes 2 (b.x - a.x) ++ leBytes 2 (b.y - a.y) ++ leBytes 2 (b.w - 1) ++ leBytes 2 (b.h - 1) ++
    leBytes 4 (s.rdA (Reg.SCN_WR_EXPECT w)).toNat

/-- R340: the payload of a region header. -/
def State.headerPayload (s : State) (r : Nat) : List Byte :=
  let a := s.regRect r
  let tcs := s.fldA Reg.SCN_CTL 5 4
  let ws := s.watchesOf r
  leBytes 4 s.scn.frame ++ leBytes 2 (a.w - 1) ++ leBytes 2 (a.h - 1) ++ leBytes 2 a.x ++ leBytes 2 a.y ++
    leBytes 1 (if tcs = 3 then 0 else tcs) ++ leBytes 1 (b2n s.scn.canvas.isNone + 2 * b2n s.scn.repeated) ++
    leBytes 1 ws.length ++ zeros 1 ++ ws.flatMap (s.watchEntry r)

/-- R341: the payload of a trailer. -/
def State.trailerPayload (s : State) (r : Nat) : List Byte :=
  let ws := s.watchesOf r
  leBytes 4 s.scn.frame ++ leBytes 1 ws.length ++ zeros 3 ++
    ws.flatMap (fun w => leBytes 1 w ++ zeros 3 ++ leBytes 4 ((s.sigOf w).getD 0))

/-- R220, R338: sheaf `i` of a region. -/
def State.pixelSheaf (s : State) (r i : Nat) : Sheaf :=
  let ns := s.sheavesOf r
  let body := if i = 0 then s.headerPayload r else if i + 1 = ns then s.trailerPayload r else s.dataPayload r i
  { vc := 0, dir := false, first := false, last := false, retx := false, husk := false,
    seq := (s.scn.frame * ns + i) % 2 ^ 16, linkSeq := 0, dstQ := s.fldA (Reg.SCN_REG_CTL r) 9 0 * 64 + 0x10,
    srcQ := s.selfIdx * 64 + 0x10, frame := s.scn.frame, stream := r, index := i, hop := 0,
    epoch := s.epochFor (s.regPort r), crc := crc32c body, code := 0, payload := body }

/-- The state with what scan-out holds of a port changed. -/
def State.modScn (s : State) (p : Port) (f : ScnPort → ScnPort) : State :=
  s.modScnAll (fun x => { x with port := x.port.set p (f x.port[p]) })

/-- R343: the sheaf after sheaf `idx` of the first region. -/
def State.scnStep (s : State) (p : Port) : State :=
  s.modScn p (fun x =>
    match x.todo with
    | [] => x
    | r :: t => if x.idx + 1 < s.sheavesOf r then { x with idx := x.idx + 1 } else { x with todo := t, idx := 0 })

/-- R138: a VC0 sheaf of the device may start on the port now. -/
def State.pixelsGo (s : State) (p : Port) (h : Sheaf) : Bool :=
  s.mayStart p h && !s.slk[p].censusDue && (s.slk[p].txq.toArray.getD 0 []).isEmpty && (s.ready p 2).isNone &&
    (s.ready p 1).isNone && !((s.ready p 3).isSome && decide (max 1 (s.fld (Reg.SLK_ARB p.val) 7 0) ≤ s.slk[p].sinceBulk))

/-- R240: the sender is muted on the port. -/
def State.mutedOn (s : State) (p : Port) : Bool := s.kind p == 2 && s.bit (Reg.RED_P_STATE p.val) 29

/-- R229: the digest of the frame in transport leaves on a ring port. -/
def State.sendDigest (s : State) (p : Port) : State :=
  let s := s.modScn p (fun x => { x with digest := false })
  let d := s.scn.frame
  let own := (s.red.port[p].own.find? (fun x => x.frame == d)).getD { frame := d, vc0 := 0, vc1 := 0, sum0 := 0, sum1 := 0 }
  let valid := ((List.range 64).map (fun w => if (s.sigOf w).isSome then 2 ^ w else 0)).sum
  let body := leBytes 4 d ++ leBytes 4 (s.toldLease p).claim ++ leBytes 2 own.vc0 ++ leBytes 2 own.vc1 ++
    leBytes 4 own.sum0 ++ leBytes 4 own.sum1 ++ leBytes 8 valid ++ zeros 4 ++
    (List.range 64).flatMap (fun w => leBytes 4 ((s.sigOf w).getD 0))
  let h : Sheaf := { vc := 0, dir := false, first := false, last := false, retx := false, husk := false, seq := d % 2 ^ 16,
                     linkSeq := 0, dstQ := s.red.port[p].peerIdx * 64 + 0x2F, srcQ := s.selfIdx * 64 + 0x2F, frame := d,
                     stream := 0xFFFE, index := 0, hop := 0, epoch := s.epochFor p, crc := crc32c body, code := 0, payload := body }
  let s := s.modRed p (fun r => { r with sent := (d, body) :: r.sent.take 3, own := r.own.take 3 })
  s.offerStream p h

/-- R347: every admitted region of the frame has been fetched. -/
def State.allFetched (s : State) : Bool :=
  ports.all (fun p =>
    match s.scn.port[p].todo with
    | [] => true
    | [r] => decide (s.sheavesOf r ≤ s.scn.port[p].idx + 1)
    | _ => false)

/-- R343, R347, R361: the transport's end on every port. -/
def State.scnProgress (s : State) : State :=
  let s := if s.allFetched then s.setBit Reg.SCN_STATUS 30 true else s
  if s.scn.running && ports.all (fun p => s.scn.port[p].todo.isEmpty && !s.scn.port[p].digest) then
    (s.modScnAll (fun g => { g with running := false })).wrN Reg.SCN_LAST_FRAME s.scn.frame
  else s

/-- R338, R343, R344, R356: the next sheaf of a port starts; on a muted port it is only summed, and on a port that is not
ACTIVE it is discarded by R164. -/
def State.scnSheaf (s : State) (p : Port) : State :=
  match s.scn.port[p].todo with
  | [] => if s.scn.port[p].digest then (s.sendDigest p).scnProgress else s
  | r :: _ =>
    let i := s.scn.port[p].idx
    let s := if i = s.dataSheaves r then (s.watchesOf r).foldl (fun s w => s.publishT0 w) s else s
    let h := s.pixelSheaf r i
    if s.mutedOn p then (((s.digestAdd p h).scnStep p)).scnProgress
    else if !s.active p then ((s.inc (Reg.SLK_DROP_VC0 p.val)).scnStep p).scnProgress
    else if s.pixelsGo p h then
      let s := if s.kind p = 2 then s.digestAdd p h else s
      ((s.startSheaf p { sheaf := h, buffer := none } h h).scnStep p).scnProgress
    else s

/-- R344: SCN_SHEAF_START. -/
def execScnSheafStart (p : Port) (s : State) : Host.Outcome State Fault Refusal :=
  gate (s.sender && s.scn.running) (fun s => s.scnSheaf p) s

/-- R346: SCN_STARVE. -/
def execScnStarve (p : Port) (s : State) : Host.Outcome State Fault Refusal :=
  gate s.sender (fun s => s.inc (Reg.SCN_PORT_STARVE p.val)) s

/-- R338, R344: the sheaves of the frame not yet started on a port. -/
def State.unsent (s : State) (p : Port) : Nat := ((s.scn.port[p].todo.map s.sheavesOf).sum) - s.scn.port[p].idx

/-- R344: the guard at one port; `won` says that its next sheaf has won arbitration in this cycle and goes out as a husk. -/
def State.guardPort (s : State) (p : Port) (won : Bool) : State :=
  let n := s.unsent p
  let s :=
    match s.scn.port[p].todo with
    | [] => s
    | r :: _ =>
      let h := s.pixelSheaf r s.scn.port[p].idx
      if won && s.active p && s.pixelsGo p h && !s.mutedOn p then
        (s.startSheaf p { sheaf := h, buffer := none } h.toHusk h.toHusk).inc (Reg.SLK_HUSK_TX p.val)
      else s
  let s := s.modScn p (fun x => { x with todo := [], idx := 0 })
  let s := if n = 0 then s
    else ((s.inc (Reg.SCN_PORT_DISCARD p.val) n).raise Ev.portDiscard p.val 1 [(4, n)]).overrun 2
  if s.scn.port[p].digest then s.sendDigest p else s

/-- R344: TCLK cycles until tick D minus G. -/
def State.guardLeft (s : State) : Nat := s.cyclesToTick - s.guardUs * 800

/-- R344: SCN_TRANSPORT_GUARD: time runs to tick D minus G, and what is left of the frame is discarded. -/
def execScnTransportGuard (won : BitVec 4) (s : State) : Host.Outcome State Fault Refusal :=
  gate (s.sender && s.scn.running)
    (fun s => s.wait s.guardLeft (fun s => (ports.foldl (fun s p => s.guardPort p (won.getLsbD p.val)) s).scnProgress)) s

/-! ### The tick -/

/-- R353, R363: SCN_WRw_CTL.invalid, a read-only bit of a shadowed register, in both views. -/
def State.showInvalid (s : State) (w : Nat) (b : Bool) : State :=
  let r := Reg.SCN_WR_CTL w
  (s.setBit r 27 b).wrA r (BitVec.ofNat 32 (putBits (s.rdA r).toNat 27 27 (b2n b)))

/-- R337, R345, R353: what a commit does to SCN. -/
def State.scnCommit (s : State) : State :=
  let admitted := ports.flatMap (fun p => (s.admitRegions p).1)
  let s := ports.foldl (fun t p =>
    (t.wrN (Reg.SCN_PORT_LOAD p.val) ((s.admitRegions p).2 + s.digestUnits p)).wrN (Reg.SCN_PORT_ALLOW p.val) s.allowance) s
  let s := (List.range 256).foldl (fun s r => s.regionCommit admitted r) s
  let s := (List.range 64).foldl (fun s w => s.showInvalid w (!s.watchValid w)) s
  (s.setBit Reg.SCN_STATUS 29 s.lbUnsafe).monStatus

/-- R342, R343: at the tick that begins frame `f`, the transport of frame f + 1 starts; what is left of frame `f` is discarded
by R26. -/
def State.scnTick (s : State) (f : Nat) : State :=
  let s := if s.scn.running then (ports.foldl (fun s p => s.guardPort p false) s).scnProgress else s
  let s := s.setBit Reg.SCN_STATUS 30 false
  if s.fldA Reg.SCN_CTL 0 0 = 1 then
    let canvas := if s.bit Reg.CMP_STATUS 31 then s.cmp.scan else none
    let s := s.modScnAll (fun g => { g with
        frame := (f + 1) % 2 ^ 32, canvas := canvas, repeated := s.cmp.repeated, sigs := [], running := true })
    let s := ports.foldl (fun t p => t.modScn p (fun _ =>
      { todo := (s.admitRegions p).1, idx := 0, digest := s.kind p == 2 && s.bit Reg.RED_CTL 0 })) s
    (s.setBit Reg.SCN_STATUS 31 canvas.isNone).scnProgress
  else s.setBit Reg.SCN_STATUS 31 false

end Sys2Proof.Machine
end

