-- ==== Sys2Proof/Machine/CorPixel.lean ====
section
/-!
DEFINITION. The arithmetic of the tile correction pipeline: linearisation, matrix and gains, seam blending, interpolation and
dither (chapter 09, R365 to R388).
-/

namespace Sys2Proof.Machine

/-- R366, R367, R381: the geometry of the region in the active set: its size, margins, bands (left, right, top, bottom), panel
size and emitters per pixel. -/
structure Geo where
  w : Nat
  h : Nat
  ml : Nat
  mr : Nat
  mt : Nat
  mb : Nat
  bl : Nat
  br : Nat
  bt : Nat
  bb : Nat
  e : Nat
  deriving DecidableEq, Repr

def Geo.panelW (g : Geo) : Nat := g.w - g.ml - g.mr
def Geo.panelH (g : Geo) : Nat := g.h - g.mt - g.mb

/-- R366, R367, R397: the geometry in the active set. -/
def State.geo (s : State) : Geo :=
  let f := fun (o hi lo : Nat) => min 8 (s.fldA o hi lo)
  { w := s.fldA Reg.COR_REGION 31 16 + 1, h := s.fldA Reg.COR_REGION 15 0 + 1, ml := f Reg.COR_MARGIN 27 24,
    mr := f Reg.COR_MARGIN 19 16, mt := f Reg.COR_MARGIN 11 8, mb := f Reg.COR_MARGIN 3 0, bl := f Reg.COR_SEAM_BAND 27 24,
    br := f Reg.COR_SEAM_BAND 19 16, bt := f Reg.COR_SEAM_BAND 11 8, bb := f Reg.COR_SEAM_BAND 3 0,
    e := s.fldA Reg.COR_PANEL 1 0 + 1 }

/-- Three linear components. -/
abbrev Lin := Nat × Nat × Nat

/-! ### Linearisation -/

/-- R373: one component. -/
def State.linOne (s : State) (tcs c : Nat) : Nat :=
  match tcs with
  | 0 => s.fldA (Reg.COR_LIN_PQ c) 19 0
  | 1 => s.fldA (Reg.COR_LIN_HLG c) 19 0
  | _ => (c * 256) ||| (c / 16)

/-- R374: the OOTF step. -/
def State.ootf (s : State) (l : Lin) : Lin :=
  let ys := (1076 * l.1 + 2777 * l.2.1 + 243 * l.2.2 + 2048) / 2 ^ 12
  let g := s.fldA (Reg.COR_OOTF (ys / 2 ^ 8)) 15 0
  let f := fun (x : Nat) => min 1048575 ((x * g + 8192) / 2 ^ 14)
  (f l.1, f l.2.1, f l.2.2)

/-- R373, R374: a received pixel, R' in bits [11:0], G' in [23:12] and B' in [35:24]. -/
def State.linearise (s : State) (tcs v : Nat) : Lin :=
  let l := (s.linOne tcs (bits v 11 0), s.linOne tcs (bits v 23 12), s.linOne tcs (bits v 35 24))
  if tcs = 1 ∧ s.fldA Reg.COR_LIN_CTL 0 0 = 1 then s.ootf l else l

/-- R371: what the receive store holds at a raster index; 2^36 where no pixel has arrived. -/
def noPixel (_ : Nat) : Nat := 2 ^ 36
def State.rxPixel (s : State) (i : Nat) : Nat := sGet noPixel s.cor.px i
def State.arrived (s : State) (i : Nat) : Bool := decide (s.rxPixel i < 2 ^ 36)

/-- The linear value of region pixel (rx, ry). -/
def State.linAt (s : State) (g : Geo) (rx ry : Nat) : Lin := s.linearise s.cor.tcs (s.rxPixel (ry * g.w + rx))

/-! ### Matrix and gains -/

/-- R375: the address of a pixel's record in a set; `n` is y × panel_w + x. -/
def State.recordAt (s : State) (t n : Nat) : Nat := s.addrA (Reg.COR_TSET_BASE_LO t) + 24 * n

/-- R376: the gain of class `k` of a set. -/
def State.classGain (s : State) (t k : Nat) : Nat :=
  let o := if k < 2 then Reg.COR_TSET_GAIN01 t else Reg.COR_TSET_GAIN23 t
  if k % 2 = 1 then s.fldA o 31 16 else s.fldA o 15 0

/-- R375, R376: emitter `k` of a pixel with linear value `l`, by set `t`. -/
def State.matrixOut (s : State) (t n k : Nat) (l : Lin) : Nat :=
  let row := s.memLe (s.recordAt t n + 6 * k) 6
  let sum := sx 12 (bits row 11 0) * l.1 + sx 12 (bits row 23 12) * l.2.1 + sx 12 (bits row 35 24) * l.2.2
  let y := (clampI 0 1048575 (asr (sum + 512) 10 + 16 * sx 12 (bits row 47 36))).toNat
  min 1048575 ((y * s.classGain t k + 8192) / 2 ^ 14)

/-! ### Seam blending -/

/-- R379: the edges of which a pixel lies in the band: edge number in table order (0 top, 1 bottom, 2 left, 3 right), the position
along it, the depth, and the region pixel across the seam. -/
structure SeamHit where
  edge : Nat
  pos : Nat
  depth : Nat
  nx : Nat
  ny : Nat
  deriving DecidableEq, Repr

/-- R379, R380: the seam steps of panel pixel (x, y) in the order they are taken, left or right first. -/
def Geo.seams (g : Geo) (x y : Nat) : List SeamHit :=
  let rx := g.ml + x
  let ry := g.mt + y
  let right := g.panelW - 1 - x
  let bottom := g.panelH - 1 - y
  let hor := if x < g.bl then [{ edge := 2, pos := y, depth := x, nx := g.ml - 1 - x, ny := ry }]
    else if right < g.br then [{ edge := 3, pos := y, depth := right, nx := g.ml + g.panelW + right, ny := ry }] else []
  let ver := if y < g.bt then [{ edge := 0, pos := x, depth := y, nx := rx, ny := g.mt - 1 - y }]
    else if bottom < g.bb then [{ edge := 1, pos := x, depth := bottom, nx := rx, ny := g.mt + g.panelH + bottom }] else []
  hor ++ ver

/-- R381: the address of a seam entry. -/
def State.seamAt (s : State) (g : Geo) (h : SeamHit) : Nat :=
  let size := fun (edge : Nat) =>
    match edge with
    | 0 => g.panelW * g.bt
    | 1 => g.panelW * g.bb
    | 2 => g.panelH * g.bl
    | _ => g.panelH * g.br
  let band := match h.edge with
    | 0 => g.bt
    | 1 => g.bb
    | 2 => g.bl
    | _ => g.br
  s.addrA Reg.COR_SEAM_BASE_LO + 4 * (((List.range h.edge).map size).sum + h.pos * band + h.depth)

/-- R379: one seam step. -/
def State.seamStep (s : State) (g : Geo) (t n k y : Nat) (h : SeamHit) : Nat :=
  let ynb := s.matrixOut t n k (s.linAt g h.nx h.ny)
  let entry := s.memLe (s.seamAt g h) 4
  let k8 := bits entry 23 16
  min 1048575 ((((y * (256 - k8) + ynb * k8 + 128) / 2 ^ 8) * bits entry 15 0 + 8192) / 2 ^ 14)

/-- R376, R379, R380: emitter `k` of panel pixel (x, y) by set `t`. -/
def State.setOut (s : State) (g : Geo) (t x y k : Nat) : Nat :=
  let n := y * g.panelW + x
  (g.seams x y).foldl (fun v h => s.seamStep g t n k v h) (s.matrixOut t n k (s.linAt g (g.ml + x) (g.mt + y)))

/-! ### Interpolation and dither -/

/-- R384, R386: the two sets and the weight in force, as COR_TEMP_STATUS shows them. -/
def State.setA (s : State) : Nat := s.fld Reg.COR_TEMP_STATUS 30 28
def State.setB (s : State) : Nat := s.fld Reg.COR_TEMP_STATUS 27 25
def State.setW (s : State) : Nat := s.fld Reg.COR_TEMP_STATUS 23 16

/-- R386: the blended result of emitter `k`. -/
def State.blended (s : State) (g : Geo) (x y k : Nat) : Nat :=
  let a := s.setOut g s.setA x y k
  if s.setW = 0 then a else (a * (256 - s.setW) + s.setOut g s.setB x y k * s.setW + 128) / 2 ^ 8

/-- R387: the Bayer pattern. -/
def bayer (y x : Nat) : Nat :=
  match y % 4, x % 4 with
  | 0, 0 => 0
  | 0, 1 => 8
  | 0, 2 => 2
  | 0, _ => 10
  | 1, 0 => 12
  | 1, 1 => 4
  | 1, 2 => 14
  | 1, _ => 6
  | 2, 0 => 3
  | 2, 1 => 11
  | 2, 2 => 1
  | 2, _ => 9
  | _, 0 => 15
  | _, 1 => 7
  | _, 2 => 13
  | _, _ => 5

/-- R387: the grey level of a result. -/
def greyOf (dither : Bool) (d x y k v : Nat) : Nat :=
  let t := if dither then (bayer y x + 5 * (d % 16) + 4 * k) % 16 else 8
  min 65535 ((v + t) / 2 ^ 4)

/-- R378: the table words that a panel pixel's correction reads include one that was uncorrectable. -/
def State.tableBad (s : State) (g : Geo) (x y : Nat) : Bool :=
  let n := y * g.panelW + x
  let hits := fun (a len : Nat) (z : Option (Fin 8) × Nat × Nat) => decide (z.2.1 < a + len) && decide (a < z.2.1 + z.2.2)
  s.cor.zeroed.any (fun z =>
    match z.1 with
    | some t => (t.val == s.setA || (t.val == s.setB && s.setW != 0)) && hits (s.recordAt t.val n) 24 z
    | none => (g.seams x y).any (fun h => hits (s.seamAt g h) 4 z))

/-- R365 to R388: the grey levels of the emitters of panel pixel (x, y) in display frame `d`. -/
def State.pixelGreys (s : State) (g : Geo) (d x y : Nat) : List Nat :=
  (List.range g.e).map (fun k =>
    if s.tableBad g x y then 0 else greyOf (s.bitA Reg.COR_CTL 1) d x y k (s.blended g x y k))

/-- R371: the pixel and every pixel that its seam steps read have arrived. -/
def State.pixelReady (s : State) (g : Geo) (x y : Nat) : Bool :=
  s.arrived ((g.mt + y) * g.w + g.ml + x) && (g.seams x y).all (fun h => s.arrived (h.ny * g.w + h.nx))

end Sys2Proof.Machine
end

