-- ==== Sys2Proof/Machine/Cor.lean ====
section
/-!
DEFINITION. Tile reception, correction, the frame store, temperature sets and the tile's watch checks (chapter 09, R365 to R398;
chapter 08, R357 to R359).
-/

namespace Sys2Proof.Machine

/-- R396, R605: the event sources of COR. -/
abbrev Ev.regionIncomplete : Nat := 320
abbrev Ev.headerMismatch : Nat := 321
abbrev Ev.tableError : Nat := 322
abbrev Ev.corConfig : Nat := 323
abbrev Ev.setConflict : Nat := 324
abbrev Ev.tempDefault : Nat := 325

/-- R391: the buffer on the glass, and the one that is written. -/
def State.dispBuf (s : State) : Fin 2 := if s.bit Reg.COR_STATUS 31 then 1 else 0
def State.writeBuf (s : State) : Fin 2 := if s.bit Reg.COR_STATUS 31 then 0 else 1

/-- The state with a frame-store buffer changed. -/
def State.modBuf (s : State) (b : Fin 2) (f : FrameBuf → FrameBuf) : State :=
  s.modCor (fun c => { c with buf := c.buf.set b (f c.buf[b]) })

/-- R392: the failed bit of a buffer. -/
def State.bufFailed (s : State) (b : Fin 2) : Bool := s.bit Reg.COR_STATUS (29 + b.val)
def State.setBufFailed (s : State) (b : Fin 2) (v : Bool) : State := s.setBit Reg.COR_STATUS (29 + b.val) v

/-! ### Temperature sets (R377, R383 to R385) -/

/-- R377: the sets that COR_TSET_CTL admits, and those of them whose base is aligned. -/
def State.tsetOn (s : State) (t : Nat) : Bool := s.bitA Reg.COR_TSET_CTL t || s.fldA Reg.COR_TSET_CTL 10 8 == t
def State.tsetAligned (s : State) (t : Nat) : Bool := s.addrA (Reg.COR_TSET_BASE_LO t) % 4096 == 0
def State.tag (s : State) (t : Nat) : Int := sx 16 (s.fldA (Reg.COR_TSET_TAG t) 15 0)

/-- The sets that are on and aligned, ascending. -/
def State.goodSets (s : State) : List Nat := (List.range 8).filter (fun t => s.tsetOn t && s.tsetAligned t)

/-- R383: set `t` is shut out by a lower-numbered set with the same tag. -/
def State.shadowedSet (s : State) (t : Nat) : Bool := s.goodSets.any (fun u => decide (u < t) && s.tag u == s.tag t)

/-- A set put into a list that rises by tag. -/
def State.insertSet (s : State) (t : Nat) : List Nat → List Nat
  | [] => [t]
  | u :: r => if s.tag t < s.tag u then t :: u :: r else u :: s.insertSet t r

/-- R383: the usable sets s_0 to s_(n−1), by ascending tag. -/
def State.usableSets (s : State) : List Nat :=
  (s.goodSets.filter (fun t => !s.shadowedSet t)).foldl (fun l t => s.insertSet t l) []

/-- R383: two usable sets carry one tag. -/
def State.setConflict (s : State) : Bool := s.goodSets.any s.shadowedSet

/-- R384: the position of the default set: that of the set which carries its tag. -/
def State.defaultPos (s : State) : Nat :=
  let d := s.tag (s.fldA Reg.COR_TSET_CTL 10 8)
  let us := s.usableSets
  let i := us.findIdx (fun t => s.tag t == d)
  if i < us.length then 256 * i else 0

/-- The tag of the i-th usable set. -/
def State.tagAt (s : State) (i : Nat) : Int := s.tag (s.usableSets.getD i 0)

/-- R384: the target position for the panel temperature in COR_TEMP_STATUS. -/
def State.tempTarget (s : State) : Nat :=
  let n := s.usableSets.length
  let t := sx 16 (s.fld Reg.COR_TEMP_STATUS 15 0)
  if !s.cor.tempValid || s.fldA Reg.COR_TEMP_CTL 15 0 == 0 then s.defaultPos
  else if t ≤ s.tagAt 0 then 0
  else if s.tagAt (n - 1) ≤ t then 256 * (n - 1)
  else
    let i := ((List.range n).filter (fun i => decide (s.tagAt i ≤ t))).length - 1
    256 * i + ((t - s.tagAt i) * 256 / (s.tagAt (i + 1) - s.tagAt i)).toNat

/-- R384: the readings that COR_TEMP_CTL.sensors selects. -/
def State.selected (s : State) : List Int :=
  (s.cor.round.filter (fun r => decide (r.1 < 16) && s.bitA Reg.COR_TEMP_CTL r.1)).map (fun r => r.2)

/-- R384: T is taken from the last completed round. -/
def State.takeT (s : State) : State :=
  let v := s.selected
  if v.isEmpty then s
  else (s.modCor (fun c => { c with tempValid := true })).setFld Reg.COR_TEMP_STATUS 15 0 (tc 16 (v.sum.fdiv v.length))

/-- R384: one step of the position toward its target. -/
def stepToward (step target p : Nat) : Nat :=
  if target ≤ p then (if p - target ≤ step then target else p - step) else (if target - p ≤ step then target else p + step)

/-- R385: what makes p jump at a commit: tags, enables, default or the selection. -/
def State.tempKey (s : State) : List Nat :=
  s.fldA Reg.COR_TSET_CTL 10 0 :: s.fldA Reg.COR_TEMP_CTL 15 0 ::
    (List.range 8).map (fun t => s.fldA (Reg.COR_TSET_TAG t) 15 0)

/-- R384, R385, R397: the position in the update cycle; `jump` that it goes to its target at once. -/
def State.tempTick (s : State) (jump : Bool) : State :=
  let s := s.takeT
  let us := s.usableSets
  let n := us.length
  let target := s.tempTarget
  let p0 := s.cor.p.getD s.defaultPos
  let p := if jump then target else stepToward (max 1 (s.fldA Reg.COR_TEMP_CTL 23 16)) target p0
  let i := p / 256
  let s := s.modCor (fun c => { c with p := some p })
  let s := s.wrN Reg.COR_TEMP_POS (target * 2 ^ 16 + p)
  let s := s.wrN Reg.COR_TEMP_STATUS
    (b2n s.cor.tempValid * 2 ^ 31 + us.getD i 0 * 2 ^ 28 + us.getD (min (i + 1) (n - 1)) 0 * 2 ^ 25 + p % 256 * 2 ^ 16 +
      s.fld Reg.COR_TEMP_STATUS 15 0)
  s.setBit Reg.COR_STATUS 22 (!s.cor.tempValid)

/-- R384, R396: a housekeeping round has ended with these valid panel readings. -/
def State.corRound (s : State) (readings : List (Nat × Int)) : State :=
  let first := !s.cor.roundSeen
  let s := s.modCor (fun c => { c with round := readings, roundSeen := true })
  if s.tile && first && s.selected.isEmpty && s.fldA Reg.COR_TEMP_CTL 15 0 != 0 then s.raise Ev.tempDefault noInst 0 [] else s

/-! ### Configuration -/

/-- R377, R382, R398: COR_STATUS.cause of the active set. -/
def State.corCause (s : State) : Nat :=
  let g := s.geo
  let unaligned := fun (o : Nat) => decide (s.addrA o % 4096 ≠ 0)
  if g.w < g.ml + g.mr + 16 ∨ g.h < g.mt + g.mb + 16 then 1
  else if g.ml < g.bl ∨ g.mr < g.br ∨ g.mt < g.bt ∨ g.mb < g.bb then 2
  else if unaligned Reg.COR_FSTORE0_LO || unaligned Reg.COR_FSTORE1_LO || unaligned Reg.COR_SEAM_BASE_LO then 4
  else if (List.range 8).any (fun t => s.tsetOn t && !s.tsetAligned t) then 3
  else 0

/-- R377, R382: the tile corrects. -/
def State.corrects (s : State) : Bool :=
  s.bitA Reg.COR_CTL 0 && (s.fld Reg.COR_STATUS 27 24 == 0 || s.fld Reg.COR_STATUS 27 24 == 3) && !s.usableSets.isEmpty

/-- R377, R382, R383, R396: what a commit does to COR's status. -/
def State.corCommit (s : State) : State :=
  let cause := s.corCause
  let s := (s.setFld Reg.COR_STATUS 27 24 cause).setBit Reg.COR_STATUS 23 s.setConflict
  let s := if cause = 0 then s else s.raise Ev.corConfig noInst 1 [(1, cause)]
  if s.setConflict then s.raise Ev.setConflict noInst 1 [] else s

/-! ### Watch checks (R357, R358) -/

/-- R355: T1 of a watch region. -/
def State.sigT1 (s : State) (g : Geo) (w : Watch) : Nat :=
  crc32c (w.rect.pixels.flatMap (fun p =>
    let v := s.rxPixel (p.2 * g.w + p.1)
    pixelBytes (bits v 11 0, bits v 23 12, bits v 35 24)))

/-- R389: the panel pixels of a watch rectangle, given the left and top margins and the panel size. -/
def Watch.panel (w : Watch) (margin : Nat × Nat) (pw ph : Nat) : List (Nat × Nat) :=
  (w.rect.cut { x := margin.1, y := margin.2, w := pw, h := ph }).pixels.map (fun p => (p.1 - margin.1, p.2 - margin.2))

/-- R354, R355: T2 and T4: the grey levels of a watch region as a buffer holds them. -/
def State.sigStore (s : State) (b : FrameBuf) (w : Watch) : Nat :=
  crc32c ((w.panel b.margin b.panelW b.panelH).flatMap (fun p =>
    s.rdMem (b.addr + 2 * ((p.2 * b.panelW + p.1) * b.emitters)) (2 * b.emitters)))

/-- R389: T3 by the checker datapath. -/
def State.sigT3 (s : State) (g : Geo) (d : Nat) (w : Watch) : Nat :=
  crc32c ((w.panel (g.ml, g.mt) g.panelW g.panelH).flatMap (fun p =>
    (s.pixelGreys g d p.1 p.2).flatMap (leBytes 2)))

/-- The value listed for a watch region. -/
def lookupN (l : List (Nat × Nat)) (k : Nat) : Option Nat := (l.find? (fun x => x.1 == k)).map (fun x => x.2)

/-- The checks of a watch region that have failed on the frame in buffer `b`, E 1, S 2, C 4, F 8. -/
def State.failsOf (s : State) (b : Fin 2) (id : Nat) : Nat := (lookupN s.cor.buf[b].fails id).getD 0

/-- R358: the action of a failed check: the watch region's policy; F, after the frame has been taken to the glass, blanks the region for
hold. -/
def State.checkAction (s : State) (w : Watch) (mask : Nat) : Nat :=
  if !s.bitA Reg.SCN_TILE_CTL 0 then 0 else if mask = 8 ∧ w.policy = 3 then 2 else w.policy

/-- R357, R392: the checks `mask` of a watch region fail on the frame in buffer `b`. -/
def State.failChecks (s : State) (b : Fin 2) (w : Watch) (mask : Nat) : State :=
  if mask = 0 then s
  else
    let n := ((List.range 4).filter (fun i => mask.testBit i)).length
    let s := s.modBuf b (fun f => { f with fails := (w.id, s.failsOf b w.id ||| mask) :: f.fails.filter (fun x => x.1 != w.id) })
    let s := s.inc (Reg.SCN_TW_MISMATCH w.id) n
    let action := s.checkAction w mask
    let s := s.setFld (Reg.SCN_TW_STATUS w.id) 3 0 (s.fld (Reg.SCN_TW_STATUS w.id) 3 0 ||| mask)
    let s := (s.setFld (Reg.SCN_TW_STATUS w.id) 9 8 action).setBufFailed b true
    if s.cor.buf[b].raised.contains w.id then s
    else (s.modBuf b (fun f => { f with raised := w.id :: f.raised })).raise Ev.tileWatch w.id 1 [(1, mask), (1, action)]

/-- R357: check S of a watch region: the trailer carries its T0 and T1 differs. -/
def State.checkS (s : State) (w : Watch) : Bool :=
  match s.cor.trailer, lookupN s.cor.t1 w.id with
  | some t0, some t1 =>
    match lookupN t0 w.id with
    | some v => v != t1
    | none => false
  | _, _ => false

/-- R354, R355, R357: the end of correction: T1, T2 and T3 of a watch region, and checks E, S and C. -/
def State.checkWatch (s : State) (g : Geo) (d : Nat) (b : Fin 2) (w : Watch) : State :=
  let t1 := s.sigT1 g w
  let t2 := s.sigStore s.cor.buf[b] w
  let on := s.bitA Reg.COR_CTL 2
  let t3 := if on then s.sigT3 g d w else 0
  let s := s.modCor (fun c => { c with t1 := (w.id, t1) :: c.t1 })
  let s := s.modBuf b (fun f => { f with t2 := (w.id, t2) :: f.t2 })
  let s := ((s.wrN (Reg.SCN_TW_SIG_T1 w.id) t1).wrN (Reg.SCN_TW_SIG_T2 w.id) t2).wrN (Reg.SCN_TW_SIG_T3 w.id) t3
  let s := s.setFld (Reg.SCN_TW_STATUS w.id) 9 0 0
  s.failChecks b w (b2n (w.expEn && t1 != w.expect) + 2 * b2n (s.checkS w) + 4 * b2n (on && t2 != t3))

/-! ### Correction -/

/-- R387, R388: panel pixel `n` in raster order is corrected and written to the frame store. -/
def State.correctPixel (s : State) (g : Geo) (d n : Nat) : State :=
  let greys := s.pixelGreys g d (n % g.panelW) (n / g.panelW)
  s.wrMem 11 (s.cor.buf[s.writeBuf].addr + 2 * n * g.e) (greys.flatMap (leBytes 2))

/-- R388, R397: where the active set places frame-store buffer `b`. -/
def State.storeBase (s : State) (b : Fin 2) : Nat := s.addrA (if b = 0 then Reg.COR_FSTORE0_LO else Reg.COR_FSTORE1_LO)

/-- R392, R393: writing of display frame `d` into its buffer starts. -/
def State.startBuffer (s : State) (g : Geo) (d : Nat) : State :=
  let b := s.writeBuf
  let a := s.storeBase b
  (s.modBuf b (fun _ => { addr := a, frame := d, panelW := g.panelW, panelH := g.panelH, emitters := g.e, margin := (g.ml, g.mt),
                          watches := s.cor.watches, t2 := [], fails := [], raised := [], blankAll := false, blank := [] })).setBufFailed b false

/-- R371: pixels are corrected in raster order as far as they have arrived, at most `fuel` of them. -/
def State.correctOn (s : State) (g : Geo) (d : Nat) : Nat → State
  | 0 => s
  | fuel + 1 =>
    let n := s.cor.next
    if n < g.panelW * g.panelH ∧ s.pixelReady g (n % g.panelW) (n / g.panelW) then
      let s := if n = 0 then s.startBuffer g d else s
      let s := (s.correctPixel g d n).modCor (fun c => { c with next := n + 1 })
      s.correctOn g d fuel
    else s

/-- R371, R372: correction goes on after something has arrived. -/
def State.correct (s : State) (d : Nat) : State :=
  if s.cor.header && !s.cor.bad && s.corrects then s.correctOn s.geo d (s.geo.panelW * s.geo.panelH) else s

/-! ### Reception (R368 to R371) -/

/-- R25, R369: the display frame that the tile receives now. -/
def State.corFrame (s : State) : Nat := (s.frame + 1) % 2 ^ 32

/-- R339: the pixels of a data sheaf's payload. -/
def unpackPixels : Nat → List Byte → List Nat
  | 0, _ => []
  | 1, b => [leAt b 0 5 % 2 ^ 36]
  | n + 2, b => (leAt b 0 9 % 2 ^ 36) :: (leAt b 0 9 / 2 ^ 36) :: unpackPixels n (b.drop 9)

/-- R371: a data sheaf's pixels are written to the receive store. -/
def State.storeSheaf (s : State) (index : Nat) (body : List Byte) : State :=
  let first := leAt body 0 4
  let px := (unpackPixels (leAt body 4 2) (body.drop 16)).zipIdx
  s.modCor (fun c =>
    { c with got := if c.got.contains index then c.got else index :: c.got,
             px := px.foldl (fun l v => sPut noPixel l (first + v.2) v.1) c.px })

/-- R340: the watch list of a region header. -/
def watchList (body : List Byte) : List Watch :=
  (List.range (leAt body 14 1)).map (fun i =>
    let e := body.drop (16 + 16 * i)
    { id := leAt e 0 1 % 64, policy := leAt e 1 1 % 4, expEn := (leAt e 1 1).testBit 7,
      rect := { x := leAt e 4 2, y := leAt e 6 2, w := leAt e 8 2 + 1, h := leAt e 10 2 + 1 }, expect := leAt e 12 4 })

/-- R368, R369: the tile takes a sheaf of this stream and frame; `header` that it is a region header. -/
def State.rxStream (s : State) (stream : Nat) (header : Bool) : Bool :=
  if s.bitA Reg.COR_RX_CTL 31 then
    match s.cor.stream with
    | some k => k == stream
    | none => header
  else s.fldA Reg.COR_RX_CTL 7 0 == stream

/-- R341: a trailer's signatures T0 are kept. -/
def State.storeTrailer (s : State) (body : List Byte) : State :=
  let sigs := (List.range (leAt body 4 1)).map (fun i => (leAt body (8 + 8 * i) 1, leAt body (12 + 8 * i) 4))
  s.modCor (fun c => { c with trailer := some sigs })

/-- R368: a sheaf of the frame of which no header has yet named the stream is kept. -/
def State.tooEarly (s : State) (frame : Nat) : Bool :=
  frame == s.corFrame && s.bitA Reg.COR_RX_CTL 31 && s.cor.stream.isNone

/-- R368: a header has named the stream, so what came before it is taken or counted as foreign. -/
def State.takeEarly (s : State) : State :=
  let mine := s.cor.early.filter (fun x => some x.1 == s.cor.stream)
  let n := s.cor.early.length - mine.length
  let s := (s.modCor (fun c => { c with early := [] })).inc Reg.COR_RX_FOREIGN n
  mine.foldl (fun s x => match x.2.1 with
    | some i => s.storeSheaf i x.2.2
    | none => s.storeTrailer x.2.2) s

/-- R340, R370, R373: a region header of the frame is taken. -/
def State.takeHeader (s : State) (stream : Nat) (body : List Byte) : State :=
  let g := s.geo
  let differs := leAt body 4 2 + 1 != g.w || leAt body 6 2 + 1 != g.h
  let tcs := leAt body 12 1
  let ws := watchList body
  let s := s.modCor (fun c => { c with header := true, stream := some stream, tcs := tcs, watches := ws,
                                       bad := c.bad || differs || decide (2 < tcs) })
  let s := s.setBit Reg.COR_STATUS 28 true
  let s := (List.range 64).foldl (fun s w =>
    if ws.any (fun x => x.id == w) then s.setBit (Reg.SCN_TW_STATUS w) 31 true else s.wr (Reg.SCN_TW_STATUS w) 0) s
  let s := if differs then (s.inc Reg.COR_HDR_MISMATCH).raise Ev.headerMismatch noInst 1 [] else s
  (s.takeEarly).correct s.corFrame

/-- R368, R369: what becomes of a class 0x10 sheaf: `f` where it is taken. -/
def State.corTake (s : State) (stream frame : Nat) (header : Bool) (f : State → State) : State :=
  if frame ≠ s.corFrame then s.inc Reg.COR_RX_OUTSIDE
  else if s.rxStream stream header then f s
  else s.inc Reg.COR_RX_FOREIGN

/-- R25, R394: the tile receives. -/
def State.corOn (s : State) : Bool := s.tile && s.frameValid && s.bitA Reg.COR_CTL 0

/-- R370: REGION_HEADER_RX. -/
def execRegionHeaderRx (stream frame : Nat) (body : List Byte) (s : State) : Host.Outcome State Fault Refusal :=
  gate s.corOn (fun s => s.corTake stream frame true (fun s => s.takeHeader stream body)) s

/-- R371: PIXEL_SHEAF_RX. Data of any stream is kept until a region header names the stream of the frame. -/
def execPixelSheafRx (stream frame index : Nat) (body : List Byte) (s : State) : Host.Outcome State Fault Refusal :=
  gate s.corOn
    (fun s =>
      if s.tooEarly frame then s.modCor (fun c => { c with early := c.early ++ [(stream, some index, body)] })
      else s.corTake stream frame false (fun s => (s.storeSheaf index body).correct s.corFrame)) s

/-- R357: check S after the trailer, where correction has ended. -/
def State.lateS (s : State) (w : Watch) : State :=
  if s.cor.done && s.checkS w && !(s.failsOf s.writeBuf w.id).testBit 1 then s.failChecks s.writeBuf w 2 else s

/-- R341, R357: TRAILER_RX. -/
def execTrailerRx (stream frame : Nat) (body : List Byte) (s : State) : Host.Outcome State Fault Refusal :=
  gate s.corOn
    (fun s =>
      if s.tooEarly frame then s.modCor (fun c => { c with early := c.early ++ [(stream, none, body)] })
      else s.corTake stream frame false (fun s => s.cor.watches.foldl (fun s w => s.lateS w) (s.storeTrailer body))) s

/-- R338, R372: everything of the frame has arrived and every panel pixel has been corrected. -/
def State.frameIn (s : State) : Bool :=
  let g := s.geo
  s.cor.header && !s.cor.bad && s.corrects &&
    (List.range (ceilDiv (g.w * g.h) 896)).all (fun i => s.cor.got.contains (i + 1)) &&
    decide (s.cor.next = g.panelW * g.panelH)

/-- A frame-store word that a malfunction of the pipeline has changed. -/
def State.spoil (s : State) (a mask : Nat) : State :=
  s.wrMem 11 a (leBytes 2 (s.memLe a 2 ^^^ mask))

/-- R370, R372: ns from the tick that began the interval to now. -/
def State.nsInFrame (s : State) : Nat :=
  (((period9 s.rateNow : Int) * 2 ^ 16 + s.sinceNextTick).fdiv (9 * 2 ^ 16)).toNat

/-- R357, R372: CORRECTION_DONE. `faults` are malfunctions of the pipeline, which the checker datapath does not share: emitters of
the panel and the bits of their grey levels that were stored wrong (log entry 22). -/
def execCorrectionDone (faults : List (Nat × Nat)) (s : State) : Host.Outcome State Fault Refusal :=
  gate (s.corOn && s.frameIn && !s.cor.done)
    (fun s =>
      let g := s.geo
      let d := s.corFrame
      let b := s.writeBuf
      let s := faults.foldl (fun s f =>
        if f.1 < g.panelW * g.panelH * g.e then s.spoil (s.cor.buf[b].addr + 2 * f.1) f.2 else s) s
      let s := s.modBuf b (fun f => { f with watches := s.cor.watches })
      let s := s.modCor (fun c => { c with done := true, finish := s.nsInFrame })
      let s := s.wrN Reg.SCN_TILE_STATUS d
      s.cor.watches.foldl (fun s w => s.checkWatch g d b w) s) s

/-- R378: the panel pixels corrected so far, of which a word now known to be bad was read, are zero in the output. -/
def State.zeroCovered (s : State) : State :=
  let g := s.geo
  (List.range s.cor.next).foldl (fun s n =>
    if s.tableBad g (n % g.panelW) (n / g.panelW) then s.correctPixel g s.corFrame n else s) s

/-- R378, R396: COR_TABLE_ERROR. `set` is none for a word of the seam table; the event then carries a free value for the set. -/
def execCorTableError (set : Option (Fin 8)) (addr len : Nat) (s : State) : Host.Outcome State Fault Refusal :=
  gate (s.corOn && !s.cor.done)
    (fun s =>
      let s := (s.modCor (fun c => { c with zeroed := (set, addr, len) :: c.zeroed })).inc Reg.COR_TABLE_ERR
      let s := if s.corrects then s.zeroCovered else s
      match set with
      | some t => s.raise Ev.tableError noInst 0 [(8, addr), (1, t.val)]
      | none => s.free.2.raise Ev.tableError noInst 0 [(8, addr), (1, s.free.1)]) s

/-- R395: COR_RESET. A housekeeping round that ended before it counts no more (DEDUCED, log entry 46). -/
def execCorReset (s : State) : Host.Outcome State Fault Refusal :=
  gate s.tile
    (fun s =>
      let s := s.modCor (fun c =>
        { Cor.idle with bad := true, buf := c.buf })
      ((s.setBit Reg.COR_STATUS 28 false).setBit Reg.COR_STATUS 22 true).setBit Reg.COR_TEMP_STATUS 31 false) s

/-! ### The tick -/

/-- R358: the strongest action of the watch regions that failed: 0 none, 1 blank watch, 2 blank region, 3 hold. -/
def State.strongest (s : State) : Nat :=
  if !s.bitA Reg.SCN_TILE_CTL 0 then 0
  else (s.cor.watches.filter (fun w => s.failsOf s.writeBuf w.id != 0)).foldl (fun a w => max a w.policy) 0

/-- R358, R391: a complete frame takes the glass, or is held. -/
def State.swap (s : State) (d : Nat) : State :=
  let b := s.writeBuf
  let act := if s.strongest = 3 ∧ s.bufFailed s.dispBuf then 2 else s.strongest
  let s := s.wrN Reg.COR_FINISH_LAST s.cor.finish
  if act = 3 then s
  else
    let bad := s.cor.watches.filter (fun w => s.failsOf b w.id != 0 && w.policy == 1)
    let s := s.modBuf b (fun f => { f with blankAll := act == 2, blank := if act = 1 then bad.map (fun w => w.rect) else [] })
    (s.setBit Reg.COR_STATUS 31 (b == 1)).wrN Reg.COR_FRAME d

/-- R26, R372: the region is incomplete at its display tick. -/
def State.incomplete (s : State) (d : Nat) : State :=
  ((s.inc Reg.COR_INCOMPLETE).overrun 3).raise Ev.regionIncomplete noInst 1 [(4, d), (4, s.cor.got.length)]

/-- R359: no trailer has arrived by the display tick. -/
def State.trailerCheck (s : State) : State :=
  if s.cor.trailer.isSome then s else (s.inc Reg.SCN_TILE_TRAILER_MISS).raise Ev.trailerMissing noInst 1 []

/-- R371, R372, R384, R385, R391: the tick that begins frame `f`. `old` is the state before the update cycle, `committed` that the
active set has just changed, `first` that this is the device's first tick, before which no frame was received. -/
def State.corTick (s old : State) (f : Nat) (committed first : Bool) : State :=
  let s := if first || !old.bitA Reg.COR_CTL 0 then s
    else (if s.cor.done then s.swap f else s.incomplete f).trailerCheck
  let s := s.modCor (fun c =>
    { c with header := false, stream := none, early := [], bad := false, got := [], px := [], trailer := none, next := 0,
             zeroed := [], done := false, t1 := [], watches := [] })
  let s := s.setBit Reg.COR_STATUS 28 false
  let s := if s.bitA Reg.COR_CTL 0 && !old.bitA Reg.COR_CTL 0 then s.modCor (fun c => { c with p := none }) else s
  s.tempTick (committed && s.tempKey != old.tempKey)

end Sys2Proof.Machine
end

