-- ==== Sys2Proof/Machine/Furrow.lean ====
section
/-!
DEFINITION. Furrow packets, lanes, the scan schedule and the mapping of emitters onto channels (chapter 10, R399 to R428).
-/

namespace Sys2Proof.Machine

/-- R436, R605: the event sources of FUR. -/
abbrev Ev.laneUp : Nat := 352
abbrev Ev.laneLost : Nat := 353
abbrev Ev.enumMismatch : Nat := 354
abbrev Ev.furConfig : Nat := 355
abbrev Ev.subframeLate : Nat := 356
abbrev Ev.throttleChange : Nat := 357
abbrev Ev.fetchError : Nat := 358
abbrev Ev.accessDone : Nat := 359

/-- R437: the states of a lane. -/
abbrev Lane.off : Nat := 0
abbrev Lane.starting : Nat := 1
abbrev Lane.up : Nat := 2
abbrev Lane.lost : Nat := 3
abbrev Lane.mismatch : Nat := 4

/-! ### Packets -/

/-- R404, R405: the bytes of a packet between SOP and EOP. -/
def FurPkt.bytes (p : FurPkt) (seq : Nat) : List Byte :=
  let n := p.payload.length
  let b := leBytes 1 (p.type * 16 + p.flags) ++ leBytes 1 (b2n p.bcast * 128 + p.addr) ++ leBytes 1 p.arg ++ leBytes 1 n ++
    leBytes 3 p.at_ ++ leBytes 1 (seq % 16 * 16 + n / 256) ++ p.payload
  b ++ leBytes 2 (crc16 b)

/-- R404: the packet that bytes spell. -/
def parseFur (b : List Byte) : FurPkt :=
  let n := leAt b 3 1 + 256 * bits (leAt b 7 1) 3 0
  { type := bits (leAt b 0 1) 7 4, flags := bits (leAt b 0 1) 3 0, bcast := (leAt b 1 1).testBit 7, addr := bits (leAt b 1 1) 5 0,
    arg := leAt b 2 1, at_ := leAt b 4 3, payload := slice b 8 n }

/-- R404: the seq of a packet. -/
def furSeq (b : List Byte) : Nat := bits (leAt b 7 1) 7 4

/-- R405: the CRC of a packet is right. -/
def furCrcOk (b : List Byte) : Bool :=
  decide (10 ≤ b.length) && leAt b (b.length - 2) 2 == crc16 (b.take (b.length - 2))

/-- R404: the next seq of a lane. -/
def State.laneSeq (s : State) (l : Nat) : Nat := sGet (fun _ => 0) s.fur.seq l

/-- R404: a packet leaves on a lane. -/
def State.furSend (s : State) (l : Nat) (p : FurPkt) : State :=
  let q := s.laneSeq l
  (s.emit (.furrow l (p.bytes q))).modFur (fun f => { f with seq := sPut (fun _ => 0) f.seq l ((q + 1) % 16) })

/-- R412, R430: a WRITE or READ leaves and its return is awaited, but on a loop-lost lane, where nothing returns. -/
def State.furOp (s : State) (l : Nat) (kind : OpKind) (p : FurPkt) (fails : Nat) : State :=
  let o : FurOp := { lane := l, seq := s.laneSeq l, fails := fails, pkt := p, kind := kind }
  let lost := s.fld (Reg.FUR_LANE_STATUS l) 31 29 == Lane.lost
  (s.furSend l p).modFur (fun f => { f with ops := if lost then f.ops else f.ops ++ [o] })

/-- R402, R409: the tile's step counter. -/
def State.stepNow (s : State) : Nat := s.tmb.tclk / 4 % 2 ^ 24

/-- R406: the packets of the tile. -/
def syncPkt (v : Nat) : FurPkt :=
  { type := 1, flags := 0, bcast := true, addr := 0, arg := 0, at_ := 0, payload := leBytes 3 v ++ zeros 1 }
def linePkt (line at_ : Nat) (swap apply : Bool) : FurPkt :=
  { type := 2, flags := b2n swap + 2 * b2n apply, bcast := true, addr := 0, arg := line, at_ := at_ % 2 ^ 24, payload := [] }
def dataPkt (line : Nat) (body : List Byte) : FurPkt :=
  { type := 3, flags := 0, bcast := false, addr := 0, arg := line, at_ := 0, payload := body }
def writePkt (bcast : Bool) (pos reg : Nat) (words : List Word) : FurPkt :=
  { type := 4, flags := 0, bcast := bcast, addr := pos, arg := words.length, at_ := 0,
    payload := leBytes 2 reg ++ zeros 2 ++ wordsBytes words }
def readPkt (pos reg count : Nat) : FurPkt :=
  { type := 5, flags := 0, bcast := false, addr := pos, arg := count, at_ := 0, payload := leBytes 2 reg ++ zeros 18 }
def enumPkt : FurPkt :=
  { type := 6, flags := 0, bcast := true, addr := 0, arg := 0, at_ := 0, payload := zeros 148 }
def testPkt (row at_ : Nat) : FurPkt :=
  { type := 7, flags := 0, bcast := true, addr := 0, arg := row, at_ := at_ % 2 ^ 24, payload := [] }

/-! ### Lanes -/

/-- R429, R437: a lane is enabled, its state and its expected companions. -/
def State.laneOn (s : State) (l : Nat) : Bool := s.bitA Reg.FUR_CTL 0 && s.bitA (Reg.FUR_LANE_CFG l) 31
def State.laneState (s : State) (l : Nat) : Nat := s.fld (Reg.FUR_LANE_STATUS l) 31 29
def State.setLane (s : State) (l x : Nat) : State := s.setFld (Reg.FUR_LANE_STATUS l) 31 29 x
def State.expectSinks (s : State) (l : Nat) : Nat := min 32 (s.fldA (Reg.FUR_LANE_CFG l) 21 16)
def State.expectRows (s : State) (l : Nat) : Nat := s.fldA (Reg.FUR_LANE_CFG l) 26 24

/-- The numbers of the lanes. -/
def lanes : List Nat := List.range 64

/-- R411: the cascade positions of the companions of a kind (1 sink, 2 row driver) on a lane, in cascade order. -/
def State.positions (s : State) (l kind : Nat) : List Nat :=
  let ids := sGet (fun _ => []) s.fur.found l
  (List.range ids.length).filter (fun p => bits (ids.getD p 0).toNat 31 28 == kind)

/-- R429: a lane starts with SYNC and ENUM. -/
def State.laneStart (s : State) (l : Nat) : State :=
  let s := s.setLane l Lane.starting
  let s := s.modFur (fun f => { f with
    restart := f.restart.filter (· != l), ran := f.ran.filter (· != l), syncOut := f.syncOut.filter (· != l)
    ops := f.ops.filter (fun o => o.lane != l) })
  (s.furSend l (syncPkt s.stepNow)).furSend l enumPkt

/-! ### The scan schedule (R420 to R422) -/

def State.sfCount (s : State) : Nat := s.fldA Reg.FUR_SCAN 19 16 + 1
def State.mux (s : State) : Nat := s.fldA Reg.FUR_SCAN 29 24 + 1
def State.ghost (s : State) : Nat := max 8 (s.fldA Reg.FUR_SCAN 11 0)
def State.lineW (s : State) : Nat := s.fldA Reg.FUR_LINE 11 0

/-- R420: T_sf in steps. -/
def State.tSf (s : State) : Nat := s.mux * (s.ghost + s.lineW)

/-- R421: the upload of one subframe on a lane, in symbols, and in steps. -/
def State.uSym (s : State) (l : Nat) : Nat :=
  (if s.expectSinks l = 0 then 0 else s.mux * (72 * s.expectSinks l + 14)) + 14 * (s.mux + 1) + s.fldA Reg.FUR_CTL 27 16
def State.uSteps (s : State) (l : Nat) : Nat := ceilDiv (8 * s.uSym l) 5

/-- R421: U and the lane that it belongs to. -/
def State.uMax (s : State) : Nat × Nat :=
  (lanes.filter s.laneOn).foldl (fun a l => if a.1 < s.uSteps l then (s.uSteps l, l) else a) (0, 0)

/-- R421: lead. -/
def State.lead (s : State) : Nat := s.uMax.1 + 400

/-- R422: F, and F less the guard. -/
def State.framePeriodSteps (s : State) : Nat := period9 s.rateNow / 45
def State.availSteps (s : State) : Nat := s.framePeriodSteps - s.fldA Reg.FUR_GUARD 15 0

/-- R420: the steps that the first `n` subframes need at a gap. -/
def State.needSteps (s : State) (gap n : Nat) : Nat := s.lead + (n - 1) * (s.tSf + gap) + s.tSf

/-- R437: the order of subframe `j`. -/
def State.sfOrder (s : State) (j : Nat) : Nat :=
  if j < 8 then s.fldA Reg.FUR_SF_ORDER_LO (4 * j + 3) (4 * j) else s.fldA Reg.FUR_SF_ORDER_HI (4 * (j - 8) + 3) (4 * (j - 8))

/-- R422, R438: why the configuration is refused; 0 where it is valid. -/
def State.furCause (s : State) : Nat :=
  let n := s.sfCount
  let base := s.fldA Reg.FUR_GAP 15 0
  if s.tSf + base < s.uMax.1 + 400 then 1
  else if s.availSteps < s.needSteps base n then 2
  else if !(List.range n).all (fun v => (List.range n).any (fun j => s.sfOrder j == v)) then 3
  else 0

/-- R426: the subframes that fit at a gap. -/
def State.sfFit (s : State) (gap : Nat) : Nat :=
  ((List.range s.sfCount).filter (fun j => decide (s.needSteps gap (j + 1) ≤ s.availSteps))).length

/-! ### Emitters and channels (R428) -/

/-- R419: panel width, height and emitters per pixel under which the display buffer was written; those of the active set while
nothing has been written into it. -/
def State.panelDims (s : State) : Nat × Nat × Nat :=
  let b := s.cor.buf[s.dispBuf]
  if b.panelW = 0 then (s.geo.panelW, s.geo.panelH, s.geo.e) else (b.panelW, b.panelH, b.emitters)

/-- R428: the panel pixel and the emitter within it of a slot; none where the descriptor is disabled or the entry is not valid. -/
def State.slotPixel (s : State) (l k r c : Nat) : Option (Nat × Nat × Nat) :=
  let m := Reg.FUR_SINK_MAP l k
  let e := Reg.FUR_CHMAP (48 * s.fldA m 30 28 + c)
  if s.bitA m 31 && s.bitA e 15 then
    some (s.fldA (Reg.FUR_SINK_POS l k) 15 0 + s.fldA e 5 0,
      s.fldA (Reg.FUR_SINK_POS l k) 31 16 + s.fldA e 11 8 + r * max 1 (s.fldA m 27 24), s.fldA e 13 12)
  else none

/-- R428: the emitter of a slot; none where the channel uploads 0. -/
def State.slotEmitter (s : State) (l k r c : Nat) : Option Nat :=
  let d := s.panelDims
  match s.slotPixel l k r c with
  | none => none
  | some (x, y, e) => if x < d.1 ∧ y < d.2.1 ∧ e < d.2.2 then some ((y * d.1 + x) * d.2.2 + e) else none

/-- R428: a mapping leaves the panel. -/
def State.mapOut (s : State) : Bool :=
  let d := s.panelDims
  (lanes.filter s.laneOn).any (fun l => (List.range 32).any (fun k => (List.range 48).any (fun c =>
    (List.range s.mux).any (fun r =>
      match s.slotPixel l k r c with
      | none => false
      | some (x, y, _) => decide (d.1 ≤ x) || decide (d.2.1 ≤ y)))))

/-! ### On-times (R423) -/

/-- R423: the on-time of a grey level in subframe `j` of display frame `d`. -/
def State.onTime (s : State) (g d x y j : Nat) : Nat :=
  let n := s.sfCount
  let tot := (g * n * s.lineW + 32768) / 2 ^ 16
  let base := tot / n
  let rot := if s.bitA Reg.FUR_CTL 1 then (d + x + y) % n else 0
  base + b2n (decide ((s.sfOrder j + rot) % n < tot - base * n))

/-- R358: the emitter's pixel is driven at grey level 0. -/
def State.blankPixel (s : State) (x y : Nat) : Bool :=
  let b := s.cor.buf[s.dispBuf]
  b.blankAll || b.blank.any (fun r => r.has (x + b.margin.1) (y + b.margin.2))

/-- R358, R423, R427: the on-time of an emitter in subframe `j` before the lamp policies. -/
def State.rawTime (s : State) (j n : Nat) : Nat :=
  let d := s.panelDims
  let x := n / d.2.2 % d.1
  let y := n / d.2.2 / d.1
  let a := s.cor.buf[s.dispBuf].addr + 2 * n
  if s.blankPixel x y || s.fur.bad.any (fun z => decide (z.1 < a + 2) && decide (a < z.1 + z.2)) then 0
  else s.onTime (s.memLe a 2) s.frame x y j

end Sys2Proof.Machine
end

