-- ==== Sys2Proof/Machine/Lmp.lean ====
section
/-!
DEFINITION. Lamp faults and fault groups (chapter 11, R440 to R467): fault states, groups, policies, tests and the fault map.
-/

namespace Sys2Proof.Machine

/-- R464, R605: the event sources of LMP. -/
abbrev Ev.faultConfirmed : Nat := 384
abbrev Ev.faultCleared : Nat := 385
abbrev Ev.groupBlank : Nat := 386
abbrev Ev.groupUnblank : Nat := 387
abbrev Ev.testMissed : Nat := 388
abbrev Ev.tableLoaded : Nat := 389
abbrev Ev.lmpTableError : Nat := 390

/-- What an unlisted line or count holds. -/
def none0 (_ : Nat) : Nat := 0

/-- The key of a line of a sink. -/
def lineKey (l k r : Nat) : Nat := (32 * l + k) * 64 + r

/-- R449: a mask of a line: 0 open suspect, 1 open present, 2 short suspect, 3 short present. -/
def State.faultMask (s : State) (key i : Nat) : Nat := sGet none0 s.lmp.faults (4 * key + i)
def State.setFaultMask (s : State) (key i v : Nat) : State :=
  s.modLmp (fun x => { x with faults := sPut none0 x.faults (4 * key + i) v })

/-- The channels of a mask. -/
def channels (mask : Nat) : List Nat := (List.range 48).filter (fun c => mask.testBit c)

/-- R443: the channels of a line that map to an emitter. -/
def State.mapped (s : State) (l k r : Nat) : Nat :=
  ((List.range 48).map (fun c => if (s.slotEmitter l k r c).isSome then 2 ^ c else 0)).sum

/-! ### Groups (R453, R454) -/

/-- R453: a descriptor of the table in force. -/
def State.groupDesc (s : State) (g : Nat) : Nat := sGet none0 s.lmp.groups g

/-- R453, R454: emitter `k` of a panel pixel lies in the group. -/
def inGroup (desc x y k : Nat) : Bool :=
  let ctl := bits desc 71 64
  ctl.testBit 7 && ctl.testBit k && decide (bits desc 15 0 ≤ x) && decide (x ≤ bits desc 15 0 + bits desc 47 32) &&
    decide (bits desc 31 16 ≤ y) && decide (y ≤ bits desc 31 16 + bits desc 63 48)

/-- R454: the group of an emitter; 4,096 where it is in none. -/
def State.groupOf (s : State) (n : Nat) : Nat :=
  let d := s.panelDims
  match s.lmp.groups.find? (fun g => inGroup g.2 (n / d.2.2 % d.1) (n / d.2.2 / d.1) (n % d.2.2)) with
  | some g => g.1
  | none => 4096

/-- R453, R454, R466: a group's policy: 0 report, 1 substitute, 2 all-or-nothing. -/
def State.policyOf (s : State) (g : Nat) : Nat :=
  if g = 4096 then (if s.fldA Reg.LMP_CTL 1 0 = 1 then 1 else 0)
  else
    let p := bits (s.groupDesc g) 69 68
    if p = 3 then 0 else p

/-- R452: the exact present count of a group. -/
def State.presentOf (s : State) (g : Nat) : Nat := sGet none0 s.lmp.present g

/-- R450, R452, R454: the present count of a group, and the registers that show it. -/
def State.setPresent (s : State) (g n : Nat) : State :=
  let s := s.modLmp (fun x => { x with present := sPut none0 x.present g n })
  if g = 4096 then s.wrN Reg.LMP_UNGROUPED n else s.setFld (Reg.LMP_GCNT g) 31 16 (min 0xFFFF n)

/-- R457, R465: a group's bit in LMP_BLANKED. -/
def State.blankedBit (s : State) (g : Nat) : Bool := s.bit (Reg.LMP_BLANKED (g / 32)) (g % 32)
def State.setBlanked (s : State) (g : Nat) (b : Bool) : State := s.setBit (Reg.LMP_BLANKED (g / 32)) (g % 32) b

/-- The slots with a present fault: key of the line, channel and kind (0 open, 1 short). -/
def State.presentFaults (s : State) : List (Nat × Nat × Nat) :=
  s.lmp.faults.flatMap (fun m => if m.1 % 2 = 1 then (channels m.2).map (fun c => (m.1 / 4, c, m.1 % 4 / 2)) else [])

/-- The emitter of a slot by the key of its line. -/
def State.keyEmitter (s : State) (key c : Nat) : Option Nat := s.slotEmitter (key / 2048) (key / 64 % 32) (key % 64) c

/-- R457: the emitters with a present fault. -/
def State.faultyEmitters (s : State) : List Nat := s.presentFaults.filterMap (fun f => s.keyEmitter f.1 f.2.1)

/-- The group of a slot. -/
def State.slotGroup (s : State) (key c : Nat) : Nat :=
  match s.keyEmitter key c with
  | some n => s.groupOf n
  | none => 4096

/-! ### Records (R449, R450, R460) -/

/-- R450, R460: a fault of a slot becomes present. -/
def State.faultPresent (s : State) (key c kind : Nat) : State :=
  let g := s.slotGroup key c
  let s := (s.setPresent g (s.presentOf g + 1)).wrN Reg.LMP_PRESENT_TOTAL ((s.rd Reg.LMP_PRESENT_TOTAL).toNat + 1)
  if g = 4096 then s
  else
    let s := s.incFld (Reg.LMP_GCNT g) 15 0
    if s.policyOf g = 2 ∧ !s.blankedBit g then
      (s.setBlanked g true).raise Ev.groupBlank noInst 0
        [(2, g), (1, key / 2048), (1, key / 64 % 32), (1, key % 64), (1, c), (1, kind)]
    else s

/-- R449: the fault of one kind of a line moves with the records `rec` of a read; `ok` are the channels that count and `seen` those
observed since the previous read. The answer holds the channels that became present. -/
def State.moveFaults (s : State) (key kind rec ok seen : Nat) : State × Nat :=
  let sus := s.faultMask key (2 * kind)
  let pre := s.faultMask key (2 * kind + 1)
  let once := ((channels ok).map (fun c =>
    if s.bitA Reg.LMP_CTL 29 || s.policyOf (s.slotGroup key c) == 2 then 2 ^ c else 0)).sum
  let absent := (pre ^^^ (2 ^ 48 - 1))
  let r := rec &&& ok &&& absent
  let now := r &&& (sus ||| once)
  let sus' := ((sus &&& (rec ||| (seen ^^^ (2 ^ 48 - 1)))) ||| r) &&& (now ^^^ (2 ^ 48 - 1))
  let s := (s.setFaultMask key (2 * kind) sus').setFaultMask key (2 * kind + 1) (pre ||| now)
  ((channels now).foldl (fun s c => s.faultPresent key c kind) s, now)

/-- R449, R450: the four FAULT words of a line have been read. -/
def State.takeRecords (s : State) (l k r : Nat) (w : List Word) : State :=
  let key := lineKey l k r
  let word := fun (i : Nat) => (w.getD i 0).toNat
  let ok := s.mapped l k r
  let seen := sGet none0 s.lmp.since key
  let a := s.moveFaults key 0 (word 0 + 2 ^ 32 * bits (word 1) 15 0) ok seen
  let b := a.1.moveFaults key 1 (word 2 + 2 ^ 32 * bits (word 3) 15 0) ok seen
  let s := b.1.modLmp (fun x => { x with since := sPut none0 x.since key 0 })
  let n := (channels a.2).length + (channels b.2).length
  if n = 0 then s
  else
    let kind := if a.2 = 0 then 1 else 0
    let c := (channels (if a.2 = 0 then b.2 else a.2)).headD 0
    s.raise Ev.faultConfirmed noInst 0
      [(1, l), (1, k), (1, r), (1, c), (1, kind), (4, (s.keyEmitter key c).getD 0), (2, s.slotGroup key c), (4, n)]

/-! ### Observation (R444) -/

/-- R444: slots of a line have been observed. -/
def State.observe (s : State) (key mask : Nat) : State :=
  s.modLmp (fun x => { x with seen := sPut none0 x.seen key (sGet none0 x.seen key ||| mask),
                              since := sPut none0 x.since key (sGet none0 x.since key ||| mask) })

/-! ### Policies (R457, R458) -/

/-- R457: the emitter belongs to a group that all-or-nothing holds dark. -/
def State.groupDark (s : State) (n : Nat) : Bool :=
  let g := s.groupOf n
  s.policyOf g == 2 && s.presentOf g != 0

/-- R358, R457: the emitter is blanked. -/
def State.emitterBlank (s : State) (n : Nat) : Bool :=
  let d := s.panelDims
  s.blankPixel (n / d.2.2 % d.1) (n / d.2.2 / d.1) || s.groupDark n

/-- R458: an emitter that may take a share of a neighbour's on-time. -/
def State.takesShare (s : State) (faulty : List Nat) (n : Nat) : Bool := !faulty.contains n && !s.emitterBlank n

/-- R458: the neighbour of an emitter on its left, and on its right, within the panel. -/
def State.leftOf (s : State) (n : Nat) : Option Nat :=
  let d := s.panelDims
  if 0 < n / d.2.2 % d.1 then some (n - d.2.2) else none
def State.rightOf (s : State) (n : Nat) : Option Nat :=
  let d := s.panelDims
  if n / d.2.2 % d.1 + 1 < d.1 then some (n + d.2.2) else none

/-- R458: what a faulty emitter `m` gives to its right neighbour, and to its left neighbour. -/
def State.shareRight (s : State) (faulty : List Nat) (j m : Nat) : Nat :=
  if faulty.contains m && s.policyOf (s.groupOf m) == 1 then
    let v := s.rawTime j m
    match s.leftOf m with
    | some l => if s.takesShare faulty l then v - v / 2 else v
    | none => v
  else 0
def State.shareLeft (s : State) (faulty : List Nat) (j m : Nat) : Nat :=
  if faulty.contains m && s.policyOf (s.groupOf m) == 1 then
    let v := s.rawTime j m
    match s.rightOf m with
    | some r => if s.takesShare faulty r then v / 2 else v
    | none => v
  else 0

/-- R423, R457, R458: the on-time that an emitter uploads in subframe `j`. -/
def State.emitterTime (s : State) (faulty : List Nat) (j n : Nat) : Nat :=
  if s.emitterBlank n then 0
  else if faulty.contains n then (if s.policyOf (s.groupOf n) = 1 then 0 else s.rawTime j n)
  else
    let a := match s.leftOf n with
      | some m => s.shareRight faulty j m
      | none => 0
    let b := match s.rightOf n with
      | some m => s.shareLeft faulty j m
      | none => 0
    if a + b = 0 then s.rawTime j n else min s.lineW (s.rawTime j n + a + b)

/-- R459: groups whose present count has returned to zero unblank at the start of an upload. -/
def State.unblank (s : State) : State :=
  (List.range 4096).foldl (fun s g =>
    if s.blankedBit g && (s.presentOf g == 0 || s.policyOf g != 2) then
      (s.setBlanked g false).raise Ev.groupUnblank noInst 0 [(2, g)]
    else s) s

/-! ### Tests (R444 to R448) -/

/-- R447: slots of a line whose TEST was missed. -/
def State.testMissed (s : State) (n : Nat) : State :=
  if n = 0 then s
  else
    let s := s.inc Reg.LMP_TEST_MISSED n
    if s.lmp.missRaised then s
    else (s.modLmp (fun x => { x with missRaised := true })).raise Ev.testMissed noInst 1 [(4, n)]

/-- The slots of a list of lanes, sinks and masks. -/
def slotCount (a : List (Nat × Nat × Nat)) : Nat := (a.map (fun x => (channels x.2.2).length)).sum

/-- R446: the test slots of the frame: the execution step after the tick and the subframe before it. -/
def State.testSlots (s : State) : List (Nat × Nat) :=
  let g := s.ghost
  let slot := s.tSf + s.fur.gap
  (List.range s.fur.shown).flatMap (fun j =>
    let start := s.lead + j * slot + s.tSf
    let stop := if j + 1 < s.fur.shown then s.lead + (j + 1) * slot else s.availSteps
    (List.range (min 64 ((stop - start) / (g + 16)))).filterMap (fun i =>
      let a := start + g + i * (g + 16)
      if a + 16 ≤ stop then some (a, j) else none))

/-- R440, R463: the lanes of this frame that are swept and tested: those in state up. -/
def State.swept (s : State) : List Nat := s.fur.joined.filter (fun l => s.laneState l == Lane.up)

/-- R445, R463: the slots of a line to be armed, on the lanes that are up. -/
def State.toArm (s : State) (r : Nat) : List (Nat × Nat × Nat) :=
  s.swept.flatMap (fun l => (List.range (s.expectSinks l)).filterMap (fun k =>
    let m := s.mapped l k r
    let need := m ^^^ (m &&& sGet none0 s.lmp.seen (lineKey l k r))
    if need = 0 then none else some (l, k, need)))

/-- R445: the observation of every slot of a line is reset. -/
def State.resetLine (s : State) (r : Nat) : State :=
  s.modLmp (fun x => { x with seen := x.seen.filter (fun e => e.1 % 64 != r) })

/-- R445 to R447, R462: the due lines of display frame `f` and their TESTs. -/
def State.lmpTests (s : State) (f : Nat) : State :=
  let due := (List.range s.mux).filter (fun r => r % 16 == f % 16)
  let slots := s.testSlots
  let s := s.modLmp (fun x => { x with tests := [], sent := [], missRaised := false })
  if s.bitA Reg.LMP_CTL 31 && s.bitA Reg.LMP_CTL 30 && !s.swept.isEmpty then
    due.zipIdx.foldl (fun s d =>
      let arm := s.toArm d.1
      let s := s.resetLine d.1
      match slots[d.2]? with
      | some t => s.modLmp (fun x => { x with tests := x.tests ++ [{ at_ := t.1, row := d.1, after := t.2, toArm := arm, armed := [] }] })
      | none => s.testMissed (slotCount arm)) s
  else s

/-- R447, R448: the TESTs that follow subframe `j` are sent on every lane that is up; a line whose arming writes could not all be
sent is not tested. -/
def State.sendTests (s : State) (j : Nat) : State :=
  let mine := s.lmp.tests.filter (fun t => t.after == j)
  let s := s.modLmp (fun x => { x with tests := x.tests.filter (fun t => t.after != j) })
  mine.foldl (fun s t =>
    if t.toArm.isEmpty then
      let s := s.fur.joined.foldl (fun s l => s.furSend l (testPkt t.row (s.fur.c0 + t.at_))) s
      let s := s.inc Reg.LMP_TEST_COUNT (slotCount t.armed)
      let s := t.armed.foldl (fun s a => s.observe (lineKey a.1 a.2.1 t.row) a.2.2) s
      s.modLmp (fun x => { x with results := x.results ++ t.armed.map (fun a => (a.1, a.2.1, t.row)), sent := t.at_ :: x.sent })
    else s.testMissed (slotCount t.toArm + slotCount t.armed)) s

/-! ### LMP's packets in an upload window (R440, R441) -/

/-- R412, R440: LMP reads the FAULT words of a line of a sink. -/
def State.readFaults (s : State) (l k r : Nat) (lap : Option Nat) : State :=
  s.furOp l (.fault k r lap) (readPkt ((s.positions l 1).getD k 0) (0x100 + 4 * r) 4) 0

/-- R441: the result reads of a lane, as far as `share` symbols go; the symbols left. -/
def State.sendResults (s : State) (l share : Nat) : State × Nat :=
  let mine := (s.lmp.results.filter (fun x => x.1 == l)).take (share / 68)
  let s := s.modLmp (fun x => { x with results := x.results.filter (fun y => !mine.contains y) })
  (mine.foldl (fun s x => s.readFaults l x.2.1 x.2.2 none) s, share - 68 * mine.length)

/-- R447: the window of the upload of subframe `j` ends before an execution step. -/
def State.windowBefore (s : State) (j at_ : Nat) : Bool := decide (s.lead + j * (s.tSf + s.fur.gap) ≤ at_ + 400)

/-- R447: one arming write. -/
def State.armOne (s : State) (l k mask : Nat) : State :=
  s.furOp l .arm (writePkt false ((s.positions l 1).getD k 0) 0x20 [BitVec.ofNat 32 mask, BitVec.ofNat 32 (mask / 2 ^ 32)]) 0

/-- R447: the arming writes of one TEST on a lane, as far as `share` goes. -/
def State.armTest (s : State) (l share : Nat) (t : LampTest) : State × Nat × LampTest :=
  let mine := (t.toArm.filter (fun a => a.1 == l)).take (share / 26)
  (mine.foldl (fun s a => s.armOne l a.2.1 a.2.2) s, share - 26 * mine.length,
    { t with toArm := t.toArm.filter (fun a => !mine.contains a), armed := t.armed ++ mine })

/-- R447: the arming writes of a lane in the window of the upload of subframe `j`. -/
def State.sendArms (s : State) (l j share : Nat) : State × Nat :=
  let r := s.lmp.tests.foldl (fun (a : State × Nat × List LampTest) t =>
    if a.1.windowBefore j t.at_ then
      let x := a.1.armTest l a.2.1 t
      (x.1, x.2.1, a.2.2 ++ [x.2.2])
    else (a.1, a.2.1, a.2.2 ++ [t])) (s, share, [])
  (r.1.modLmp (fun x => { x with tests := r.2.2 }), r.2.1)

/-- R440, R442: the sink and line that a lane's sweep reads next, and the frame its lap began in. -/
def State.sweepAt (s : State) (l : Nat) : Nat × Nat × Nat :=
  match s.lmp.sweep.find? (fun x => x.1 == l) with
  | some x => x.2
  | none => (0, 0, s.frame)

/-- R440: at most `n` sweep reads of a lane. -/
def State.sweep (s : State) (l : Nat) : Nat → State
  | 0 => s
  | n + 1 =>
    let p := s.sweepAt l
    let ns := s.expectSinks l
    if ns = 0 then s
    else
      let k := if p.1 < ns then p.1 else 0
      let r := if p.2.1 < s.mux then p.2.1 else 0
      let lap := if k = 0 ∧ r = 0 then s.frame else p.2.2
      let next := if r + 1 < s.mux then (k, r + 1, lap) else ((k + 1) % ns, 0, lap)
      let s := s.readFaults l k r (if k + 1 = ns ∧ r + 1 = s.mux then some lap else none)
      (s.modLmp (fun x => { x with sweep := (l, next) :: x.sweep.filter (fun y => y.1 != l) })).sweep l n

/-- R440, R441: LMP's packets on a lane in the window of the upload of subframe `j`. -/
def State.lmpWindow (s : State) (l j : Nat) : State :=
  if s.bitA Reg.LMP_CTL 31 && s.laneState l == Lane.up then
    let used := (if j = 0 then 18 else 0) +
      ((s.fur.ops.filter (fun o => o.lane == l && o.kind == .access)).map (fun o => o.pkt.payload.length + 14)).sum
    let share := min (s.fldA Reg.LMP_CTL 27 16) (s.fldA Reg.FUR_CTL 27 16 - used)
    let a := s.sendResults l share
    let b := a.1.sendArms l j a.2
    b.1.sweep l (b.2 / 68)
  else s

/-- R442: the lap, by the frame in which it began, that a sweep read has just completed. -/
def State.lapDone (s : State) : Option Nat → State
  | some lap => s.wrN Reg.LMP_SWEEP_LAP (max (subMod 32 s.frame lap) (s.rd Reg.LMP_SWEEP_LAP).toNat)
  | none => s

/-! ### The fault map (R451) -/

/-- R451: a word of the fault map of the lane that LMP_MAP_LANE names. -/
def State.mapWord (s : State) (k r part : Nat) : Word :=
  let m := s.faultMask (lineKey (s.fld Reg.LMP_MAP_LANE 5 0) k r) (if part < 2 then 1 else 3)
  BitVec.ofNat 32 (if part % 2 = 0 then m else m / 2 ^ 32)

/-- R451: a present fault is cleared. -/
def State.faultCleared (s : State) (key c : Nat) : State :=
  let g := s.slotGroup key c
  (s.setPresent g (s.presentOf g - 1)).wrN Reg.LMP_PRESENT_TOTAL ((s.rd Reg.LMP_PRESENT_TOTAL).toNat - 1)

/-- R451: a write of the fault map. -/
def State.mapClear (s : State) (k r part : Nat) (v : Word) : State :=
  let key := lineKey (s.fld Reg.LMP_MAP_LANE 5 0) k r
  let i := if part < 2 then 0 else 2
  let m := if part % 2 = 0 then v.toNat else v.toNat % 2 ^ 16 * 2 ^ 32
  let keep := m ^^^ (2 ^ 48 - 1)
  let gone := s.faultMask key (i + 1) &&& m
  let s := (s.setFaultMask key i (s.faultMask key i &&& keep)).setFaultMask key (i + 1) (s.faultMask key (i + 1) &&& keep)
  let s := (channels gone).foldl (fun s c => s.faultCleared key c) s
  if gone = 0 then s else s.raise Ev.faultCleared noInst 0 []

/-- R451: LMP_MAP_CLEAR. -/
def execLmpMapClear (k : Fin 32) (r : Fin 64) (part : Fin 4) (v : Word) (s : State) : Host.Outcome State Fault Refusal :=
  gate s.tile (fun s => s.mapClear k.val r.val part.val v) s

/-! ### The group table (R455, R456) -/

/-- R453: the table at an address, by group; descriptors that are zero are not listed. -/
def State.readGroups (s : State) (a : Nat) : List (Nat × Nat) :=
  (List.range 4096).filterMap (fun g =>
    let d := s.memLe (a + 16 * g) 9
    if d = 0 then none else some (g, d))

/-- R455, R456: LMP_TABLE_LOAD; `err` that DRAM returned an uncorrectable error. -/
def execLmpTableLoad (err : Bool) (s : State) : Host.Outcome State Fault Refusal :=
  gate (s.tile && s.lmp.loading)
    (fun s =>
      let a := s.addrA Reg.LMP_GROUP_BASE_LO
      let s := s.modLmp (fun x => { x with loading := false })
      if a % 4096 ≠ 0 then (s.setFld Reg.LMP_STATUS 31 30 2).raise Ev.lmpTableError noInst 0 []
      else if err then (s.setFld Reg.LMP_STATUS 31 30 3).raise Ev.lmpTableError noInst 0 []
      else s.modLmp (fun x => { x with next := some (s.fldA Reg.LMP_GROUP_GEN 15 0, s.readGroups a) })) s

/-- R461: present counts afresh. -/
def State.recount (s : State) : State :=
  let old := s.lmp.present.map (fun x => x.1)
  let s := old.foldl (fun s g => s.setPresent g 0) s
  s.presentFaults.foldl (fun s f => let g := s.slotGroup f.1 f.2.1; s.setPresent g (s.presentOf g + 1)) s

/-- R459, R461: blanking afresh. -/
def State.reblank (s : State) : State :=
  let s := (List.range 4096).foldl (fun s g =>
    if s.blankedBit g && !(s.policyOf g == 2 && s.presentOf g != 0) then
      (s.setBlanked g false).raise Ev.groupUnblank noInst 0 [(2, g)]
    else s) s
  s.presentFaults.foldl (fun s f =>
    let g := s.slotGroup f.1 f.2.1
    if g != 4096 && s.policyOf g == 2 && !s.blankedBit g then
      (s.setBlanked g true).raise Ev.groupBlank noInst 0
        [(2, g), (1, f.1 / 2048), (1, f.1 / 64 % 32), (1, f.1 % 64), (1, f.2.1), (1, f.2.2)]
    else s) s

/-- R455, R461: a loaded table takes effect at the tick. -/
def State.tableTakesEffect (s : State) : State :=
  match s.lmp.next with
  | none => s
  | some (gen, t) =>
    let s := s.modLmp (fun x => { x with groups := t, next := none })
    let s := (s.wrN Reg.LMP_STATUS (2 ^ 30 + gen)).raise Ev.tableLoaded noInst 0 [(2, gen)]
    s.recount.reblank

/-- R463: LMP_RESET. -/
def execLmpReset (s : State) : Host.Outcome State Fault Refusal :=
  gate s.tile
    (fun s =>
      let s := s.modLmp (fun x => { x with seen := [], since := [], tests := [], results := [], sweep := [] })
      s.modFur (fun f => { f with ops := f.ops.filter (fun o =>
        match o.kind with
        | .access => true
        | .config => true
        | _ => false) })) s

/-- R445, R452, R454, R455, R461, R462: LMP in the update cycle of the tick that begins frame `f`; `committed` that the active set has just
changed. -/
def State.lmpTick (s old : State) (f : Nat) (committed : Bool) : State :=
  let s := s.tableTakesEffect
  let changed := s.addrA Reg.LMP_GROUP_BASE_LO != old.addrA Reg.LMP_GROUP_BASE_LO ||
    s.fldA Reg.LMP_GROUP_GEN 15 0 != old.fldA Reg.LMP_GROUP_GEN 15 0
  let s := if committed && changed then s.modLmp (fun x => { x with loading := true }) else s
  let s := if (committed || s.panelDims != old.panelDims) && !s.lmp.faults.isEmpty then s.recount.reblank else s
  let m := s.mux
  let s := s.modLmp (fun x => { x with seen := x.seen.filter (fun e => e.1 % 64 < m),
                                       since := x.since.filter (fun e => e.1 % 64 < m) })
  s.lmpTests f

end Sys2Proof.Machine
end

