-- ==== Sys2Proof/Machine/Fur.lean ====
section
/-!
DEFINITION. The Furrow drive of a tile: lanes, subframes, companion access and the frame's schedule (chapter 10, R419 to R439).
-/

namespace Sys2Proof.Machine

/-! ### Companion access (R412, R439) -/

/-- R46, R436, R439: an access ends with a code; it is a command (R434, log entry 8). -/
def State.accessEnds (s : State) (code : Nat) : State :=
  (((s.cmdDone code).setBit Reg.FUR_ACC_CTL 31 false).setFld Reg.FUR_ACC_CTL 30 27 code).raise Ev.accessDone noInst 0 [(1, code)]

/-- R430, R434, R439: an access in progress on the lane, or on any lane, ends with a code. -/
def State.dropAccess (s : State) (l : Option Nat) (code : Nat) : State :=
  let mine := fun (o : FurOp) => o.kind == .access && (match l with
    | some n => o.lane == n
    | none => true)
  if s.fur.ops.any mine then (s.modFur (fun f => { f with ops := f.ops.filter (fun o => !mine o) })).accessEnds code else s

/-- R439: the word that an access's FUR_ACC_CTL asks for is turned away; none where it may start. -/
def State.accessRefused (s : State) (write : Bool) : Option Nat :=
  let l := s.fld Reg.FUR_ACC_CTL 13 8
  let all := write && s.bit Reg.FUR_ACC_CTL 3
  if !s.laneOn l then some Code.REFUSED
  else if s.laneState l = Lane.lost then some Code.FAULT
  else if !all && decide (s.fld (Reg.FUR_LANE_STATUS l) 21 16 ≤ s.fld Reg.FUR_ACC_CTL 21 16) then some Code.REFUSED
  else none

/-- R439: the writable fields of a written FUR_ACC_CTL. -/
def State.accessFields (s : State) (v : Word) : State :=
  s.wrN Reg.FUR_ACC_CTL ((s.rd Reg.FUR_ACC_CTL &&& 0xFCC0C0F1#32) ||| (v &&& 0x033F3F0E#32)).toNat

/-- R439: an access starts. -/
def State.accessStart (s : State) (write : Bool) (v : Word) : State :=
  if s.bit Reg.FUR_ACC_CTL 31 then s
  else
    let s := ((s.accessFields v).cmdPosted).setBit Reg.FUR_ACC_CTL 31 true
    match s.accessRefused write with
    | some code => s.accessEnds code
    | none =>
      let l := s.fld Reg.FUR_ACC_CTL 13 8
      let n := s.fld Reg.FUR_ACC_CTL 25 24 + 1
      let reg := s.fld Reg.FUR_ACC_ADDR 15 0
      let words := (List.range n).map (fun i => s.rd (Reg.FUR_ACC_DATA i))
      if write then s.furOp l .access (writePkt (s.bit Reg.FUR_ACC_CTL 3) (s.fld Reg.FUR_ACC_CTL 21 16) reg words) 0
      else s.furOp l .access (readPkt (s.fld Reg.FUR_ACC_CTL 21 16) reg n) 0

/-- R439: a write of FUR_ACC_CTL. -/
def State.accessCtl (s : State) (v : Word) : State :=
  if s.bit Reg.FUR_ACC_CTL 31 then s
  else if !v.toNat.testBit 0 then s.accessFields v
  else
    match bits v.toNat 2 1 with
    | 1 => s.accessStart false v
    | 2 => s.accessStart true v
    | _ => ((s.accessFields v).cmdPosted).accessEnds Code.REFUSED

/-- R439: FUR_ACCESS_READ. -/
def execFurAccessRead (v : Word) (s : State) : Host.Outcome State Fault Refusal :=
  gate s.tile (fun s => s.accessStart false v) s

/-- R439: FUR_ACCESS_WRITE. -/
def execFurAccessWrite (v : Word) (s : State) : Host.Outcome State Fault Refusal :=
  gate s.tile (fun s => s.accessStart true v) s

/-! ### Returns (R412, R440, R442) -/

/-- R412, R440: a WRITE or READ has come back right. -/
def State.opDone (s : State) (o : FurOp) (p : FurPkt) : State :=
  let w := bytesWords 4 (p.payload.drop 4)
  match o.kind with
  | .access =>
    let s := if o.pkt.type = 5 then
        (List.range (min 4 o.pkt.arg)).foldl (fun s i => s.wr (Reg.FUR_ACC_DATA i) (w.getD i 0)) s
      else s
    s.accessEnds Code.OK
  | .fault k r lap =>
    let s := (s.takeRecords o.lane k r w).lapDone lap
    s.furOp o.lane .clear (writePkt false o.pkt.addr (0x100 + 4 * r) w) 0
  | .config => s
  | .arm => s
  | .clear => s

/-- R412, R439, R442: a WRITE or READ has failed three times. -/
def State.opFails (s : State) (o : FurOp) : State :=
  match o.kind with
  | .access => s.accessEnds Code.FAULT
  | .config => s
  | .arm => s.inc Reg.LMP_READ_FAIL
  | .fault _ _ _ => s.inc Reg.LMP_READ_FAIL
  | .clear => s.inc Reg.LMP_READ_FAIL

/-- The first of a list of operations that satisfies `f`, and the rest. -/
def takeOp (f : FurOp → Bool) : List FurOp → Option FurOp × List FurOp
  | [] => (none, [])
  | o :: t => if f o then (some o, t) else let r := takeOp f t; (r.1, o :: r.2)

/-- R412: the operation that a returned packet belongs to: that sent with its seq, else the oldest of the lane. -/
def State.returned (s : State) (l seq : Nat) : Option FurOp × List FurOp :=
  let exact := takeOp (fun o => o.lane == l && o.seq == seq) s.fur.ops
  if exact.1.isSome then exact else takeOp (fun o => o.lane == l) s.fur.ops

/-- R405, R412: FURROW_PACKET_RETURN. -/
def execFurrowPacketReturn (l : Fin 64) (pkt : List Byte) (s : State) : Host.Outcome State Fault Refusal :=
  gate (s.tile && s.laneState l.val != Lane.off)
    (fun s =>
      let ok := furCrcOk pkt
      let p := parseFur pkt
      let s := if ok then s else s.inc (Reg.FUR_LANE_ERR l.val)
      if p.type ≠ 4 ∧ p.type ≠ 5 then s
      else
        let r := s.returned l.val (furSeq pkt)
        match r.1 with
        | none => s
        | some o =>
          let s := s.modFur (fun f => { f with ops := r.2 })
          if ok && (o.pkt.bcast || p.flags.testBit 3) then s.opDone o p
          else if o.fails + 1 < 3 then s.furOp l.val o.kind o.pkt (o.fails + 1)
          else s.opFails { o with fails := o.fails + 1 }) s

/-! ### Lanes (R429 to R432) -/

/-- R429, R433: the registers of the companions of a lane are written. -/
def State.writeCompanions (s : State) (l : Nat) : State :=
  let s := s.furOp l .config (writePkt true 0 0x10 [BitVec.ofNat 32 s.ghost]) 0
  let s := s.furOp l .config (writePkt true 0 0x11 [BitVec.ofNat 32 (s.fldA Reg.FUR_CURRENT 7 0)]) 0
  ((s.positions l 2).take 4).zipIdx.foldl (fun s p =>
    s.furOp l .config (writePkt false p.1 0x12 [BitVec.ofNat 32 (s.fldA (Reg.FUR_LANE_ROWCFG l) (8 * p.2 + 5) (8 * p.2))]) 0) s

/-- R411, R429, R432: FURROW_ENUM_RETURN. -/
def execFurrowEnumReturn (l : Fin 64) (pkt : List Byte) (s : State) : Host.Outcome State Fault Refusal :=
  gate (s.tile && (s.laneState l.val == Lane.starting || s.laneState l.val == Lane.mismatch))
    (fun s =>
      if !furCrcOk pkt then s.inc (Reg.FUR_LANE_ERR l.val)
      else
        let b := (parseFur pkt).payload
        let n := min 36 (leAt b 0 1)
        let ids := bytesWords n (b.drop 4)
        let s := s.modFur (fun f => { f with found := sPut (fun _ => []) f.found l.val ids })
        let sinks := (s.positions l.val 1).length
        let rows := (s.positions l.val 2).length
        let s := s.setFld (Reg.FUR_LANE_STATUS l.val) 28 0 (n * 2 ^ 16 + sinks * 2 ^ 8 + min 7 rows)
        if sinks ≠ s.expectSinks l.val ∨ rows ≠ s.expectRows l.val ∨ leAt b 1 1 ≠ 0 then
          (s.setLane l.val Lane.mismatch).raise Ev.enumMismatch l.val 0 [(1, n), (1, sinks), (1, rows)]
        else
          let s := (s.writeCompanions l.val).furSend l.val (linePkt 0xFF (s.stepNow + 400 + s.uMax.1) false true)
          ((s.setLane l.val Lane.up).modFur (fun f => { f with ran := l.val :: f.ran.filter (· != l.val) })).raise Ev.laneUp l.val 0 []) s

/-- R432: FURROW_ENUM_RETRY. -/
def execFurrowEnumRetry (l : Fin 64) (s : State) : Host.Outcome State Fault Refusal :=
  gate (s.tile && s.laneState l.val == Lane.mismatch) (fun s => s.furSend l.val enumPkt) s

/-- R430: FURROW_SYNC_RETURN, `ns` after the departure. -/
def execFurrowSyncReturn (l : Fin 64) (ns : Nat) (s : State) : Host.Outcome State Fault Refusal :=
  gate (s.tile && s.laneState l.val != Lane.off)
    (fun s =>
      let s := s.setFld (Reg.FUR_LANE_LOOP l.val) 15 0 (min 0xFFFF ns)
      if ns ≤ 20000 then s.modFur (fun f => { f with syncOut := f.syncOut.filter (· != l.val) }) else s) s

/-- R430, R463: a lane enters loop-lost. -/
def State.loopLost (s : State) (l : Nat) : State :=
  let s := (s.setLane l Lane.lost).raise Ev.laneLost l 0 []
  let s := s.modCal (fun g => { g with ran := s.cal.ran && !s.laneOn l })
  let s := s.dropAccess (some l) Code.FAULT
  let s := s.modFur (fun f => { f with ops := f.ops.filter (fun o => o.lane != l) })
  s.modLmp (fun x => { x with
    results := x.results.filter (fun y => y.1 != l)
    tests := x.tests.map (fun t => { t with toArm := t.toArm.filter (fun a => a.1 != l), armed := t.armed.filter (fun a => a.1 != l) }) })

/-- R430: the lane is watched for its loop. -/
def State.looped (s : State) (l : Nat) : Bool :=
  s.tile && s.laneState l != Lane.off && s.laneState l != Lane.lost

/-- R430: the SYNC of two consecutive ticks has not returned. -/
def State.syncLost (s : State) (l : Nat) : Bool := s.looped l && s.fur.syncOut.contains l && s.fur.syncMissed.contains l

/-- R430: TCLK cycles until 20 µs have passed since the tick. -/
def State.syncLeft (s : State) : Nat := 4 * (4000 - subMod 24 s.stepNow s.fur.c0)

/-- R430: FURROW_LOOP_TIMEOUT: time runs until 20 µs after the second tick. -/
def execFurrowLoopTimeout (l : Fin 64) (s : State) : Host.Outcome State Fault Refusal :=
  gate (s.syncLost l.val) (fun s => s.wait s.syncLeft (fun s => s.loopLost l.val)) s

/-- R430: FURROW_RX_LOCK_LOSS. -/
def execFurrowRxLockLoss (l : Fin 64) (s : State) : Host.Outcome State Fault Refusal :=
  gate (s.looped l.val) (fun s => s.loopLost l.val) s

/-- R431: FURROW_RX_LOCK. -/
def execFurrowRxLock (l : Fin 64) (s : State) : Host.Outcome State Fault Refusal :=
  gate (s.tile && s.laneState l.val == Lane.lost)
    (fun s => s.modFur (fun f => { f with restart := l.val :: f.restart.filter (· != l.val) })) s

/-! ### Subframes (R419 to R427) -/

/-- R420: t_j in steps after the tick. -/
def State.tj (s : State) (j : Nat) : Nat := s.lead + j * (s.tSf + s.fur.gap)

/-- R408, R428: the 48 on-times of a sink on a line in subframe `j`. -/
def State.sinkTimes (s : State) (faulty : List Nat) (l k r j : Nat) : List Nat :=
  (List.range 48).map (fun c =>
    match s.slotEmitter l k r c with
    | some n => s.emitterTime faulty j n
    | none => 0)

/-- R408: on-times in a DATA packet. -/
def packTimes : List Nat → List Byte
  | a :: b :: t => leBytes 3 (a % 2 ^ 12 + b % 2 ^ 12 * 2 ^ 12) ++ packTimes t
  | _ => []

/-- R444: the channels whose on-time is at least 8 steps. -/
def longMask (v : List Nat) : Nat := (v.zipIdx.map (fun x => if 8 ≤ x.1 then 2 ^ x.2 else 0)).sum

/-- R406, R421, R444: the DATA packets of a lane for subframe `j`, and the slots of at least 8 steps. -/
def State.uploadLane (s : State) (faulty : List Nat) (j l : Nat) : State × List (Nat × Nat) :=
  (List.range s.mux).foldl (fun (a : State × List (Nat × Nat)) r =>
    let t := (List.range (s.expectSinks l)).map (fun k => s.sinkTimes faulty l k r j)
    let a1 := if t.isEmpty then a.1 else a.1.furSend l (dataPkt r (t.flatMap packTimes))
    (a1, a.2 ++ (t.zipIdx.map (fun x => (lineKey l x.2 r, longMask x.1))).filter (fun x => x.2 != 0))) (s, [])

/-- R468: a light sensor takes part, and its panel rectangle. -/
def State.sensorRect (s : State) (i : Nat) : Rect :=
  rectOf (s.rdA (Reg.CAL_SENS_XY i)).toNat (s.rdA (Reg.CAL_SENS_WH i)).toNat
def State.sensorOn (s : State) (i : Nat) : Bool :=
  s.bitA Reg.CAL_CTL 0 && s.bitA Reg.CAL_CTL (8 + i) && (s.sensorRect i).within s.geo.panelW s.geo.panelH

/-- R474: the sum of the on-times of each class that subframe `j` uploads within a sensor's rectangle. -/
def State.driveSum (s : State) (faulty : List Nat) (j i : Nat) : List Nat :=
  let d := s.panelDims
  (List.range d.2.2).map (fun k =>
    ((s.sensorRect i).pixels.map (fun p => s.emitterTime faulty j ((p.2 * d.1 + p.1) * d.2.2 + k))).sum)

/-- R474: the drive sums of a started subframe count for the frame. -/
def State.addDrive (s : State) (drive : List (List Nat)) : State :=
  s.modCal (fun g => { g with drive := (List.range 8).map (fun i =>
      (List.range 4).map (fun k => ((s.cal.drive.getD i []).getD k 0) + ((drive.getD i []).getD k 0))) })

/-- R355, R357, R358, R425: check F of a watch region of the displayed frame; it acts from the next subframe. -/
def State.checkF (s : State) (w : Watch) : State :=
  let b := s.dispBuf
  let t4 := s.sigStore s.cor.buf[b] w
  let s := s.wrN (Reg.SCN_TW_SIG_T4 w.id) t4
  if lookupN s.cor.buf[b].t2 w.id == some t4 then s
  else
    let s := s.failChecks b w 8
    if !s.bitA Reg.SCN_TILE_CTL 0 || w.policy == 0 then s
    else if w.policy = 1 then s.modBuf b (fun f => { f with blank := w.rect :: f.blank })
    else s.modBuf b (fun f => { f with blankAll := true })

/-- R425: check F is made during the first subframe of a new frame. -/
def State.checkT4 (s : State) : State :=
  let f := s.cor.buf[s.dispBuf]
  if f.panelW ≠ 0 ∧ f.frame = s.frame then f.watches.foldl (fun s w => s.checkF w) s else s

/-- R420, R425, R459: the upload of subframe `j`. -/
def State.upload (s : State) (j : Nat) : State :=
  let s := s.unblank
  let faulty := s.faultyEmitters
  let drive := (List.range 8).map (fun i => if s.sensorOn i then s.driveSum faulty j i else [])
  let r := s.fur.joined.foldl (fun (a : State × List (Nat × Nat)) l =>
    let a1 := if j = 0 ∧ s.fur.apply then a.1.writeCompanions l else a.1
    let x := a1.uploadLane faulty j l
    (x.1.lmpWindow l j, a.2 ++ x.2)) (s, [])
  let s := r.1.modFur (fun f => { f with uploads := (j, r.2, drive) :: f.uploads, bad := [] })
  if j = 0 then s.checkT4 else s

/-- R420: FUR drives subframes in this frame, and subframe `j` fits. -/
def State.furRuns (s : State) (j : Nat) : Bool :=
  s.tile && s.fur.running && !s.fur.skip && decide (j < s.fur.shown)

/-- R420: SUBFRAME_UPLOAD. -/
def execSubframeUpload (j : Fin 16) (s : State) : Host.Outcome State Fault Refusal :=
  gate (s.furRuns j.val && !s.fur.uploads.any (fun u => u.1 == j.val)) (fun s => s.upload j.val) s

/-- R420, R433: the LINEs of a subframe, and the LINE 0xFF that ends it, on one lane. -/
def State.sendLines (s : State) (j l : Nat) : State :=
  let t := s.fur.c0 + s.tj j
  let s' := (List.range s.mux).foldl (fun s r =>
    s.furSend l (linePkt r (t + r * (s.ghost + s.lineW)) (r == 0) (r == 0 && j == 0 && s.fur.apply))) s
  s'.furSend l (linePkt 0xFF (t + s.tSf) false false)

/-- R424: a subframe whose upload is not complete is not started. -/
def State.subframeLate (s : State) (j : Nat) : State :=
  let s := s.fur.joined.foldl (fun s l => s.furSend l (linePkt 0xFF (s.fur.c0 + s.tj j) false false)) s
  let s := ((s.modFur (fun f => { f with lates := j :: f.lates })).inc Reg.FUR_SF_LATE).overrun 4
  if s.fur.lateRaised then s
  else (s.modFur (fun f => { f with lateRaised := true })).raise Ev.subframeLate noInst 1 [(4, s.fur.lates.length)]

/-- R420, R424, R444: SUBFRAME_START. The LINEs of the subframe leave ahead of their execution steps (log entry 23). -/
def execSubframeStart (j : Fin 16) (s : State) : Host.Outcome State Fault Refusal :=
  gate (s.furRuns j.val && !s.fur.started.contains j.val && !s.fur.lates.contains j.val)
    (fun s =>
      let s : State := match s.fur.uploads.find? (fun u => u.1 == j.val) with
        | none => s.subframeLate j.val
        | some u =>
          let s : State := s.fur.joined.foldl (fun s l => s.sendLines j.val l) s
          let s := s.modFur (fun f => { f with started := j.val :: f.started })
          u.2.1.foldl (fun (s : State) o => s.observe o.1 o.2) (s.addDrive u.2.2)
      s.sendTests j.val) s

/-- R427: FUR_FETCH_ERROR, for the next upload. -/
def execFurFetchError (addr len : Nat) (s : State) : Host.Outcome State Fault Refusal :=
  gate (s.tile && s.fur.running)
    (fun s => ((s.modFur (fun f => { f with bad := (addr, len) :: f.bad })).inc Reg.FUR_FETCH_ERR).raise Ev.fetchError noInst 0
      [(8, addr)]) s

/-- R434: FUR_RESET. -/
def execFurReset (s : State) : Host.Outcome State Fault Refusal :=
  gate s.tile
    (fun s =>
      let s := s.dropAccess none Code.DISCARDED
      let s := s.modFur (fun f => { f with skip := true, ops := [], restart := [], joined := [] })
      let s := s.modLmp (fun x => { x with tests := [], results := [] })
      let s := s.modCal (fun g => { g with ran := g.ran && !lanes.any s.laneOn })
      lanes.foldl (fun s l => if s.laneOn l then s.laneStart l else s) s) s

/-! ### The tick -/

/-- R421, R422, R428, R436, R438: what a commit does to FUR. -/
def State.furCommit (s : State) : State :=
  let u := s.uMax
  let s := (s.wrN Reg.FUR_CALC_U (u.1 % 2 ^ 24 + u.2 * 2 ^ 24)).wrN Reg.FUR_CALC_LEAD (s.lead % 2 ^ 24)
  let s := s.wrN Reg.FUR_CALC_NEED (s.needSteps (s.fldA Reg.FUR_GAP 15 0) s.sfCount % 2 ^ 24)
  let s := (s.wrN Reg.FUR_CALC_AVAIL (s.availSteps % 2 ^ 24)).setBit Reg.FUR_STATUS 23 s.mapOut
  let s := s.setFld Reg.FUR_STATUS 28 25 s.furCause
  if s.bitA Reg.FUR_CTL 0 && s.furCause != 0 then s.raise Ev.furConfig noInst 1 [(1, s.furCause)] else s

/-- R433: the values that a commit may change on the companions. -/
def State.compKey (s : State) : List Nat :=
  s.ghost :: s.fldA Reg.FUR_CURRENT 7 0 :: lanes.map (fun l => (s.rdA (Reg.FUR_LANE_ROWCFG l)).toNat)

/-- R424, R26: what is left of the frame that ends is skipped. -/
def State.furSkip (s : State) : State :=
  if s.fur.running && decide (s.fur.started.length + s.fur.lates.length < s.fur.shown) then
    let s := s.overrun 4
    if s.fur.lateRaised then s else s.raise Ev.subframeLate noInst 1 [(4, s.fur.lates.length)]
  else s

/-- R429, R430: a lane takes part in subframes: up, or loop-lost after it was up. -/
def State.laneRuns (s : State) (l : Nat) : Bool :=
  s.laneState l == Lane.up || (s.laneState l == Lane.lost && s.fur.ran.contains l)

/-- R429, R431: a lane at the tick: off, restarted, or one that goes on. -/
def State.laneTick (s : State) (l : Nat) : State :=
  if !s.laneOn l then
    if s.laneState l = Lane.off then s
    else (s.dropAccess (some l) Code.REFUSED).setLane l Lane.off |>.modFur (fun f =>
      { f with ops := f.ops.filter (fun o => o.lane != l), restart := f.restart.filter (· != l)
               ran := f.ran.filter (· != l), syncOut := f.syncOut.filter (· != l) })
  else if s.laneState l = Lane.off ∨ s.fur.restart.contains l then s.laneStart l
  else
    let s := s.furSend l (syncPkt s.stepNow)
    if s.laneRuns l then s else s.furSend l (linePkt 0xFF (s.stepNow + s.lead) false false)

/-- R426, R436: throttling of the frame. -/
def State.furThrottle (s : State) (on : Bool) : State :=
  let was := s.bit Reg.FUR_STATUS 24
  let s := (s.setBit Reg.FUR_STATUS 24 on).setFld Reg.FUR_STATUS 12 8 s.fur.shown
  if was == on then s else s.raise Ev.throttleChange noInst 1 [(1, s.fur.shown)]

/-- R419, R420, R426, R429 to R431, R433: FUR in the update cycle; `committed` that the active set has just changed, `drive` that
frames run (GLB_STATE.frame_valid). -/
def State.furTick (s old : State) (committed drive : Bool) : State :=
  let s := s.furSkip
  let s := lanes.foldl (fun s l => s.laneTick l) s
  let on := s.bitA Reg.FUR_CTL 0
  let cause := s.fld Reg.FUR_STATUS 28 25
  let up := lanes.filter s.laneRuns
  let runs := on && cause == 0 && drive
  let hot := s.bit Reg.HKP_STATE 5
  let gap := s.fldA Reg.FUR_GAP 15 0 + (if hot then s.fldA Reg.FUR_GAP 31 16 else 0)
  let shown := if runs then s.sfFit gap else 0
  let s := s.modFur (fun f =>
    { f with running := runs, c0 := s.stepNow, gap := gap, shown := shown, started := [], uploads := [], lates := [],
             lateRaised := false, skip := false, joined := if runs then up else [],
             apply := (committed && s.compKey != old.compKey) || (f.apply && !f.started.contains 0), bad := []
             syncOut := lanes.filter (fun l => s.laneState l != Lane.off), syncMissed := f.syncOut })
  let s := if runs then s else up.foldl (fun s l => s.furSend l (linePkt 0xFF (s.stepNow + s.lead) false false)) s
  let s := if runs then s.inc Reg.FUR_SF_SKIPPED (s.sfCount - shown) else s
  let st := if !on then 0 else if cause ≠ 0 then 3 else if up.isEmpty ∨ !drive then 1 else 2
  let s := (s.setFld Reg.FUR_STATUS 31 29 st).setFld Reg.FUR_STATUS 19 16 (s.sfCount - 1)
  s.furThrottle hot

end Sys2Proof.Machine
end

