-- ==== Sys2Proof/Machine/Companion.lean ====
section
/-!
DEFINITION. The companions on the Furrow lanes, current sinks and row drivers (chapter 10, R401 to R418). A companion is found
by its lane and its place in the cascade; a place where nothing has gained lock yet holds nothing.
-/

namespace Sys2Proof.Machine

/-- The key of a place. -/
def compKeyOf (l place : Fin 64) : Nat := 64 * l.val + place.val

/-- The companion at a place. -/
def State.comp (s : State) (l place : Fin 64) : Companion := sGet (fun _ => Companion.absent) s.fur.comp (compKeyOf l place)

/-- The state with the companion at a place changed. -/
def State.modComp (s : State) (l place : Fin 64) (f : Companion → Companion) : State :=
  s.modFur (fun x => { x with comp := sPut (fun _ => Companion.absent) x.comp (compKeyOf l place) (f (s.comp l place)) })

/-- A companion is attached there and in lock. -/
def State.compOn (s : State) (l place : Fin 64) : Bool := s.live && (s.comp l place).id != 0 && (s.comp l place).locked

/-- R413: the kind of a companion. -/
def Companion.sink (c : Companion) : Bool := bits c.id.toNat 31 28 == 1
def Companion.rowDriver (c : Companion) : Bool := bits c.id.toNat 31 28 == 2

/-- R409: its step counter. -/
def State.compStep (s : State) (c : Companion) : Nat := (s.stepNow + c.base) % 2 ^ 24

/-- R413: counters of STATUS and CRC_ERR. -/
def Companion.countLate (c : Companion) : Companion := { c with late := min 255 (c.late + 1) }
def Companion.countCrc (c : Companion) : Companion := { c with crcErr := min 65535 (c.crcErr + 1) }

/-- R416: every output off. -/
def Companion.dark (c : Companion) : Companion := { c with row := .none, lit := [] }

/-! ### Lock and time -/

/-- R403: COMPANION_SYMBOL_LOCK; `id` is the fixed ID word of the part that is attached there. -/
def execCompanionSymbolLock (l place : Fin 64) (id : Word) (s : State) : Host.Outcome State Fault Refusal :=
  gate s.live
    (fun s => s.modComp l place (fun c => { c with id := if c.id = 0 then id else c.id, locked := true, waitSync := true })) s

/-- R403, R416: COMPANION_LOCK_LOSS. -/
def execCompanionLockLoss (l place : Fin 64) (s : State) : Host.Outcome State Fault Refusal :=
  gate (s.compOn l place)
    (fun s => s.modComp l place (fun c => { c.dark with locked := false, waitSync := true, held := [], line := .none })) s

/-- R409, R416, R430: COMPANION_SYNC. -/
def execCompanionSync (l place : Fin 64) (pkt : List Byte) (s : State) : Host.Outcome State Fault Refusal :=
  gate (s.compOn l place && furCrcOk pkt && (parseFur pkt).type == 1)
    (fun s =>
      let p := ((s.comp l place).pos.map (fun x => x.1)).getD 0
      let v := (leAt (parseFur pkt).payload 0 3 + 8 * p) % 2 ^ 24
      let d := subMod 24 v (s.compStep (s.comp l place))
      s.modComp l place (fun c =>
        { c with base := subMod 24 v s.stepNow, waitSync := false,
                 slip := if 1 < d ∧ d < 2 ^ 24 - 1 then min 255 (c.slip + 1) else c.slip })) s

/-! ### Packets that change nothing else (R407, R410, R411) -/

/-- R410, R411: a companion without a position takes a timed packet only where it is LINE 0xFF. -/
def Companion.takes (c : Companion) (p : FurPkt) : Bool := c.pos.isSome || (p.type == 2 && p.arg == 0xFF)

/-- R448: the slots of a TEST that a sink discards. -/
def State.testLost (s : State) (c : Companion) (p : FurPkt) : State :=
  if p.type = 7 ∧ c.sink then s.testMissed (channels c.arm).length else s

/-- R407, R410: COMPANION_TIMED_PACKET. -/
def execCompanionTimedPacket (l place : Fin 64) (pkt : List Byte) (s : State) : Host.Outcome State Fault Refusal :=
  gate (s.compOn l place && ((parseFur pkt).type == 2 || (parseFur pkt).type == 7))
    (fun s =>
      let p := parseFur pkt
      let c := s.comp l place
      if !furCrcOk pkt then s.modComp l place Companion.countCrc
      else if !c.takes p then s
      else if subMod 24 p.at_ (s.compStep c) < 2 ^ 23 ∧ c.held.length < 8 then
        s.modComp l place (fun c => { c with held := c.held ++ [p] })
      else (s.modComp l place Companion.countLate).testLost c p) s

/-- R407, R408: COMPANION_DATA: a sink takes its 72 bytes. -/
def execCompanionData (l place : Fin 64) (pkt : List Byte) (s : State) : Host.Outcome State Fault Refusal :=
  gate (s.compOn l place && (parseFur pkt).type == 3)
    (fun s =>
      let p := parseFur pkt
      if !furCrcOk pkt then s.modComp l place Companion.countCrc
      else
        s.modComp l place (fun c =>
          match c.pos with
          | none => c
          | some (_, i) =>
            if c.sink && decide (p.addr ≤ i) && decide (72 * (i - p.addr + 1) ≤ p.payload.length) && decide (p.arg < 64) then
              let v := (List.range 24).flatMap (fun j =>
                let w := leAt p.payload (72 * (i - p.addr) + 3 * j) 3
                [w % 2 ^ 12, w / 2 ^ 12])
              { c with back := (p.arg, v) :: c.back.filter (fun x => x.1 != p.arg) }
            else c)) s

/-! ### ENUM (R411) -/

/-- R405: a companion sends a packet that it has changed; a bad CRC stays bad. -/
def forwarded (pkt body : List Byte) : List Byte :=
  body ++ leBytes 2 (if furCrcOk pkt then crc16 body else crc16 body ^^^ 0xFFFF)

/-- R411: COMPANION_ENUM. -/
def execCompanionEnum (l place : Fin 64) (pkt : List Byte) (s : State) : Host.Outcome State Fault Refusal :=
  gate (s.compOn l place && (parseFur pkt).type == 6)
    (fun s =>
      let p := parseFur pkt
      let c := s.comp l place
      let next := leAt p.payload 0 1
      let head := pkt.take 8
      if 36 ≤ next then
        let body := head ++ p.payload.take 1 ++ leBytes 1 1 ++ p.payload.drop 2
        let s := s.emit (.cascade l.val place.val (forwarded pkt body))
        if furCrcOk pkt then s.modComp l place (fun c => { c with pos := none }) else s
      else
        let before := (List.range next).filter (fun q => leAt p.payload (4 + 4 * q) 4 / 2 ^ 28 == bits c.id.toNat 31 28)
        let body := head ++ leBytes 1 (next + 1) ++ slice p.payload 1 (3 + 4 * next) ++ leBytes 4 c.id.toNat ++
          p.payload.drop (8 + 4 * next)
        let s := s.emit (.cascade l.val place.val (forwarded pkt body))
        if furCrcOk pkt then s.modComp l place (fun c => { c with pos := some (next, before.length) }) else s) s

/-! ### Registers (R412, R413) -/

/-- R413: a register of a companion. -/
def Companion.reg (c : Companion) (a : Nat) : Nat :=
  let pos := c.pos.getD (0, 0)
  if a = 0 then c.id.toNat
  else if a = 1 then b2n c.pos.isSome * 2 ^ 31 + pos.2 * 2 ^ 8 + pos.1
  else if a = 2 then b2n c.locked * 2 ^ 31 + c.late * 2 ^ 16 + c.missed * 2 ^ 8 + c.slip
  else if a = 3 then c.crcErr
  else if a = 0x10 then c.ghost.1
  else if a = 0x11 ∧ c.sink then c.current.1
  else if a = 0x12 ∧ c.rowDriver then c.rowFirst.1
  else if a = 0x20 ∧ c.sink then c.arm % 2 ^ 32
  else if a = 0x21 ∧ c.sink then c.arm / 2 ^ 32
  else if 0x100 ≤ a ∧ a < 0x200 ∧ c.sink then sGet none0 c.faults (a - 0x100)
  else 0

/-- R413: a register of a companion is written. -/
def Companion.setReg (c : Companion) (a v : Nat) : Companion :=
  if a = 3 then { c with crcErr := 0, late := 0, missed := 0, slip := 0 }
  else if a = 0x10 then { c with ghost := (v % 2 ^ 12, c.ghost.2) }
  else if a = 0x11 ∧ c.sink then { c with current := (v % 2 ^ 8, c.current.2) }
  else if a = 0x12 ∧ c.rowDriver then { c with rowFirst := (v % 2 ^ 6, c.rowFirst.2) }
  else if a = 0x20 ∧ c.sink then { c with arm := c.arm / 2 ^ 32 * 2 ^ 32 + v }
  else if a = 0x21 ∧ c.sink then { c with arm := c.arm % 2 ^ 32 + v % 2 ^ 16 * 2 ^ 32 }
  else if 0x100 ≤ a ∧ a < 0x200 ∧ c.sink then
    let old := sGet none0 c.faults (a - 0x100)
    { c with faults := sPut none0 c.faults (a - 0x100) (old ^^^ (old &&& v)) }
  else c

/-- R412: the packet is addressed to the companion. -/
def Companion.addressed (c : Companion) (p : FurPkt) : Bool :=
  match c.pos with
  | none => false
  | some (i, _) => p.bcast || p.addr == i

/-- R412: the header with flags.ack set, where the packet is addressed to one companion. -/
def ackHead (p : FurPkt) (pkt : List Byte) : List Byte :=
  if p.bcast then pkt.take 8 else leBytes 1 (p.type * 16 + (p.flags ||| 8)) ++ slice pkt 1 7

/-- R407, R412: COMPANION_WRITE. -/
def execCompanionWrite (l place : Fin 64) (pkt : List Byte) (s : State) : Host.Outcome State Fault Refusal :=
  gate (s.compOn l place && (parseFur pkt).type == 4)
    (fun s =>
      let p := parseFur pkt
      let c := s.comp l place
      let s := if c.addressed p && !p.bcast then
          s.emit (.cascade l.val place.val (forwarded pkt (ackHead p pkt ++ p.payload)))
        else s
      if !furCrcOk pkt then s.modComp l place Companion.countCrc
      else if c.addressed p then
        s.modComp l place (fun c => (List.range (min 4 p.arg)).foldl (fun c i =>
          c.setReg (leAt p.payload 0 2 + i) (leAt p.payload (4 + 4 * i) 4)) c)
      else s) s

/-- R412: COMPANION_READ. -/
def execCompanionRead (l place : Fin 64) (pkt : List Byte) (s : State) : Host.Outcome State Fault Refusal :=
  gate (s.compOn l place && (parseFur pkt).type == 5 && (s.comp l place).addressed (parseFur pkt))
    (fun s =>
      let p := parseFur pkt
      let c := s.comp l place
      let n := min 4 p.arg
      let words := (List.range n).flatMap (fun i => leBytes 4 (c.reg (leAt p.payload 0 2 + i)))
      s.emit (.cascade l.val place.val
        (forwarded pkt (ackHead p pkt ++ p.payload.take 4 ++ words ++ p.payload.drop (4 + 4 * n))))) s

/-! ### LINE and TEST (R415 to R418) -/

/-- The first held packet of a list that satisfies `f`, and the rest. -/
def takePkt (f : FurPkt → Bool) : List FurPkt → Option FurPkt × List FurPkt
  | [] => (none, [])
  | p :: t => if f p then (some p, t) else let r := takePkt f t; (r.1, p :: r.2)

/-- R410: the held packet that is executed in this step. -/
def State.due (s : State) (c : Companion) (f : FurPkt → Bool) : Option FurPkt × List FurPkt :=
  takePkt (fun p => f p && p.at_ == s.compStep c) c.held

/-- R415: swap and apply of a LINE. -/
def Companion.swapApply (c : Companion) (p : FurPkt) : Companion :=
  let c := if p.flags.testBit 0 then { c with front := c.back, back := [] } else c
  if p.flags.testBit 1 then
    { c with ghost := (c.ghost.1, c.ghost.1), current := (c.current.1, c.current.1), rowFirst := (c.rowFirst.1, c.rowFirst.1) }
  else c

/-- R413: outputs of a row driver. -/
def Companion.outputs (c : Companion) : Nat := bits c.id.toNat 7 0

/-- R415: the row output of a scan line, where the row driver has it. -/
def Companion.rowFor (c : Companion) (r : Nat) : Option Nat :=
  if c.rowDriver && decide (c.rowFirst.2 ≤ r) && decide (r - c.rowFirst.2 < c.outputs) then some (r - c.rowFirst.2) else none

/-- R413, R417: records of a line enter the FAULT words. -/
def Companion.record (c : Companion) (r openM shortM : Nat) : Companion :=
  let put := fun (f : List (Nat × Nat)) (i v : Nat) => sPut none0 f (4 * r + i) (sGet none0 f (4 * r + i) ||| v)
  { c with faults := put (put (put (put c.faults 0 (openM % 2 ^ 32)) 1 (openM / 2 ^ 32)) 2 (shortM % 2 ^ 32)) 3 (shortM / 2 ^ 32) }

/-- R415, R417: line `r` is executed; `openCh` and `shortCh` are what the sink's analog criteria find. -/
def Companion.doLine (c : Companion) (p : FurPkt) (openCh shortCh : Nat) : Companion :=
  let c := { (c.dark.swapApply p) with line := some p.arg }
  if c.waitSync then c
  else if c.sink then
    match c.front.find? (fun x => x.1 == p.arg) with
    | none => { c with missed := min 255 (c.missed + 1) }
    | some (_, v) =>
      let lit := (v.zipIdx.map (fun x => (x.2, x.1))).filter (fun x => x.2 != 0)
      let long := longMask v
      ({ c with lit := lit }).record p.arg (openCh &&& long) (shortCh &&& long)
  else { c with row := c.rowFor p.arg }

/-- R410, R415, R417: COMPANION_LINE. -/
def execCompanionLine (l place : Fin 64) (openCh shortCh : BitVec 48) (s : State) : Host.Outcome State Fault Refusal :=
  gate (s.compOn l place)
    (fun s =>
      let d := s.due (s.comp l place) (fun p => p.type == 2 && decide (p.arg < 64))
      match d.1 with
      | none => s
      | some p => s.modComp l place (fun c => ({ c with held := d.2 }).doLine p openCh.toNat shortCh.toNat)) s

/-- R416: COMPANION_LINE_OFF. -/
def execCompanionLineOff (l place : Fin 64) (s : State) : Host.Outcome State Fault Refusal :=
  gate (s.compOn l place)
    (fun s =>
      let d := s.due (s.comp l place) (fun p => p.type == 2 && p.arg == 0xFF)
      match d.1 with
      | none => s
      | some p => s.modComp l place (fun c => { (({ c with held := d.2 }).dark.swapApply p) with line := .none })) s

/-- R418: COMPANION_TEST. A row driver's pulse of 16 steps ends before anything else can happen to it. -/
def execCompanionTest (l place : Fin 64) (openCh shortCh : BitVec 48) (s : State) : Host.Outcome State Fault Refusal :=
  gate (s.compOn l place)
    (fun s =>
      let d := s.due (s.comp l place) (fun p => p.type == 7)
      match d.1 with
      | none => s
      | some p =>
        let c := { s.comp l place with held := d.2 }
        if c.line.isSome then (s.modComp l place (fun _ => c.countLate)).testLost c p
        else if c.sink && !c.waitSync && decide (p.arg < 64) then
          s.modComp l place (fun _ =>
            { (c.record p.arg (openCh.toNat &&& c.arm) (shortCh.toNat &&& c.arm)) with arm := 0 })
        else s.modComp l place (fun _ => c)) s

/-- R416: ROW_DRIVER_WATCHDOG. -/
def execRowDriverWatchdog (l place : Fin 64) (s : State) : Host.Outcome State Fault Refusal :=
  gate (s.compOn l place && (s.comp l place).rowDriver)
    (fun s => s.modComp l place (fun c => { c with row := .none })) s

end Sys2Proof.Machine
end

