-- ==== Sys2Proof/Machine/Cal.lean ====
section
/-!
DEFINITION. Colour feedback and content-correlation calibration (chapter 12, R468 to R491).
-/

namespace Sys2Proof.Machine

/-- R488, R605: the event sources of CAL. -/
abbrev Ev.solveStart : Nat := 400
abbrev Ev.gatePassed : Nat := 401
abbrev Ev.solveDone : Nat := 402
abbrev Ev.anchorWritten : Nat := 403
abbrev Ev.measMissed : Nat := 404
abbrev Ev.sensorSat : Nat := 405

/-- The state with a sensor changed. -/
def State.modSens (s : State) (i : Nat) (f : Sensor → Sensor) : State :=
  s.modCal (fun c => { c with sens := c.sens.zipIdx.map (fun x => if x.2 = i then f x.1 else x.1) })

/-- The sensor of a number. -/
def State.sens (s : State) (i : Nat) : Sensor := s.cal.sens.getD i Sensor.clear

/-- R468: the enabled sensors. -/
def State.sensors (s : State) : List Nat := (List.range 8).filter s.sensorOn

/-! ### Sampling and classification (R469, R470) -/

/-- R469: the period in force. -/
def State.samplePeriod (s : State) : Nat := max (s.fldA Reg.CAL_ADC_CTL 15 0) (100 * s.sensors.length)

/-- R469: sample instant `q` in steps after the tick. -/
def State.sampleAt (s : State) (q : Nat) : Nat := s.fldA Reg.CAL_ADC_CTL 27 16 + q * s.samplePeriod

/-- R470: the classes of a sample. -/
inductive SampleClass where
  | lit
  | dark
  | mixed
  deriving DecidableEq, Repr

/-- R470: the class of an aperture from step `a` after the tick. -/
def State.sampleClass (s : State) (a : Nat) : SampleClass :=
  let line := s.ghost + s.lineW
  if s.lmp.sent.any (fun t => decide (a < t + 18) && decide (t < a + 8)) then .mixed
  else
    match s.fur.started.find? (fun j => decide (s.tj j < a + 8) && decide (a < s.tj j + s.tSf)) with
    | none => .dark
    | some j =>
      let o := a - s.tj j
      if a < s.tj j ∨ s.tj j + s.tSf < a + 8 then .mixed
      else if o % line + 8 ≤ s.ghost then .dark
      else if s.ghost ≤ o % line ∧ o % line + 8 ≤ line then .lit
      else .mixed

/-! ### Filters (R471, R472) -/

/-- R471: an input enters a filter; the answer holds the output in 16.8 format, none where it is flagged. The taps of a Hann filter
are not stated, so its output is a free value. -/
def State.firIn (s : State) (f : Fir) (x : Nat) : State × Fir × Option Nat :=
  let h := (x :: f.hist).take 64
  let flagged := f.invalid != 0 || f.settling != 0
  let f' : Fir := { hist := h, invalid := f.invalid - 1, settling := f.settling - 1 }
  match s.fldA Reg.CAL_ADC_CTL 31 30 with
  | 1 => (s.free.2, f', if flagged then none else some (s.free.1 % 2 ^ 24))
  | 2 => (s, f', if flagged then none else some (x * 256))
  | _ => (s, f', if flagged then none else some (h.sum * 256 / 64))

/-- R472: CAL_ADC_STATUS: the largest counts still to run. -/
def State.adcStatus (s : State) : State :=
  let most := fun (g : Fir → Nat) => (s.cal.sens.map (fun x => max (g x.lit) (g x.dark))).foldl max 0
  s.wrN Reg.CAL_ADC_STATUS
    (b2n (decide (s.fldA Reg.CAL_ADC_CTL 15 0 < 100 * s.sensors.length)) * 2 ^ 31 + most (fun f => f.invalid) * 2 ^ 16 +
      most (fun f => f.settling) * 2 ^ 8)

/-- The state with every filter changed. -/
def State.modFirs (s : State) (f : Fir → Fir) : State :=
  (s.modCal (fun c => { c with sens := c.sens.map (fun x => { x with lit := f x.lit, dark := f x.dark }) })).adcStatus

/-- R472: a synchronising reset. -/
def State.syncReset (s : State) : State :=
  let n := if s.fldA Reg.CAL_ADC_CTL 31 30 = 2 then 0 else 32
  s.modFirs (fun f => { hist := [], invalid := f.invalid, settling := n })

/-- R472: a commit has changed the filter. -/
def State.filterChanged (s : State) : State := s.modFirs (fun f => { f with invalid := 64 })

/-- R472: a change and a synchronising reset in one cycle: the larger count and its flag. -/
def State.filterBoth (s : State) : State := s.modFirs (fun _ => { hist := [], invalid := 64, settling := 0 })

/-- R472: CAL_ADC_SYNC. -/
def execCalAdcSync (s : State) : Host.Outcome State Fault Refusal :=
  gate s.tile State.syncReset s

/-! ### One sample (R469, R473) -/

/-- R473: a conversion at an end of the range. -/
def State.saturated (s : State) (i : Nat) : State :=
  let s := (s.inc Reg.CAL_SAT).modSens i (fun x => { x with sat := true })
  match s.cal.solve with
  | some v =>
    if s.fld Reg.CAL_SOLVE_STATUS 31 29 = Phase.running ∧ !v.satSeen.contains i then
      (s.modCal (fun c => { c with solve := some { v with satSeen := i :: v.satSeen } })).raise Ev.sensorSat i 1 []
    else s
  | none => s

/-- R470, R471: one sensor's conversion of a sample of a class. -/
def State.convert (s : State) (cls : SampleClass) (i code : Nat) : State :=
  let s := if code = 0 ∨ code = 0xFFFF then s.saturated i else s
  let x := s.sens i
  match cls with
  | .mixed => s.inc Reg.CAL_MIXED
  | .lit =>
    let r := s.firIn x.lit code
    r.1.modSens i (fun x =>
      match r.2.2 with
      | some v => { x with lit := r.2.1, litSum := x.litSum + v, litN := x.litN + 1 }
      | none => { x with lit := r.2.1 })
  | .dark =>
    let r := s.firIn x.dark code
    r.1.modSens i (fun x =>
      match r.2.2 with
      | some v => { x with dark := r.2.1, darkSum := x.darkSum + v, darkN := x.darkN + 1 }
      | none => { x with dark := r.2.1 })

/-- R469: TCLK cycles until sample instant `q` of the frame. -/
def State.sampleLeft (s : State) (q : Nat) : Nat := 4 * (s.sampleAt q - subMod 24 s.stepNow s.fur.c0)

/-- R470 to R473: sample instant `q` is sampled with the codes that the enabled sensors convert to. -/
def State.sample (s : State) (q : Nat) (codes : Vector (BitVec 16) 8) : State :=
  let cls := s.sampleClass (s.sampleAt q)
  let s := s.modCal (fun c => { c with nextQ := q + 1 })
  (s.sensors.foldl (fun s i => s.convert cls i (codes[Fin.ofNat 8 i]).toNat) s).adcStatus

/-- R469, R487: CAL samples at instant `q` of the frame, which is still to come. -/
def State.samples (s : State) (q : Nat) : Bool :=
  s.tile && s.bitA Reg.CAL_CTL 0 && s.frameValid && s.cal.everRan && decide (s.cal.nextQ ≤ q) && decide (s.sampleAt q ≤ s.availSteps)

/-- R469, R487: CAL_SAMPLE: time runs to sample instant `q` of the frame. -/
def execCalSample (q : Nat) (codes : Vector (BitVec 16) 8) (s : State) : Host.Outcome State Fault Refusal :=
  gate (s.samples q) (fun s => s.wait (s.sampleLeft q) (fun s => s.sample q codes)) s

/-! ### Starting and ending a solve (R477, R482) -/

/-- The phase of the solve. -/
def State.solvePhase (s : State) : Nat := s.fld Reg.CAL_SOLVE_STATUS 31 29

/-- R477: the destination of a solve started now. -/
def State.solveDest (s : State) (v : Nat) : Nat :=
  if v.testBit 12 then
    let t := sx 16 (s.fld Reg.COR_TEMP_STATUS 15 0)
    let us := (List.range 8).filter (fun k => s.usableSets.contains k)
    us.foldl (fun a k => if (s.tag k - t).natAbs < (s.tag a - t).natAbs then k else a) (us.headD (bits v 10 8))
  else bits v 10 8

/-- R478: nothing accumulated. -/
def SensAcc.zero : SensAcc :=
  { n := 0, d := List.replicate 4 0, l := 0, ll := 0, dd := List.replicate 4 (List.replicate 4 0), dl := List.replicate 4 0 }

/-- R477, R490: the fields of a written CAL_SOLVE_CTL. -/
def State.solveFields (s : State) (v : Word) : State :=
  let old := s.rd Reg.CAL_SOLVE_CTL
  s.wr Reg.CAL_SOLVE_CTL ((v &&& 0xFFFF1710#32) ||| (old &&& 2#32 &&& (v ^^^ 0xFFFFFFFF#32)))

/-- R477: a go. -/
def State.solveGo (s : State) (v : Nat) : State :=
  if s.solvePhase = Phase.queued ∨ s.solvePhase = Phase.running then s.setBit Reg.CAL_SOLVE_CTL 1 true
  else
    let tgt := (List.range 8).map (fun i => (List.range 4).map (fun k => (s.rdA (Reg.CAL_SENS_TGT i k)).toNat))
    let x : Solve := { anchor := v.testBit 4, dest := s.solveDest v, step := false, ready := false, passed := [], gain := [],
                       result := [], temps := (0, 0), last := 0, satSeen := [], targets := tgt, measured := 0,
                       acc := List.replicate 8 SensAcc.zero }
    let s := (s.modCal (fun c => { c with solve := some x })).cmdPosted
    let s := (List.range 8).foldl (fun s i => s.wr (Reg.CAL_SENS_FLAGS i) 0) s
    (s.wr Reg.CAL_SOLVE_ELAPSED 0).wrN Reg.CAL_SOLVE_STATUS (statusWord Phase.queued 0 false 0 0 (bits v 31 24))

/-- R46, R482, R488: the solve completes with a code. -/
def State.solveEnds (s : State) (code : Nat) : State :=
  let phase := if code = Code.DISCARDED then Phase.discarded else Phase.done
  let s := (s.setFld Reg.CAL_SOLVE_STATUS 31 29 phase).setFld Reg.CAL_SOLVE_STATUS 28 25 code
  ((s.modCal (fun c => { c with solve := none })).cmdDone code).raise Ev.solveDone noInst 0 [(1, code)]

/-- R482: the solve in progress, if any, is discarded. -/
def State.solveDiscard (s : State) : State :=
  if s.solvePhase = Phase.queued ∨ s.solvePhase = Phase.running then s.solveEnds Code.DISCARDED else s

/-- R490: a write of CAL_SOLVE_CTL: an abort, then a go. -/
def State.solveCtl (s : State) (v : Word) : State :=
  let s := s.solveFields v
  let s := if v.toNat.testBit 2 then s.solveDiscard else s
  if v.toNat.testBit 0 then s.solveGo v.toNat else s

/-- R477: CAL_SOLVE_GO. -/
def execCalSolveGo (v : Word) (s : State) : Host.Outcome State Fault Refusal :=
  gate s.tile (fun s => (s.solveFields v).solveGo v.toNat) s

/-- R482: CAL_SOLVE_ABORT. -/
def execCalSolveAbort (s : State) : Host.Outcome State Fault Refusal :=
  gate s.tile State.solveDiscard s

/-- R487: CAL_RESET. -/
def execCalReset (s : State) : Host.Outcome State Fault Refusal :=
  gate s.tile (fun s => s.solveDiscard.syncReset) s

/-! ### Statistics -/

/-- The integer square root. -/
def isqrt (n : Nat) : Nat :=
  ((List.range 96).reverse).foldl (fun r b => if (r + 2 ^ b) * (r + 2 ^ b) ≤ n then r + 2 ^ b else r) 0

/-- R479: n² times the variance of D_k, and the square of its sum. -/
def SensAcc.dk (a : SensAcc) (k : Nat) : Nat := a.d.getD k 0
def SensAcc.dkl (a : SensAcc) (k l : Nat) : Nat := (a.dd.getD k []).getD l 0
def SensAcc.cov (a : SensAcc) (k l : Nat) : Int := (a.n * a.dkl k l : Nat) - (a.dk k * a.dk l : Nat)
def SensAcc.covL (a : SensAcc) (k : Nat) : Int := (a.n : Int) * a.dl.getD k 0 - (a.dk k : Int) * a.l
def SensAcc.varL (a : SensAcc) : Int := (a.n : Int) * a.ll - a.l * a.l

/-- R474: e of the tile. -/
def State.eNow (s : State) : Nat := s.panelDims.2.2

/-- R479: the classes that a sensor's target leaves in. -/
def State.calClasses (s : State) (i : Nat) : List Nat :=
  (List.range s.eNow).filter (fun k => s.rdA (Reg.CAL_SENS_TGT i k) != 0)

/-- R491: a class's relative variance in u0.16, saturating; 0 where its mean drive is zero. -/
def SensAcc.relVar (a : SensAcc) (k : Nat) : Nat :=
  if a.dk k = 0 then 0 else min 65535 (((a.cov k k).toNat * 65536) / (a.dk k * a.dk k))

/-- R479: the sensor passes the gate. -/
def State.passesGate (s : State) (a : SensAcc) (i : Nat) : Bool :=
  decide (max 4096 (s.fld Reg.CAL_SOLVE_GATE 31 16) ≤ a.n) &&
    (s.calClasses i).all (fun k =>
      a.dk k != 0 && decide (s.fld Reg.CAL_SOLVE_GATE 15 0 * (a.dk k * a.dk k) ≤ (a.cov k k).toNat * 65536))

/-- R485: the correlation of two classes' drive sums in u0.16; 0 where one does not vary or they move apart. -/
def SensAcc.corr (a : SensAcc) (k l : Nat) : Nat :=
  let c := a.cov k l
  let v := (a.cov k k * a.cov l l).toNat
  if c ≤ 0 ∨ v = 0 then 0 else min 65535 (isqrt (c.toNat * c.toNat * 2 ^ 32 / v))

/-- R485, R491: CAL_SENSi_STAT; the least variance over no class is a free value. -/
def State.sensStat (s : State) (a : SensAcc) (i : Nat) : Nat :=
  let ks := s.calClasses i
  let v := if ks.isEmpty then s.free.1 % 2 ^ 16 else (ks.map a.relVar).foldl min 65535
  let c := (ks.flatMap (fun k => (ks.filter (fun l => decide (k < l))).map (fun l => a.corr k l))).foldl max 0
  v * 2 ^ 16 + c

/-- R478, R489: the mean of T over the contributed frames. -/
def Solve.tMean (x : Solve) : Nat := if x.temps.2 = 0 then 0 else tc 16 (x.temps.1.fdiv x.temps.2)

/-- R478: a partial publication. -/
def State.publishPartial (s : State) (x : Solve) : State :=
  let s := s.sensors.foldl (fun s i =>
    let a := x.acc.getD i SensAcc.zero
    (s.wrN (Reg.CAL_SENS_FRAMES i) a.n).wrN (Reg.CAL_SENS_STAT i) (s.sensStat a i)) s
  let s := s.setFld Reg.CAL_SOLVE_INFO 15 0 x.tMean
  (s.bumpFld Reg.CAL_SOLVE_STATUS 15 8).setBit Reg.CAL_SOLVE_STATUS 24 true

/-! ### The solve step (R480, R481) -/

/-- The determinant of a matrix of at most `n` rows, by its first row. -/
def det : Nat → List (List Int) → Int
  | 0, _ => 1
  | _, [] => 1
  | n + 1, r :: rows =>
    (r.zipIdx.map (fun x =>
      (if x.2 % 2 = 0 then x.1 else -x.1) * det n (rows.map (fun q => q.eraseIdx x.2)))).sum

/-- R480: the fit of a sensor over classes `ks`: the common denominator, and the numerator of each slope. -/
def SensAcc.fit (a : SensAcc) (ks : List Nat) : Int × List Int :=
  let m := ks.map (fun k => ks.map (fun l => a.cov k l))
  let c := ks.map a.covL
  (det 4 m, (List.range ks.length).map (fun j => det 4 ((m.zip c).map (fun r => r.1.set j r.2))))

/-- R480, R491: the coefficient u16.16 codes per full drive of a slope `num / den`, 0 where it is not positive. -/
def coefficient (num den : Int) : Nat := min 0xFFFFFFFF (((num * 2 ^ 32).fdiv den).toNat)

/-- R480, R491: CAL_SENSi_FIT: r2 and the residual RMS. -/
def SensAcc.fitWord (a : SensAcc) (den expl : Int) : Nat :=
  let t := a.varL
  let r2 := min 65535 ((expl * 65536).fdiv (t * den)).toNat
  let ms := ((t * den - expl).fdiv (den * ((a.n : Int) * a.n))).toNat
  r2 * 2 ^ 16 + min 65535 (isqrt ms)

/-- R480: the fit of one sensor that passed. Where the classes' drive sums do not determine the coefficients, or the light has not
varied, the spec states no values and they are free. -/
def State.fitSensor (s : State) (x : Solve) (i : Nat) : State :=
  let a := x.acc.getD i SensAcc.zero
  let ks := s.calClasses i
  let f := a.fit ks
  let s := ks.zipIdx.foldl (fun s k =>
    let s' := if f.1 = 0 then s.free.2 else s
    let num := f.2.getD k.2 0
    let bad := f.1 != 0 && decide ((num * f.1) ≤ 0)
    let v := if f.1 = 0 then s.free.1 % 2 ^ 32 else if bad then 0 else coefficient num f.1
    (s'.wrN (Reg.CAL_SENS_A i k.1) v).setBit (Reg.CAL_SENS_FLAGS i) (24 + k.1) bad) s
  let expl := ((f.2.zip (ks.map a.covL)).map (fun x => x.1 * x.2)).sum
  let s := if f.1 = 0 ∨ a.varL = 0 then s.free.2.wrN (Reg.CAL_SENS_FIT i) s.free.1
    else s.wrN (Reg.CAL_SENS_FIT i) (a.fitWord f.1 expl)
  s.setBit (Reg.CAL_SENS_FLAGS i) 31 true

/-- R481: the new gain and the spread of a class; none where it is not solved. The spread over a ratio of zero is a free value. -/
def State.newGain (s : State) (x : Solve) (k : Nat) : Option (Nat × Nat) :=
  let used := x.passed.filter (fun i => s.rdA (Reg.CAL_SENS_TGT i k) != 0 && s.rd (Reg.CAL_SENS_A i k) != 0)
  let r := used.map (fun i =>
    let a := (s.rd (Reg.CAL_SENS_A i k)).toNat
    ((s.rdA (Reg.CAL_SENS_TGT i k)).toNat * 16384 + a / 2) / a)
  if used.isEmpty ∨ s.eNow ≤ k then none
  else
    let n := r.length
    let rho := (r.sum + n / 2) / n
    let g := clampN 1 65535 ((x.gain.getD k 0 * rho + 8192) / 2 ^ 14)
    let least := r.foldl min (r.headD 1)
    some (g, if least = 0 then s.free.1 % 2 ^ 16 else min 65535 ((r.foldl max 0) * 4096 / least))

/-- R480, R481: CAL_SOLVE_STEP_DONE. -/
def execCalSolveStepDone (s : State) : Host.Outcome State Fault Refusal :=
  gate s.tile
    (fun s =>
      match s.cal.solve with
      | none => s
      | some x =>
        if x.step && !x.ready then
          let s := x.passed.foldl (fun s i => s.fitSensor x i) s
          let res := (List.range 4).map (fun k => if x.anchor then none else s.newGain x k)
          s.modCal (fun c => { c with solve := some { x with ready := true, result := res } })
        else s) s

/-! ### The tick (R475 to R479, R482, R483, R486) -/

/-- R475: the means of the frame that ends; a mean of no outputs is a free value. -/
def meanOr (s : State) (sum n : Nat) : State × Nat :=
  if n = 0 then (s.free.2, s.free.1 % 2 ^ 24) else (s, sum / n)

/-- R475: the light value of a sensor, and the registers that present it. -/
def State.lightOf (s : State) (i : Nat) : State × Int :=
  let x := s.sens i
  let a := meanOr s x.litSum x.litN
  let b := meanOr a.1 x.darkSum x.darkN
  let l := (((a.2 : Int) - b.2) * s.fur.started.length).fdiv s.sfCount
  ((b.1.wrN (Reg.CAL_SENS_LIGHT i) (tc 32 l)).wrN (Reg.CAL_SENS_DARK i) (b.2 % 2 ^ 24), l)

/-- R474: D_ik of the frame that ends; with lines of no width it is a free value. -/
def State.driveOf (s : State) (i k : Nat) : Nat :=
  if s.lineW = 0 then s.free.1 % 2 ^ 25 else
  2 ^ 24 * ((s.cal.drive.getD i []).getD k 0) / ((s.sensorRect i).area * s.sfCount * s.lineW)

/-- R476: a sensor measured too few samples. -/
def State.tooFew (s : State) (i : Nat) : Bool := decide ((s.sens i).litN < 64) || decide ((s.sens i).darkN < 16)

/-- R476: the frame's temperature keeps it out. -/
def State.tempOut (s : State) (dest : Nat) : Bool :=
  match s.cal.temp with
  | none => true
  | some t => decide (s.fldA Reg.CAL_T_BAND 15 0 < (t - s.tag dest).natAbs)

/-- R478: a frame of a sensor is added to its sums. -/
def SensAcc.add (a : SensAcc) (d : List Nat) (l : Int) : SensAcc :=
  { n := a.n + 1, d := (List.range 4).map (fun k => a.d.getD k 0 + d.getD k 0), l := a.l + l, ll := a.ll + l * l,
    dd := (List.range 4).map (fun k => (List.range 4).map (fun j => a.dkl k j + d.getD k 0 * d.getD j 0)),
    dl := (List.range 4).map (fun k => a.dl.getD k 0 + (d.getD k 0 : Int) * l) }

/-- R476: the cases that keep the frame from a running solve, counted; the answer holds the sensors that contribute. -/
def State.exclusions (s : State) (x : Solve) : State × List Nat :=
  let few := s.sensors.filter s.tooFew
  let sat := s.sensors.filter (fun i => (s.sens i).sat)
  let out := s.tempOut x.dest
  let s' := if few.isEmpty then s
    else ((s.inc Reg.CAL_EXCL_SAMPLES few.length).overrun 6).raise Ev.measMissed noInst 1 []
  let s' := sat.foldl (fun s i => s.incFld (Reg.CAL_SENS_FLAGS i) 15 0) s'
  let s' := if s.cal.ran then s' else s'.inc Reg.CAL_EXCL_STATE
  let s' := if out then s'.inc Reg.CAL_EXCL_TEMP else s'
  (s', if s.cal.ran && !out then s.sensors.filter (fun i => !few.contains i && !sat.contains i) else [])

/-- R478: a measured frame of a running solve; `light` is L_i by sensor. -/
def State.measure (s : State) (x : Solve) (light : List (Nat × Int)) : State × Solve :=
  let r := s.exclusions x
  let acc := x.acc.zipIdx.map (fun a =>
    if r.2.contains a.2 then
      a.1.add ((List.range 4).map (fun k => if k < s.eNow then s.driveOf a.2 k else 0))
        (((light.find? (fun y => y.1 == a.2)).map (fun y => y.2)).getD 0)
    else a.1)
  let t := match s.cal.temp with
    | some v => if r.2.isEmpty then x.temps else (x.temps.1 + v, x.temps.2 + 1)
    | none => x.temps
  let x := { x with acc := acc, temps := t, measured := x.measured + 1 }
  (r.1.wrN Reg.CAL_SOLVE_ELAPSED x.measured, x)

/-- R478: the smallest count of the enabled sensors. -/
def State.leastCount (s : State) (x : Solve) : Nat :=
  match s.sensors.map (fun i => (x.acc.getD i SensAcc.zero).n) with
  | [] => 0
  | a :: t => t.foldl min a

/-- R481: the active gains of a set. -/
def State.gainsOf (s : State) (t : Nat) : List Nat := (List.range 4).map (s.classGain t)

/-- R478, R479: progress, partial results and the gate. -/
def State.gateTick (s : State) (x : Solve) : State :=
  let least := s.leastCount x
  let goal := max 4096 (s.fld Reg.CAL_SOLVE_GATE 31 16)
  let s := s.setFld Reg.CAL_SOLVE_STATUS 22 16 (min 99 (100 * least / goal))
  let new := decide (x.last < least / 64)
  let s := if new then s.publishPartial x else s
  let x := { x with last := least / 64 }
  let passed := s.sensors.filter (fun i => s.passesGate (x.acc.getD i SensAcc.zero) i)
  let all := passed.length == s.sensors.length && !passed.isEmpty
  let bound := s.fld Reg.CAL_SOLVE_CTL 23 16
  let stop := bound != 0 && decide (bound * 4096 ≤ x.measured)
  if all || (stop && !passed.isEmpty) then
    let x := { x with step := true, passed := passed }
    (s.modCal (fun c => { c with solve := some x })).raise Ev.gatePassed noInst 0 []
  else if stop then (s.modCal (fun c => { c with solve := some x })).solveEnds Code.REFUSED
  else s.modCal (fun c => { c with solve := some x })

/-- R482: the result registers are published. -/
def State.publishResult (s : State) (x : Solve) : State :=
  let g := (List.range 4).map (fun k =>
    match x.result.getD k none with
    | some r => r
    | none => (x.gain.getD k 0, 0))
  let g1 := fun (k : Nat) => (g.getD k (0, 0)).1
  let g2 := fun (k : Nat) => (g.getD k (0, 0)).2
  let solved := (x.result.zipIdx.map (fun r => if r.1.isSome then 2 ^ r.2 else 0)).sum
  let s := s.publishPartial x
  let s := s.wrN Reg.CAL_SOLVE_INFO
    (solved * 2 ^ 28 + x.dest * 2 ^ 24 + (x.passed.map (fun i => 2 ^ i)).sum * 2 ^ 16 + x.tMean)
  if x.anchor then s
  else
    let s := (s.wrN Reg.CAL_RESULT_GAIN01 (g1 1 * 2 ^ 16 + g1 0)).wrN Reg.CAL_RESULT_GAIN23 (g1 3 * 2 ^ 16 + g1 2)
    (s.wrN Reg.CAL_RESULT_SPREAD01 (g2 1 * 2 ^ 16 + g2 0)).wrN Reg.CAL_RESULT_SPREAD23 (g2 3 * 2 ^ 16 + g2 2)

/-- R483, R486: what CAL writes into the shadow set after the publishing tick. -/
def State.applyResult (s : State) (x : Solve) : State :=
  if x.anchor then
    let s := x.passed.foldl (fun s i => (List.range s.eNow).foldl (fun s k =>
      if ((x.targets.getD i []).getD k 0) = 0 then s else s.wr (Reg.CAL_SENS_TGT i k) (s.rd (Reg.CAL_SENS_A i k))) s) s
    s.raise Ev.anchorWritten noInst 0 []
  else if s.bitA Reg.CAL_CTL 1 then
    x.result.zipIdx.foldl (fun s r =>
      match r.1 with
      | none => s
      | some (g, _) =>
        let o := if r.2 < 2 then Reg.COR_TSET_GAIN01 x.dest else Reg.COR_TSET_GAIN23 x.dest
        if r.2 % 2 = 1 then s.setFld o 31 16 g else s.setFld o 15 0 g) s
  else s

/-- R477, R479, R482: the solve in the update cycle; the answer holds a solve whose result has just been published. -/
def State.solveTick (s : State) (light : List (Nat × Int)) : State × Option Solve :=
  match s.cal.solve with
  | none => (s, none)
  | some x =>
    if s.solvePhase = Phase.queued then
      ((s.setFld Reg.CAL_SOLVE_STATUS 31 29 Phase.running).raise Ev.solveStart noInst 0
        [(1, s.fld Reg.CAL_SOLVE_STATUS 7 0), (1, x.dest)], none)
    else if x.ready then
      let s := (s.publishResult x).setFld Reg.CAL_SOLVE_STATUS 22 16 100
      (s.solveEnds (if x.passed.length = s.sensors.length then Code.OK else Code.PARTIAL), some x)
    else if x.step then (s, none)
    else
      let r := s.measure x light
      (r.1.gateTick r.2, none)

/-- R482: what a solve rests on. -/
def State.calKey (s : State) : List Nat :=
  ([Reg.CAL_CTL, Reg.CAL_ADC_CTL, Reg.CAL_T_BAND, Reg.FUR_SCAN, Reg.FUR_LINE, Reg.COR_REGION, Reg.COR_MARGIN, Reg.COR_PANEL] ++
    (List.range 8).flatMap (fun i => Reg.CAL_SENS_XY i :: Reg.CAL_SENS_WH i ::
      (List.range 4).map (fun k => Reg.CAL_SENS_TGT i k))).map (fun o => (s.rdA o).toNat)

/-- R468, R469, R472, R482: what a commit does to CAL; `old` is the state before it. -/
def State.calCommit (s old : State) : State :=
  let bad := ((List.range 8).map (fun i =>
    if !(s.sensorRect i).within s.geo.panelW s.geo.panelH then 2 ^ i else 0)).sum
  let s := s.setFld Reg.CAL_STATUS 7 0 bad
  let s := if s.calKey != old.calKey then s.solveDiscard else s
  let changed := s.fldA Reg.CAL_ADC_CTL 31 30 != old.fldA Reg.CAL_ADC_CTL 31 30
  let on := s.bitA Reg.CAL_CTL 0 && !old.bitA Reg.CAL_CTL 0
  if changed && on then s.filterBoth else if changed then s.filterChanged else if on then s.syncReset else s.adcStatus

/-- R475, R476, R482: the end of a frame interval, before the active set changes; the answer holds a solve whose result has just
been published. -/
def State.calEnd (s : State) : State × Option Solve :=
  let r :=
    if s.bitA Reg.CAL_CTL 0 && s.frameValid then
      let r := s.sensors.foldl (fun (a : State × List (Nat × Int)) i =>
        let y := a.1.lightOf i
        (y.1, a.2 ++ [(i, y.2)])) (s, [])
      r.1.solveTick r.2
    else s.solveTick []
  (r.1.modCal (fun c => { c with nextQ := 0, drive := [], sens := c.sens.map (fun x =>
    { x with litSum := 0, litN := 0, darkSum := 0, darkN := 0, sat := false }) }), r.2)

/-- R481, R483, R486: after the active set has changed: the gains that a step begun at this tick starts from, and what a published
solve writes into the shadow set. -/
def State.calFinish (s : State) (done : Option Solve) : State :=
  let s := match s.cal.solve with
    | some x => if x.step && x.gain.isEmpty then s.modCal (fun c => { c with solve := some { x with gain := s.gainsOf x.dest } }) else s
    | none => s
  match done with
  | some x => s.applyResult x
  | none => s

/-- R476, R487: what CAL takes from FUR and COR at the tick. -/
def State.calStart (s : State) : State :=
  let running := s.fld Reg.FUR_STATUS 31 29 == 2
  let up := lanes.all (fun l => !s.laneOn l || s.laneState l == Lane.up)
  s.modCal (fun c => { c with everRan := c.everRan || running, ran := running && up,
                              temp := if s.bit Reg.COR_TEMP_STATUS 31 then some (sx 16 (s.fld Reg.COR_TEMP_STATUS 15 0)) else none })

end Sys2Proof.Machine
end

