-- ==== Sys2Proof/Machine/Aud.lean ====
section
/-!
DEFINITION. Audio ports, the system sample grid, conversion, and audio on the chain (chapter 13, R492 to R522).
-/

namespace Sys2Proof.Machine

/-- R519, R605: the event sources of AUD. -/
abbrev Ev.groupBack : Nat := 225
abbrev Ev.groupMeasured : Nat := 226
abbrev Ev.marginLow : Nat := 227
abbrev Ev.portMisaligned : Nat := 228
abbrev Ev.asrcSlip : Nat := 229
abbrev Ev.streamHeld : Nat := 230
abbrev Ev.audioLate : Nat := 231

/-- R9, R492: AUD runs. -/
def State.audOn (s : State) : Bool := (s.sender || s.tile) && s.bitA Reg.AUD_CTL 0

/-! ### The grid (R492 to R495) -/

/-- R492: the grid instant of system sample `n` in units of 2^-16 ns, 48 bits of TB0. -/
def gridInstant (n fs : Nat) : Nat := n * 1000000000 * 2 ^ 16 / fs % 2 ^ 48

/-- R492: the system sample count. -/
def State.ssc (s : State) : Nat := s.rd64 Reg.AUD_SSC_LO

/-- R494: N(D). -/
def State.firstSample (s : State) (d : Nat) : Nat :=
  match s.aud.anchor with
  | none => 0
  | some (d0, n0) =>
    let k := sx 32 (subMod 32 d d0) * s.fsSys * period9 s.rateNow
    ((n0 : Int) - (-k).fdiv 9000000000).toNat

/-- R495: the presentation time of a system sample, 48 bits of TB0. -/
def State.presentAt (s : State) (n : Nat) : Nat :=
  (gridInstant n s.fsSys + (s.rdA Reg.AUD_LATENCY).toNat * 2 ^ 16) % 2 ^ 48

/-- R506: a sample that no source has given is muted. -/
def mutedVal (_ : Nat) : AudVal := { v := 0, mute := true, settle := false }

/-- R509: a system sample of a channel. -/
def State.sysVal (s : State) (n ch : Nat) : AudVal := sGet mutedVal s.aud.sys (512 * n + ch)
def State.setSys (s : State) (n ch : Nat) (x : AudVal) : State :=
  s.modAud (fun a => { a with sys := sPut mutedVal a.sys (512 * n + ch) x })

/-! ### Ports, groups and engines in the active set -/

def State.grpState (s : State) (g : Nat) : Nat := s.fld (Reg.AUD_GRP_STATUS g) 31 29
def State.grpDirect (s : State) (g : Nat) : Bool := s.bitA (Reg.AUD_GRP_CTL g) 30
def State.portEnabled (s : State) (p : Nat) : Bool := s.bitA (Reg.AUD_PORT_CTL p) 31
def State.portOut (s : State) (p : Nat) : Bool := s.bitA (Reg.AUD_PORT_CTL p) 30
def State.portGroup (s : State) (p : Nat) : Nat := s.fldA (Reg.AUD_PORT_CTL p) 29 28

/-- R497, R522: the channels, and the bit clocks of a frame, of a port. -/
def State.portChannels (s : State) (p : Nat) : Nat :=
  if s.fldA (Reg.AUD_PORT_CTL p) 27 26 = 1 then 2 ^ (s.fldA (Reg.AUD_PORT_CTL p) 25 24 + 1) else 2
def State.portBits (s : State) (p : Nat) : Nat := s.portChannels p * (16 + 8 * s.fldA (Reg.AUD_PORT_CTL p) 23 22)

/-- R497, R522: a field of the port has a value that no row of the table allows. -/
def State.portBad (s : State) (p : Nat) : Bool :=
  decide (1 < s.fldA (Reg.AUD_PORT_CTL p) 27 26) || s.fldA (Reg.AUD_PORT_CTL p) 23 22 == 3 ||
    decide (49152000 < s.portBits p * (audioRate (s.fldA (Reg.AUD_GRP_CTL (s.portGroup p)) 26 24)).getD 0)

/-- R498, R504, R521: why a group is held off; 0 where it is not. -/
def State.grpCause (s : State) (g : Nat) : Nat :=
  let rate := s.fldA (Reg.AUD_GRP_CTL g) 26 24
  if 6 ≤ rate then 6
  else if s.fld (Reg.TMB_TB_AUDIO (2 + g)) 18 16 ≠ rate then 2
  else if s.grpDirect g ∧ audioRate rate ≠ some s.fsSys then 2
  else 0

/-- The port's samples count: its group runs and it is neither held nor misaligned. -/
def State.portRuns (s : State) (p : Nat) : Bool :=
  s.audOn && s.portEnabled p && s.fld (Reg.AUD_PORT_STATUS p) 31 29 == 2 && !s.aud.misaligned.contains p

/-- R502: a port that uses an engine. -/
def State.usesEngine (s : State) (p : Nat) : Bool :=
  s.bitA Reg.AUD_CTL 0 && s.portEnabled p && !s.portBad p && s.bitA (Reg.AUD_GRP_CTL (s.portGroup p)) 31 &&
    !s.grpDirect (s.portGroup p)

/-- R502: the channels of a list of ports. -/
def State.channelsOf (s : State) (ps : List Nat) : Nat := (ps.map s.portChannels).sum

/-- R502: the engine that a port joins among those allocated so far, as lists of ports. -/
def State.engineFor (s : State) (es : List (List Nat)) (p : Nat) : Option Nat :=
  let fits := fun (e : List Nat) =>
    match e with
    | [] => false
    | q :: _ => s.portGroup q == s.portGroup p && s.portOut q == s.portOut p &&
        decide (s.channelsOf e + s.portChannels p ≤ 32)
  let i := es.findIdx fits
  if i < 8 then some i
  else
    let j := es.findIdx (fun e => e.isEmpty)
    if j < 8 then some j else none

/-- R502: the allocation of engines: the ports of each, and the ports that find no room. -/
def State.allocate (s : State) : List (List Nat) × List Nat :=
  ((List.range 16).filter s.usesEngine).foldl (fun (a : List (List Nat) × List Nat) p =>
    match s.engineFor a.1 p with
    | some i => (a.1.modify i (fun e => e ++ [p]), a.2)
    | none => (a.1, a.2 ++ [p])) (List.replicate 8 [], [])

/-- The engine of a number. -/
def State.engine (s : State) (a : Nat) : Engine := s.aud.engines.getD a Engine.idle
def State.modEngine (s : State) (a : Nat) (f : Engine → Engine) : State :=
  s.modAud (fun x => { x with engines := x.engines.modify a f })

/-- R507: the fill of an engine. -/
def State.showFill (s : State) (a : Nat) : State :=
  s.setFld (Reg.AUD_ASRC_FILL a) 6 0 (s.rd64 (Reg.AUD_ASRC_IN_LO a) - (s.engine a).acc / 2 ^ 30)
def State.fill (s : State) (a : Nat) : Nat := s.rd64 (Reg.AUD_ASRC_IN_LO a) - (s.engine a).acc / 2 ^ 30

/-- R506, R507: a synchronising reset of an engine: zero history, and its books begin again. -/
def State.resetEngine (s : State) (a : Nat) : State :=
  let s := s.modEngine a (fun e => { e with started := false, acc := 0 })
  let s := (s.wr64 (Reg.AUD_ASRC_IN_LO a) 0).wr64 (Reg.AUD_ASRC_OUT_LO a) 0
  (s.wr (Reg.AUD_ASRC_FILL a) 0).settleAsrc a 32

/-- R507: a sample enters an engine; an engine starts once its history is full (R503). -/
def State.engineIn (s : State) (a : Nat) : State :=
  let s := (s.wr64 (Reg.AUD_ASRC_IN_LO a) (s.rd64 (Reg.AUD_ASRC_IN_LO a) + 1)).showFill a
  if 32 ≤ s.fill a then s.modEngine a (fun e => { e with started := true }) else s

/-- R501, R507: a sample leaves an engine. -/
def State.engineOut (s : State) (a : Nat) : State :=
  let r := (s.rd (Reg.AUD_GRP_RATIO (s.fld (Reg.AUD_ASRC_STATUS a) 29 28))).toNat
  let step := if s.bit (Reg.AUD_ASRC_STATUS a) 30 then 2 ^ 60 / max 1 r else r
  let s := s.modEngine a (fun e => { e with acc := e.acc + step })
  let s := (s.wr64 (Reg.AUD_ASRC_OUT_LO a) (s.rd64 (Reg.AUD_ASRC_OUT_LO a) + 1)).showFill a
  s.setFld (Reg.AUD_ASRC_STATUS a) 6 0 (s.fld (Reg.AUD_ASRC_STATUS a) 6 0 - 1)

/-- R506: an engine's next output is settling. -/
def State.settling (s : State) (a : Nat) : Bool := s.fld (Reg.AUD_ASRC_STATUS a) 6 0 != 0

/-- R503: the value of an interpolated sample: the filter's coefficients are not stated, so it is a free value of 24 bits. -/
def State.freeSample (s : State) : State × Int := (s.free.2, sx 24 s.free.1)

/-! ### Groups (R500, R505) -/

/-- R502: the engines of a group. -/
def State.groupEngines (s : State) (g : Nat) : List Nat := (List.range 8).filter (fun a => s.engineOf a g)

/-- R500: AUDIO_GROUP_LOST. -/
def execAudioGroupLost (g : Fin 4) (s : State) : Host.Outcome State Fault Refusal :=
  gate s.audOn (fun s => s.groupLost g.val) s

/-- R498, R500, R505: AUDIO_GROUP_BACK. -/
def execAudioGroupBack (g : Fin 4) (s : State) : Host.Outcome State Fault Refusal :=
  gate (s.audOn && s.grpState g.val == 3)
    (fun s =>
      let c := s.grpCause g.val
      (s.setGroup g.val (if c = 0 then 1 else 4) c).raise Ev.groupBack g.val (groupTb g.val) []) s

/-- R505, R506: AUDIO_GROUP_MEASURED. -/
def execAudioGroupMeasured (g : Fin 4) (s : State) : Host.Outcome State Fault Refusal :=
  gate (s.audOn && s.grpState g.val == 1)
    (fun s =>
      let s := s.setGroup g.val 2 0
      let s := if s.grpDirect g.val then s else s.wrN (Reg.AUD_GRP_RATIO g.val) (s.ratioOf g.val)
      let s := (s.groupEngines g.val).foldl (fun s a => s.resetEngine a) s
      s.raise Ev.groupMeasured g.val (groupTb g.val) []) s

/-! ### The anchor and the system instants (R492, R493, R503, R504) -/

/-- R493: AUD_ANCHOR_LOAD. -/
def execAudAnchorLoad (s : State) : Host.Outcome State Fault Refusal :=
  gate (s.sender || s.tile) (fun s => s.setBit Reg.AUD_ANCHOR_CTL 0 true) s

/-- R503: an input engine forms system sample `n` for its ports. -/
def State.produceEngine (s : State) (n a : Nat) : State :=
  if s.bit (Reg.AUD_ASRC_STATUS a) 31 && !s.bit (Reg.AUD_ASRC_STATUS a) 30 && (s.engine a).started then
    let settle := s.settling a
    let s := (s.engine a).ports.foldl (fun s p =>
      if s.portRuns p then
        (List.range (s.portChannels p)).foldl (fun (s : State) c =>
          s.freeSample.1.setSys n (16 * p + c) { v := s.freeSample.2, mute := false, settle := settle }) s
      else s) s
    s.engineOut a
  else s

/-- R504: a direct input port. -/
def State.directIn (s : State) (p : Nat) : Bool := s.portEnabled p && !s.portOut p && s.grpDirect (s.portGroup p)

/-- R504: system sample `n` has ended: a direct input that gave nothing repeats its previous sample. -/
def State.closeSample (s : State) (n : Nat) : State :=
  let s := (List.range 16).foldl (fun s p =>
    if s.directIn p && s.portRuns p && s.aud.fed.contains p && !s.aud.got.contains p then
      let s := (List.range (s.portChannels p)).foldl (fun (s : State) c =>
        s.setSys n (16 * p + c) (s.sysVal (n - 1) (16 * p + c))) s
      s.incFld (Reg.AUD_GRP_STATUS (s.portGroup p)) 15 0
    else s) s
  s.modAud (fun a => { a with got := [] })

/-- R492, R503, R504: system sample `n` begins. -/
def State.beginSample (s : State) (n : Nat) : State :=
  let s := s.wr64 Reg.AUD_SSC_LO n
  let s := (List.range 8).foldl (fun s a => s.produceEngine n a) s
  (List.range 8).foldl (fun s a =>
    if s.bit (Reg.AUD_ASRC_STATUS a) 31 && s.bit (Reg.AUD_ASRC_STATUS a) 30 && (s.engine a).ports.any s.portRuns then s.engineIn a
    else s) s

/-- R492: SYSTEM_SAMPLE_INSTANT. -/
def execSystemSampleInstant (s : State) : Host.Outcome State Fault Refusal :=
  gate (s.audOn && s.bit Reg.AUD_ANCHOR_CTL 31)
    (fun s => (s.closeSample s.ssc).beginSample ((s.ssc + 1) % 2 ^ 64)) s

/-! ### Playing (R514 to R516) -/

/-- R514: the delay of a port in units of 2^-16 ns. -/
def State.portDelay (s : State) (p : Nat) : Nat := min 2000000 (s.fldA (Reg.AUD_PORT_DELAY p) 20 0) * 1000 * 2 ^ 16

/-- R514: a sample and how long before now its instant at port `p` was, in units of 2^-16 ns. -/
def State.ageAt (s : State) (p pt : Nat) : Int := diff48 (s.tb48 0) ((pt + s.portDelay p) % 2 ^ 48)

/-- Flag and value of sample `i`, channel `c` of a held sheaf. -/
def HeldAudio.val (h : HeldAudio) (i c : Nat) : AudVal :=
  let m := h.mute.testBit c
  { v := if m then 0 else h.samples.getD (i * h.channels + c) 0, mute := m, settle := h.settle.testBit c }

/-- R514: the samples that channel `c` of output port `p` may play, with their ages. -/
def State.candidates (s : State) (p c : Nat) : List (Int × AudVal) :=
  let first := s.fldA (Reg.AUD_PORT_SRC p) 8 0
  if s.bitA (Reg.AUD_PORT_SRC p) 31 then
    (s.aud.held.filter (fun h => h.stream == s.fldA (Reg.AUD_PORT_SRC p) 20 16)).flatMap (fun h =>
      if h.channels ≤ first + c then []
      else (List.range (h.samples.length / h.channels)).map (fun i =>
        (s.ageAt p ((h.pt + i * 1000000000 * 2 ^ 16 / h.fs) % 2 ^ 48), h.val i (first + c))))
  else if s.mode ≠ 0 then []
  else
    s.aud.sys.filterMap (fun e =>
      if e.1 % 512 = (first + c) % 512 then some (s.ageAt p (s.presentAt (e.1 / 512)), e.2) else none)

/-- R514, R515: the latest sample whose instant lies at or before now, within one sample period of the grid: a sample that never came
leaves a gap, which sounds as zero. -/
def latest (fs : Nat) (l : List (Int × AudVal)) : Option AudVal :=
  ((l.filter (fun x => decide (0 ≤ x.1) && decide (x.1.toNat ≤ 1000000000 * 2 ^ 16 / fs))).foldl (fun (a : Option (Int × AudVal)) x =>
    match a with
    | none => some x
    | some y => if x.1 < y.1 then some x else a) none).map (fun x => x.2)

/-- R497: a 24-bit sample on a port: a 16-bit word is rounded half up and clamped. -/
def State.portWord (s : State) (p : Nat) (v : Int) : Int :=
  if s.bitA (Reg.AUD_PORT_CTL p) 21 then v else clampI (-32768) 32767 ((v + 128).fdiv 256) * 256

/-- R503, R514, R516: channel `c` of output port `p` at a frame-clock edge; the answer tells whether a settling sample is played. In
tracking mode the engine's value is free where any sample within its 64 taps sounds. -/
def State.playChannel (s : State) (p c : Nat) : State × Bool :=
  let l := s.candidates p c
  if s.grpDirect (s.portGroup p) then
    match latest s.fsSys l with
    | some x => (s.emit (.audio p c (s.portWord p (if x.mute then 0 else x.v))), x.settle)
    | none => (s.emit (.audio p c 0), false)
  else
    let span : Int := 33 * 1000000000 * 2 ^ 16 / s.fsSys
    let near := l.filter (fun x => decide (-span ≤ x.1) && decide (x.1 ≤ span))
    let a := s.fld (Reg.AUD_PORT_STATUS p) 22 20
    if (s.engine a).started && near.any (fun x => !x.2.mute) then
      (s.freeSample.1.emit (.audio p c (s.portWord p s.freeSample.2)), s.settling a || near.any (fun x => x.2.settle))
    else (s.emit (.audio p c 0), false)

/-- R514, R516: an output port at a frame-clock edge. -/
def State.playPort (s : State) (p : Nat) : State :=
  if s.portRuns p then
    let r := (List.range (s.portChannels p)).foldl (fun (a : State × Bool) c =>
      let x := a.1.playChannel p c
      (x.1, a.2 || x.2)) (s, false)
    if r.2 then r.1.incFld (Reg.AUD_PORT_STATUS p) 7 0 else r.1
  else (List.range (s.portChannels p)).foldl (fun s c => s.emit (.audio p c 0)) s

/-- R504: an input port in direct mode at a frame-clock edge: the first sample of a grid sample counts. -/
def State.takeDirect (s : State) (p : Nat) (words : List (BitVec 24)) : State :=
  if s.aud.got.contains p then s.incFld (Reg.AUD_GRP_STATUS (s.portGroup p)) 15 0
  else
    let s := (List.range (s.portChannels p)).foldl (fun (s : State) c =>
      s.setSys s.ssc (16 * p + c) { v := sx 24 (words.getD c 0).toNat, mute := false, settle := false }) s
    s.modAud (fun a => { a with got := p :: a.got, fed := p :: a.fed.filter (· != p) })

/-- R504: φ and the margin at an edge of the reference port of a direct group. -/
def State.phase (s : State) (g : Nat) : State :=
  let exact := subMod 48 (s.tb48 0) (gridInstant s.ssc s.fsSys)
  let phi := exact / 2 ^ 16
  let low := decide (min (exact * s.fsSys) (1000000000 * 2 ^ 16 - exact * s.fsSys) < 50 * 2 ^ 16 * s.fsSys)
  let was := s.bit (Reg.AUD_GRP_STATUS g) 24
  let s := (s.setFld (Reg.AUD_GRP_PHASE g) 15 0 (min 65535 phi)).setBit (Reg.AUD_GRP_STATUS g) 24 low
  if low && !was then s.raise Ev.marginLow g (groupTb g) [] else s

/-- R499: alignment of a port at an edge, `periods` of its bit clock from the reference port's edge. -/
def State.alignment (s : State) (p : Nat) (periods : Int) : State :=
  let g := s.portGroup p
  let bad := decide (2 < periods.natAbs)
  let was := s.aud.misaligned.contains p
  let rest := s.aud.misaligned.filter (· != p)
  let s := s.modAud (fun a => { a with misaligned := if bad then p :: rest else rest })
  let s := if bad then s.incFld (Reg.AUD_PORT_STATUS p) 15 8 else s
  if bad && !was then s.raise Ev.portMisaligned p (groupTb g) [] else s

/-- R507: the engine of a port counts its frame clocks by the lowest port that it serves. -/
def State.leadsEngine (s : State) (p : Nat) : Bool :=
  (s.engine (s.fld (Reg.AUD_PORT_STATUS p) 22 20)).ports.head? == some p

/-- R499, R503, R504, R507, R514: AUDIO_PORT_FRAME_EDGE. `words` are the words that an input port captures, left-aligned in 24 bits (a
16-bit word extended with zeros, R497). -/
def execAudioPortFrameEdge (p : Fin 16) (periods : Int) (words : List (BitVec 24)) (s : State) :
    Host.Outcome State Fault Refusal :=
  gate ((s.sender || s.tile) && s.portEnabled p.val)
    (fun s =>
      let g := s.portGroup p.val
      let s := s.alignment p.val periods
      let s := if s.grpDirect g && s.grpState g == 2 && s.fldA (Reg.AUD_GRP_CTL g) 3 0 == p.val then s.phase g else s
      let a := s.fld (Reg.AUD_PORT_STATUS p.val) 22 20
      if s.portOut p.val then
        let s := s.playPort p.val
        if s.usesEngine p.val && s.portRuns p.val && s.leadsEngine p.val && (s.engine a).started then s.engineOut a else s
      else if !s.portRuns p.val then s
      else if s.grpDirect g then s.takeDirect p.val words
      else if s.leadsEngine p.val then s.engineIn a
      else s) s

/-! ### ST 2110-30 (R261, R508, R509) -/

/-- R261: the channels of an audio stream slot, and the sample times of its packets (1 ms or 125 µs at 48 kHz). -/
def State.audSlotChannels (s : State) (m : Nat) : Nat := s.fldA (Reg.INP_AUD_CTL m) 21 16 + 1
def State.audSlotTimes (s : State) (m : Nat) : Nat := if s.bitA (Reg.INP_AUD_CTL m) 26 then 6 else 48
/-- R261: the conformance level of a slot supports its channels and its packet time. -/
def State.audLevelOk (s : State) (m : Nat) : Bool :=
  match s.fldA (Reg.INP_AUD_CTL m) 29 28 with
  | 0 => decide (s.audSlotChannels m ≤ 8) && !s.bitA (Reg.INP_AUD_CTL m) 26
  | 1 => decide (s.audSlotChannels m ≤ 8)
  | 2 => s.bitA (Reg.INP_AUD_CTL m) 26
  | _ => false
/-- R261: a slot takes packets: enabled, of a supported combination (DEDUCED, log entry 67) and not held off by over_total. -/
def State.audSlotOn (s : State) (m : Nat) : Bool :=
  s.bitA (Reg.INP_AUD_CTL m) 31 && s.audLevelOk m && !s.bit (Reg.INP_AUD_STATUS m) 30
/-- R509: the first system channel of a slot. -/
def State.audSlotFirst (s : State) (m : Nat) : Nat :=
  256 + (((List.range m).filter s.audSlotOn).map s.audSlotChannels).sum

/-- R261: the slot that a packet belongs to. -/
def State.audSlot (s : State) (p : Fin 2) (k : AudioPacket) : Option Nat :=
  (List.range 16).find? (fun m =>
    s.audSlotOn m && s.fldA (Reg.INP_AUD_CTL m) 30 30 == p.val && (s.rdA (Reg.INP_AUD_NET_DST m)).toNat == k.dst &&
      (s.rdA (Reg.INP_AUD_NET_SRC m) == 0 || (s.rdA (Reg.INP_AUD_NET_SRC m)).toNat == k.src) &&
      s.fldA (Reg.INP_AUD_NET_PORT m) 15 0 == k.udp && s.fldA (Reg.INP_AUD_CTL m) 14 8 == k.pt &&
      k.samples.length == s.audSlotTimes m)

/-- R261: the 24-bit sample that a sample word of a slot's encoding, L16 or L24, stands for. -/
def State.audSample (s : State) (m : Nat) (w : BitVec 24) : Int :=
  if s.bitA (Reg.INP_AUD_CTL m) 27 then sx 24 w.toNat else sx 16 (w.toNat % 2 ^ 16) * 256

/-- R508: the system sample next to now whose low 32 bits are an RTP timestamp. -/
def State.sampleOfTs (s : State) (ts : Nat) : Nat := ((s.ssc : Int) + sx 32 (subMod 32 ts s.ssc)).toNat

/-- R515, R519: samples that came too late. -/
def State.audioLate (s : State) (n : Nat) : State :=
  let s := (s.inc Reg.AUD_RX_LATE n).overrun 5
  if s.aud.lateRaised then s
  else (s.modAud (fun a => { a with lateRaised := true })).raise Ev.audioLate noInst 0 [(4, n)]

/-- R508: the samples of a packet are placed on the grid. -/
def State.placePacket (s : State) (m : Nat) (k : AudioPacket) : State :=
  let n := s.sampleOfTs k.ts
  let ch := s.audSlotFirst m
  if s.fsSys ≠ 48000 then s
  else if n < s.aud.produced then s.inc Reg.AUD_RX_LATE (k.samples.length * s.audSlotChannels m)
  else
    k.samples.zipIdx.foldl (fun s x =>
      (List.range (s.audSlotChannels m)).foldl (fun (s : State) c =>
        if ch + c < 512 then s.setSys (n + x.2) (ch + c) { v := s.audSample m (x.1.getD c 0), mute := false, settle := false }
        else s) s) s

/-- R261, R508: ST2110_AUDIO_PACKET_RX. -/
def execSt2110AudioPacketRx (p : Fin 2) (k : AudioPacket) (s : State) : Host.Outcome State Fault Refusal :=
  gate (s.sender && s.bit (Reg.INP_ETH_CTL p.val) 0)
    (fun s =>
      let s := s.inc (Reg.INP_ETH_RX_FRAMES p.val)
      match s.audSlot p k with
      | none => s
      | some m =>
        let s := (s.setBit (Reg.INP_AUD_STATUS m) 31 true).incFld (Reg.INP_AUD_STATUS m) 15 0 k.skipped
        if s.bitA Reg.AUD_CTL 0 then s.placePacket m k else s) s

/-! ### Sheaves on the chain (R510 to R513) -/

def State.strPort (s : State) (k : Nat) : Port := portOf (s.fldA (Reg.AUD_STR_CTL k) 30 29)
def State.strChannels (s : State) (k : Nat) : Nat := min 64 (s.fldA (Reg.AUD_STR_CTL k) 26 21 + 1)
def State.strSheaves (s : State) (k : Nat) : Nat := max 1 (s.fldA (Reg.AUD_STR_CTL k) 20 10)
def State.strFirst (s : State) (k : Nat) : Nat := s.fldA (Reg.AUD_STR_SRC k) 8 0

/-- R494: ceil(k), the most samples of a frame. -/
def State.samplesCeil (s : State) : Nat := ceilDiv (s.fsSys * period9 s.rateNow) 9000000000

/-- R512: a system channel that a tracking group gives. -/
def State.tracked (s : State) (ch : Nat) : Bool :=
  decide (ch < 256) && s.portEnabled (ch / 16) && !s.portOut (ch / 16) && decide (ch % 16 < s.portChannels (ch / 16)) &&
    !s.grpDirect (s.portGroup (ch / 16))

/-- R512, R521: why a stream is held off; 0 where it is not. -/
def State.strCause (s : State) (k : Nat) : Nat :=
  if 4096 < 32 + 3 * s.strChannels k * ceilDiv s.samplesCeil (s.strSheaves k) then 5
  else if s.kind (s.strPort k) = 2 ∧ (List.range (s.strChannels k)).any (fun c => s.tracked (s.strFirst k + c)) then 3
  else 0

/-- R511: what is to be sent of a stream. -/
def State.cursor (s : State) (k : Nat) : StreamCursor :=
  ((s.aud.cursors.find? (fun x => x.1 == k)).map (fun x => x.2)).getD { frame := s.frame, next := 0, sent := 0 }
def State.setCursor (s : State) (k : Nat) (c : StreamCursor) : State :=
  s.modAud (fun a => { a with cursors := (k, c) :: a.cursors.filter (fun x => x.1 != k) })

/-- R511: the first sample of sheaf `i` of a frame, and the sample after its last. -/
def State.sheafSpan (s : State) (k d i : Nat) : Nat × Nat :=
  let a := s.firstSample d
  let c := s.firstSample ((d + 1) % 2 ^ 32) - a
  (a + i * c / s.strSheaves k, a + (i + 1) * c / s.strSheaves k)

/-- R511: bit `ch` where any sample of the channel has the flag. -/
def flagMask (vals : List (List AudVal)) (channels : Nat) (f : AudVal → Bool) : Nat :=
  ((List.range channels).map (fun c => if vals.any (fun v => f (v.getD c (mutedVal 0))) then 2 ^ c else 0)).sum

/-- R511, R518: the payload of a sheaf of a stream that carries samples `a` to `b` − 1 of frame `d`; those of the frame in which AUD was
reset are muted. -/
def State.audioPayload (s : State) (k d a b : Nat) : List Byte :=
  let ch := s.strChannels k
  let gone := s.aud.mutedFrame == some d
  let vals := (List.range (b - a)).map (fun i => (List.range ch).map (fun c =>
    if gone then mutedVal 0 else s.sysVal (a + i) ((s.strFirst k + c) % 512)))
  let pt := s.presentAt a
  leBytes 4 (pt / 2 ^ 16) ++ leBytes 2 pt ++ leBytes 1 (b2n (s.bitA Reg.AUD_CTL 4)) ++ leBytes 1 (ch - 1) ++ leBytes 2 (b - a) ++
    zeros 2 ++ leBytes 4 a ++ leBytes 8 (flagMask vals ch (fun v => v.mute)) ++ leBytes 8 (flagMask vals ch (fun v => v.settle)) ++
    vals.flatMap (fun v => v.flatMap (fun x => leBytes 3 (tc 24 x.v)))

/-- R220, R510: the sheaf of a stream. -/
def State.audioSheaf (s : State) (k d i : Nat) (body : List Byte) : Sheaf :=
  { vc := 1, dir := false, first := false, last := false, retx := false, husk := false,
    seq := (d * s.strSheaves k + i) % 2 ^ 16, linkSeq := 0, dstQ := s.fldA (Reg.AUD_STR_CTL k) 9 0 * 64 + 0x30,
    srcQ := s.selfIdx * 64 + 0x30, frame := d, stream := k, index := i, hop := 0, epoch := s.epochFor (s.strPort k),
    crc := crc32c body, code := 0, payload := body }

/-- R229, R240, R511: the next sheaf of a stream is sent; on a muted port it is only summed. -/
def State.sendAudio (s : State) (k : Nat) : State :=
  let c := s.cursor k
  let span := s.sheafSpan k c.frame c.next
  let p := s.strPort k
  let h := s.audioSheaf k c.frame c.next (s.audioPayload k c.frame span.1 span.2)
  let s := if s.kind p = 2 then s.digestAdd p h else s
  let s := if s.mutedOn p then s else s.offerStream p h
  let s := s.modAud (fun a => { a with produced := max a.produced span.2 })
  s.setCursor k (if c.next + 1 < s.strSheaves k then { c with next := c.next + 1, sent := c.sent + 1 }
    else { frame := (c.frame + 1) % 2 ^ 32, next := 0, sent := c.sent + 1 })

/-- R511, R517: AUDIO_SHEAF_TX. -/
def execAudioSheafTx (stream : Fin 32) (s : State) : Host.Outcome State Fault Refusal :=
  gate (s.sender && s.audOn && s.bit Reg.AUD_ANCHOR_CTL 31 && s.frameValid &&
      s.fld (Reg.AUD_STR_STATUS stream.val) 31 29 == 2 &&
      decide ((s.sheafSpan stream.val (s.cursor stream.val).frame (s.cursor stream.val).next).2 ≤ s.ssc + 1))
    (fun s => s.sendAudio stream.val) s

/-- R515: the largest lead of the ports that play a stream, in ns. -/
def State.leadOf (s : State) (stream : Nat) : Nat :=
  ((List.range 16).map (fun p =>
    if s.portEnabled p && s.portOut p && s.bitA (Reg.AUD_PORT_SRC p) 31 && s.fldA (Reg.AUD_PORT_SRC p) 20 16 == stream then
      (if s.grpDirect (s.portGroup p) then 30000 else 700000)
    else 0)).foldl max 0

/-- R511, R513, R515: AUDIO_SHEAF_RX: a tapped sheaf, as it arrives. -/
def execAudioSheafRx (stream : Nat) (body : List Byte) (s : State) : Host.Outcome State Fault Refusal :=
  gate (s.tile && s.audOn && s.tapsAudio stream && decide (32 ≤ body.length))
    (fun s =>
      let pt := (leAt body 0 4 * 2 ^ 16 + leAt body 4 2) % 2 ^ 48
      let ch := leAt body 7 1 + 1
      let n := leAt body 8 2 * ch
      if 0 < diff48 ((s.tb48 0 + s.leadOf stream * 2 ^ 16) % 2 ^ 48) pt then s.audioLate n
      else
        let h : HeldAudio := { stream := stream, pt := pt, fs := if leAt body 6 1 = 1 then 96000 else 48000, channels := ch,
                               mute := leAt body 16 8, settle := leAt body 24 8,
                               samples := (List.range n).map (fun i => sx 24 (leAt body (32 + 3 * i) 3)) }
        s.modAud (fun a => { a with held := a.held ++ [h] })) s

/-- R515: AUDIO_SAMPLES_MISSING. -/
def execAudioSamplesMissing (samples : Nat) (s : State) : Host.Outcome State Fault Refusal :=
  gate (s.tile && s.audOn) (fun s => s.inc Reg.AUD_RX_MISSING samples) s

/-- R518: AUD_RESET. -/
def execAudReset (s : State) : Host.Outcome State Fault Refusal :=
  gate (s.sender || s.tile)
    (fun s =>
      let s := s.modAud (fun a => { a with sys := [], held := [], got := [], fed := [], mutedFrame := if s.frameValid then some s.frame else none })
      (List.range 8).foldl (fun s a => if s.bit (Reg.AUD_ASRC_STATUS a) 31 then s.resetEngine a else s) s) s

/-! ### Commits and the tick -/

/-- R502, R506: an engine takes up the ports that a commit allocates to it. -/
def State.assignEngine (s : State) (a : Nat) (ps : List Nat) : State :=
  let was := s.bit (Reg.AUD_ASRC_STATUS a) 31
  let key := s.fld (Reg.AUD_ASRC_STATUS a) 30 28
  match ps with
  | [] => (s.modEngine a (fun _ => Engine.idle)).wr (Reg.AUD_ASRC_STATUS a) 0
  | q :: _ =>
    let new := b2n (s.portOut q) * 4 + s.portGroup q
    let s := s.modEngine a (fun e => { e with ports := ps })
    let s := ((s.setBit (Reg.AUD_ASRC_STATUS a) 31 true).setFld (Reg.AUD_ASRC_STATUS a) 30 28 new).setFld
      (Reg.AUD_ASRC_STATUS a) 21 16 (s.channelsOf ps)
    if was && key == new then s else s.resetEngine a

/-- R498, R504, R505: a group after a commit; `changed` that its register has changed. -/
def State.groupCommit (s : State) (g : Nat) (changed : Bool) : State :=
  let on := s.bitA Reg.AUD_CTL 0 && s.bitA (Reg.AUD_GRP_CTL g) 31
  let cause := s.grpCause g
  if !on then s.setGroup g 0 0
  else if cause ≠ 0 then s.setGroup g 4 cause
  else if changed ∨ s.grpState g = 0 ∨ s.grpState g = 4 then s.setGroup g 1 0
  else s.setGroup g (s.grpState g) (s.fld (Reg.AUD_GRP_STATUS g) 28 25)

/-- R502, R520, R521: a port after a commit, given the ports without an engine. -/
def State.portCommit (s : State) (alloc : List (List Nat) × List Nat) (p : Nat) : State :=
  let put := fun (st cause : Nat) (s : State) =>
    (s.setFld (Reg.AUD_PORT_STATUS p) 31 29 st).setFld (Reg.AUD_PORT_STATUS p) 28 25 cause
  let g := s.portGroup p
  let s := s.setFld (Reg.AUD_PORT_STATUS p) 22 20 (min 7 (alloc.1.findIdx (fun e => e.contains p)))
  if !s.bitA Reg.AUD_CTL 0 || !s.portEnabled p then put 0 0 s
  else if s.portBad p then put 4 6 s
  else if alloc.2.contains p then put 4 4 s
  else put (s.grpState g) (s.fld (Reg.AUD_GRP_STATUS g) 28 25) s

/-- R512, R519: a stream after a commit; `changed` that its registers have changed. -/
def State.streamCommit (s : State) (k : Nat) (changed : Bool) : State :=
  let on := s.bitA Reg.AUD_CTL 0 && s.bitA (Reg.AUD_STR_CTL k) 31
  let cause := if on then s.strCause k else 0
  let was := s.fld (Reg.AUD_STR_STATUS k) 31 25
  let st := if !on then 0 else if cause ≠ 0 then 4 else 2
  let s := s.setFld (Reg.AUD_STR_STATUS k) 31 25 (st * 16 + cause)
  let s := if st = 2 ∧ (changed ∨ was ≠ 32) then s.setCursor k { frame := s.frame, next := 0, sent := 0 } else s
  if st = 4 ∧ was ≠ st * 16 + cause then s.raise Ev.streamHeld k 0 [(1, cause)] else s

/-- R502, R505, R512: what a commit does to AUD; `old` is the state before it. -/
def State.audCommit (s old : State) : State :=
  let s := (List.range 16).foldl (fun s p => if s.portEnabled p then s else s.wr (Reg.AUD_PORT_STATUS p) 0) s
  let s := (List.range 4).foldl (fun s g =>
    s.groupCommit g (s.rdA (Reg.AUD_GRP_CTL g) != old.rdA (Reg.AUD_GRP_CTL g))) s
  let alloc := s.allocate
  let s := alloc.1.zipIdx.foldl (fun s e => s.assignEngine e.2 e.1) s
  let s := (List.range 16).foldl (fun s p => s.portCommit alloc p) s
  if s.mode = 0 then
    (List.range 32).foldl (fun s k => s.streamCommit k
      (s.rdA (Reg.AUD_STR_CTL k) != old.rdA (Reg.AUD_STR_CTL k) || s.rdA (Reg.AUD_STR_SRC k) != old.rdA (Reg.AUD_STR_SRC k))) s
  else s

/-- R507: an engine's fill at a tick. -/
def State.fillCheck (s : State) (a : Nat) : State :=
  let f := s.fill a
  if !(s.bit (Reg.AUD_ASRC_STATUS a) 31 && (s.engine a).started) || (decide (24 ≤ f) && decide (f ≤ 40)) then s
  else
    let n := s.rd64 (Reg.AUD_ASRC_IN_LO a)
    let s := (s.wr64 (Reg.AUD_ASRC_IN_LO a) (if 40 < f then n - 1 else n + 1)).showFill a
    (s.inc (Reg.AUD_ASRC_SLIP a)).raise Ev.asrcSlip a (groupTb (s.fld (Reg.AUD_ASRC_STATUS a) 29 28)) [(1, b2n (f < 24))]

/-- R493: the anchor takes effect at its tick. -/
def State.anchorTick (s : State) (f : Nat) : State :=
  if s.bit Reg.AUD_ANCHOR_CTL 0 && (s.rd Reg.AUD_ANCHOR_FRAME).toNat == f then
    let n := s.rd64 Reg.AUD_ANCHOR_SSC_LO
    let s := s.wrN Reg.AUD_ANCHOR_CTL (2 ^ 31)
    let s := s.modAud (fun a => { a with anchor := some (f, n), sys := [], got := [], produced := 0, cursors := [] })
    if s.audOn then s.beginSample n else s.wr64 Reg.AUD_SSC_LO n
  else s

/-- R511, R520: the sheaves of the frame that ends. -/
def State.streamTick (s : State) (k : Nat) : State :=
  let c := s.cursor k
  if s.aud.cursors.any (fun x => x.1 == k) then
    (s.setFld (Reg.AUD_STR_STATUS k) 12 0 c.sent).setCursor k { c with sent := 0 }
  else s

/-- R498, R521: a group whose rates no longer agree is held off, and one held off whose rates agree again measures. -/
def State.groupTick (s : State) (g : Nat) : State :=
  let cause := s.grpCause g
  if (s.grpState g = 1 ∨ s.grpState g = 2) ∧ cause ≠ 0 then s.setGroup g 4 cause
  else if s.audOn && s.bitA (Reg.AUD_GRP_CTL g) 31 && s.grpState g == 4 then s.setGroup g (if cause = 0 then 1 else 4) cause
  else s

/-- R493, R498, R507, R511: AUD in the update cycle of the tick that begins frame `f`. Samples that no path can use any more are dropped. -/
def State.audTick (s : State) (f : Nat) : State :=
  let s := s.anchorTick f
  let s := (List.range 4).foldl (fun s g => s.groupTick g) s
  let s := s.modAud (fun a =>
    { a with lateRaised := false, sys := a.sys.filter (fun e => decide (s.ssc ≤ e.1 / 512 + 4 * s.fsSys)),
             held := a.held.filter (fun h => decide (diff48 (s.tb48 0) h.pt < 2100000000 * 2 ^ 16)) })
  let s := (List.range 32).foldl (fun s k => s.streamTick k) s
  (List.range 8).foldl (fun s a => s.fillCheck a) s

end Sys2Proof.Machine
end

