-- ==== Sys2Proof/Machine/Ecc.lean ====
section
/-!
DEFINITION. The symbol code of DRAM: RS(10,8) over GF(2^16) (R555 to R558).
-/

namespace Sys2Proof.Machine

/-- R555: multiplication by α = 2 modulo x^16 + x^12 + x^3 + x + 1. -/
def gfDouble (x : Nat) : Nat := crcBitL 16 0x100B (x % 2 ^ 16)

/-- R555: multiplication by α^n. -/
def gfShift (n x : Nat) : Nat := iter gfDouble n (x % 2 ^ 16)

/-- R555: one step of the division by g(x) = x² + (1 + α)x + α: the remainder's two symbols after the next data symbol. -/
def rsStep (r : Nat × Nat) (d : Nat) : Nat × Nat :=
  let f := d ^^^ r.1
  (r.2 ^^^ f ^^^ gfDouble f, gfDouble f)

/-- R555: the check symbols p_0 and p_1 of eight data symbols. -/
def rsChecks (d : List Nat) : Nat × Nat := d.foldl rsStep (0, 0)

/-- R555, R556: the code word of 16 consecutive bytes, one symbol per channel of the group, data channels first. -/
def rsWord (b : List Byte) : List Nat :=
  let d := (List.range 8).map (fun j => leAt b (2 * j) 2)
  let p := rsChecks d
  d ++ [p.1, p.2]

/-- R557: the syndromes S_0 = c(1) and S_1 = c(α) of the ten symbols. -/
def rsSyndromes (c : List Nat) : Nat × Nat :=
  c.foldl (fun (x : Nat × Nat) y => (x.1 ^^^ y, gfDouble x.2 ^^^ y)) (0, 0)

/-- R557: what decoding finds: no error, one symbol corrected at a channel, the failed channel's symbol restored with its value, or an
uncorrectable code word. -/
inductive RsResult where
  | clean
  | fixed (channel : Nat)
  | erased (value : Nat)
  | bad
  deriving DecidableEq, Repr

/-- R555, R557: the channel of position e is 9 − e. In a healthy group the symbol at the position that the syndromes name is in
error; with channel `failed` lost, its symbol reads as zero and must be S_0. -/
def rsDecode (failed : Option Nat) (c : List Nat) : RsResult × List Nat :=
  match failed with
  | none =>
    let s := rsSyndromes c
    if s.1 = 0 ∧ s.2 = 0 then (.clean, c)
    else if s.1 = 0 then (.bad, c)
    else
      match (List.range 10).find? (fun e => gfShift e s.1 == s.2) with
      | some e => (.fixed (9 - e), c.set (9 - e) (c.getD (9 - e) 0 ^^^ s.1))
      | none => (.bad, c)
  | some f =>
    let s := rsSyndromes (c.set f 0)
    if gfShift (9 - f) s.1 = s.2 then (.erased s.1, c.set f s.1) else (.bad, c)

/-- R556: the 16 bytes of a code word's data symbols. -/
def rsBytes (c : List Nat) : List Byte := (c.take 8).flatMap (leBytes 2)

/-- R563: a code word as it is stored poisoned, with 0x5A5A added into p_0 and p_1. -/
def rsPoison (c : List Nat) : List Nat := (c.set 8 (c.getD 8 0 ^^^ 0x5A5A)).set 9 (c.getD 9 0 ^^^ 0x5A5A)

end Sys2Proof.Machine
end

