-- ==== Sys2Proof/Machine/Dram.lean ====
section
/-!
DEFINITION. DRAM requests: populations and groups, address mapping, the request queues, choice and issue (chapter 14, R523 to
R543), and the requests that MEC answers itself (chapter 15, R561 to R566).
-/

namespace Sys2Proof.Machine

/-- R605, R552: the event sources of DMC. -/
abbrev Ev.trainingDone : Nat := 432
abbrev Ev.channelFailed : Nat := 433
abbrev Ev.groupDegraded : Nat := 434
abbrev Ev.groupFailed : Nat := 435
abbrev Ev.forcedRefresh : Nat := 436
abbrev Ev.throttleStart : Nat := 437
abbrev Ev.throttleEnd : Nat := 438
abbrev Ev.freqDone : Nat := 439

/-- The state with what DMC holds of a group changed. -/
def State.modGrp (s : State) (g : Fin 2) (f : DmcGroup → DmcGroup) : State :=
  s.modDmc (fun x => { x with grp := x.grp.set g (f x.grp[g]) })

/-- What the DMC holds of a group. -/
def State.dgrp (s : State) (g : Fin 2) : DmcGroup := s.dmc.grp[g]

/-- The groups that the role uses. -/
def State.groupList (s : State) : List (Fin 2) := [0, 1].filter (fun (g : Fin 2) => decide (g.val < s.groups))

/-! ### Mapping (R528, R529) -/

/-- R528, R553: G. -/
def State.grain (s : State) : Nat := clampN 8 16 (s.fld Reg.DMC_MAP 3 0)

/-- R528: the group of DRAM offset `a`. -/
def State.groupAt (s : State) (a : Nat) : Fin 2 := if s.role = 0 then Fin.ofNat 2 (a / 2 ^ s.grain) else 0

/-- R528: the offset within the group. -/
def State.offsetIn (s : State) (a : Nat) : Nat :=
  if s.role = 0 then a / 2 ^ (s.grain + 1) * 2 ^ s.grain + a % 2 ^ s.grain else a

/-- R529: the row of offset `b` of a group. -/
def rowOf (b : Nat) : Nat := b / 2 ^ 18

/-- R529: the bank of offset `b`, 4 × bank group + bank within it (log entry 25). -/
def bankOf (b : Nat) : Nat := (bits b 9 8 ^^^ bits (rowOf b) 3 2) * 4 + (bits b 17 16 ^^^ bits (rowOf b) 1 0)

/-- The DRAM offset of an access in units of 256 bytes. -/
def DramReq.access (r : DramReq) : Nat := (r.addr - dramBase) / 256

/-- R561: the write covers part of a code word without the whole. -/
def DramReq.isPartial (r : DramReq) : Bool :=
  r.write && !r.merged && !r.data.isEmpty && (r.addr % 16 != 0 || (r.addr + r.len) % 16 != 0)

/-- R532: the level of a requester's request, 0 urgent to 3 idle; only scan-out, the monitor and Furrow reads can be urgent. -/
def levelOf (req : Nat) (urgent : Bool) : Nat :=
  if urgent && (req == 7 || req == 8 || req == 12) then 0
  else if req ≤ 3 ∨ req = 13 then 2
  else if req = 15 then 3
  else 1

/-- R537: the group has an urgent request queued or in service. -/
def State.urgentIn (s : State) (g : Fin 2) : Bool :=
  (s.dgrp g).queue.any (fun r => r.level == 0) || (s.dgrp g).reading.any (fun r => r.1.level == 0)

/-! ### Answers (R557, R668) -/

/-- R668, R687: a completion to the host carries data that is marked as uncorrectable; the event is raised once per frame interval. -/
def State.poisonSent (s : State) : State :=
  let s := s.inc Reg.PCI_POISON_TX
  if s.pci.poisonRaised then s
  else (s.modPci (fun g => { g with poisonRaised := true })).raise 469 noInst 0 []

/-- R557, R668: a read of a requester is answered; what PCIe asked for leaves in a completion. -/
def State.dramAnswer (s : State) (req a : Nat) (b : List Byte) (bad : Bool) : State :=
  let s := s.emit (.dramData req a b bad)
  if req = 3 then
    let s := s.emit (.tlp (if bad then "CplD EP" else "CplD") (a - dramBase) b)
    if bad then s.poisonSent else s
  else s

/-! ### Arrival (R526, R532, R565, R566, R732) -/

/-- A request joins the queue of its group; a demand write makes a write-back of its access void (R571). -/
def State.dramQueue (s : State) (r : DramReq) : State :=
  let s := s.modGrp (s.groupAt (r.addr - dramBase)) (fun g => { g with queue := g.queue ++ [r], quiet := s.tmb.tclk })
  if r.write && r.req != 15 then s.modMec (fun m => { m with back := m.back.filter (· != r.access) }) else s

/-- R526, R565, R566, R732: one request within one 256-byte access arrives at MEC and the DMC. Outside the population it is an
address error; a read of a granule that is not valid needs no DRAM and returns zeros; the rest needs the DMC to run. -/
def State.dramPiece (s : State) (r : DramReq) : State :=
  let gran := granuleOf r.addr
  let fresh := !s.mec.valid.contains gran && !s.mec.fills.any (fun f => f.1 == gran)
  let inside := decide (dramBase ≤ r.addr) && decide (r.addr < dramBase + s.dramCap)
  if inside && fresh && !r.write then (s.inc Reg.MEC_ZERO_READS).dramAnswer r.req r.addr (zeros r.len) false
  else if !(inside && s.dramUp) then
    let s := s.addrError r.req r.addr
    if r.write then s else s.dramAnswer r.req r.addr (zeros r.len) true
  else if fresh then (s.inc Reg.MEC_FILLS).modMec (fun m => { m with fills := m.fills ++ [(gran, r)] })
  else s.dramQueue r

/-- R529, R532: a request for `n` bytes from address `a` is parted into its 256-byte accesses. -/
def pieces (a n : Nat) : List (Nat × Nat) :=
  if n = 0 then []
  else
    (List.range ((a + n - 1) / 256 + 1 - a / 256)).map (fun i =>
      let lo := max a ((a / 256 + i) * 256)
      (lo, min (a + n) ((a / 256 + i + 1) * 256) - lo))

/-- R563: a code word that the bytes from `a` on touch is poisoned. -/
def State.poisonedIn (s : State) (a n : Nat) : Bool :=
  n != 0 && s.mec.poison.any (fun w => decide ((a - dramBase) / 16 ≤ w) && decide (w ≤ (a + n - 1 - dramBase) / 16))

/-- R526, R563, R565, R732: what a read of one 256-byte access answers: its bytes, and whether they are bad. -/
def State.memReadPiece (s : State) (req a n : Nat) : State × List Byte × Bool :=
  let gran := granuleOf a
  let fresh := !s.mec.valid.contains gran && !s.mec.fills.any (fun f => f.1 == gran)
  let inside := decide (dramBase ≤ a) && decide (a < dramBase + s.dramCap)
  if inside && fresh then (s.inc Reg.MEC_ZERO_READS, zeros n, false)
  else if !(inside && s.dramUp) then (s.addrError req a, zeros n, true)
  else (s, s.rdMem a n, s.poisonedIn a n)

/-- R665: `n` bytes of device memory from address `a`, read at once, and whether any of them is bad (R526, R563, R732). -/
def State.memRead (s : State) (req a n : Nat) : State × List Byte × Bool :=
  if dramBase ≤ a then
    (pieces a n).foldl (fun (x : State × List Byte × Bool) p =>
      let y := x.1.memReadPiece req p.1 p.2
      (y.1, x.2.1 ++ y.2.1, x.2.2 || y.2.2)) (s, [], false)
  else (s, s.rdMem a n, false)

/-- R532: a requester reads `n` bytes from address `a`, or writes the given bytes there. -/
def State.dramRequest (s : State) (req : Nat) (urgent write : Bool) (a n : Nat) (data : List Byte) : State :=
  (pieces a n).foldl (fun s p =>
    s.dramPiece { req := req, level := levelOf req urgent, addr := p.1, len := p.2, write := write,
                  data := if write then slice data (p.1 - a) p.2 else [], poison := [], merged := false,
                  arrived := s.tmb.tclk }) s

/-! ### Row disturbance (R542 to R544) -/

/-- R542: what a refresh or an RFM leaves of an activation counter. -/
def State.decayed (s : State) (n c : Nat) : Nat := c - n * s.fld Reg.DMC_RH_CTL 7 0

/-- R542: warn and limit. -/
def State.rhWarn (s : State) : Nat := s.fld Reg.DMC_RH_LIMIT 15 0
def State.rhLimit (s : State) : Nat := s.fld Reg.DMC_RH_LIMIT 31 16

/-- R542: banks whose counter has fallen below warn are observed no more. -/
def State.pruneWatch (s : State) (g : Fin 2) : State :=
  s.modGrp g (fun x => { x with watch := x.watch.filter (fun w => decide (s.rhWarn ≤ x.act[Fin.ofNat 16 w.1])) })

/-- R542: the counters of a group that stand at warn or above do so until now. -/
def State.noteHot (s : State) (g : Fin 2) : State :=
  s.when ((s.dgrp g).act.toList.any (fun c => decide (s.rhWarn ≤ c))) (fun s => s.modGrp g (fun x => { x with calm := s.tmb.tclk }))

/-- R537 to R542: `n` all-bank refreshes of a group: its rows close and its counters fall. -/
def State.refreshAll (s : State) (g : Fin 2) (n : Nat) : State :=
  let s := (s.noteHot g).modGrp g (fun x => { x with rows := [], act := Vector.ofFn (fun i => s.decayed n x.act[i]) })
  (s.pruneWatch g).emit (.dram g.val "REFab" n)

/-- R542: the requester that issued most of the observed ACTs, the lowest-numbered of those tied. -/
def offenderOf (reqs : List Nat) : Nat :=
  ((List.range 16).foldl (fun (best : Nat × Nat) r =>
    let n := reqs.count r
    if best.2 < n then (r, n) else best) (0, 0)).1

/-- R542, R544: an offender is named and throttled. -/
def State.nameOffender (s : State) (g : Fin 2) (bank o : Nat) : State :=
  let s := s.wrN (Reg.DMC_GRP_OFFENDER g) (2 ^ 31 + o * 2 ^ 16 + bank)
  let s := s.modGrp g (fun x => { x with watch := x.watch.filter (fun w => w.1 != bank) })
  if (s.dgrp g).throttled.any (fun t => t.1 == o) then s
  else
    ((s.modGrp g (fun x => { x with throttled := x.throttled ++ [(o, bank)] })).setBit Reg.DMC_THROTTLED o true).raise
      Ev.throttleStart noInst 0 [(1, o), (1, g.val), (1, bank)]

/-- R542: an ACT of requester `req` is observed in bank `bank`. -/
def State.observeAct (s : State) (g : Fin 2) (bank req before : Nat) : State :=
  match (s.dgrp g).watch.find? (fun w => w.1 == bank) with
  | some w =>
    let seen := w.2 ++ [req]
    if 64 ≤ seen.length then s.nameOffender g bank (offenderOf seen)
    else s.modGrp g (fun x => { x with watch := (bank, seen) :: x.watch.filter (fun w => w.1 != bank) })
  | none =>
    if before < s.rhWarn ∧ s.rhWarn ≤ before + 1 then
      s.modGrp g (fun x => { x with watch := (bank, []) :: x.watch })
    else s

/-- R543, R551: an RFM before the next ACT to a bank whose counter has reached the limit. -/
def State.rfm (s : State) (g : Fin 2) (bank : Fin 16) : State :=
  if s.rhLimit ≤ (s.dgrp g).act[bank] then
    let s := ((s.noteHot g).inc (Reg.DMC_GRP_RFM g)).modGrp g (fun x => { x with act := x.act.set bank (s.decayed 1 x.act[bank]) })
    (s.pruneWatch g).emit (.dram g.val "RFM" bank.val)
  else s

/-- R531, R542, R543: a row is opened for requester `req`. -/
def State.activate (s : State) (g : Fin 2) (bank : Fin 16) (row req : Nat) : State :=
  let s := s.rfm g bank
  let n := (s.dgrp g).act[bank]
  let s := s.modGrp g (fun x => { x with
    act := x.act.set bank (n + 1), rows := (bank.val, row) :: x.rows.filter (fun r => r.1 != bank.val) })
  let s := if s.fld (Reg.DMC_GRP_RH_PEAK g) 15 0 < n + 1 then
      s.wrN (Reg.DMC_GRP_RH_PEAK g) (bank.val * 2 ^ 16 + min 0xFFFF (n + 1)) else s
  ((s.noteHot g).emit (.dram g.val "ACT" (bank.val * 2 ^ 17 + row))).observeAct g bank.val req n

/-! ### Choice (R531 to R536, R542) -/

/-- R529: the bank and the row of a request. -/
def State.bankAt (s : State) (r : DramReq) : Fin 16 := Fin.ofNat 16 (bankOf (s.offsetIn (r.addr - dramBase)))
def State.rowAt (s : State) (r : DramReq) : Nat := rowOf (s.offsetIn (r.addr - dramBase))

/-- R531: the request is to an open row. -/
def State.rowOpen (s : State) (g : Fin 2) (r : DramReq) : Bool :=
  (s.dgrp g).rows.contains ((s.bankAt r).val, s.rowAt r)

/-- R542: the pause of a throttled requester holds back a non-urgent ACT of it. -/
def State.paused (s : State) (g : Fin 2) (r : DramReq) : Bool :=
  r.level != 0 && (s.dgrp g).throttled.any (fun t => t.1 == r.req) && !s.rowOpen g r &&
    (s.dgrp g).last.any (fun l => l.1 == r.req && decide (s.tmb.tclk < l.2 + 8 * s.fld Reg.DMC_RH_CTL 31 24))

/-- R562, R566, R573: the requests that may be chosen: the oldest of each access, where neither the access nor its granule is
locked. -/
def State.readyIn (s : State) (g : Fin 2) : List DramReq :=
  ((s.dgrp g).queue.foldl (fun (x : List Nat × List DramReq) r =>
    if x.1.contains r.access then x
    else (r.access :: x.1,
      if s.mec.locks.contains r.access || s.mec.fills.any (fun f => f.1 == granuleOf r.addr) || s.paused g r then x.2
      else x.2 ++ [r])) ([], [])).2

/-- R533: the request that the group issues next, and whether it goes ahead of the oldest of its level. -/
def State.chooseIn (s : State) (g : Fin 2) : Option (DramReq × Bool) :=
  let ready := s.readyIn g
  let level := ready.foldl (fun m r => min m r.level) 4
  let mine := ready.filter (fun r => r.level == level)
  match mine with
  | [] => none
  | oldest :: _ =>
    if level = 3 ∧ (s.dgrp g).queue.any (fun r => r.level != 3) then none
    else if (s.dgrp g).hits < max 1 (s.fld Reg.DMC_ARB 31 24) then
      match mine.find? (s.rowOpen g) with
      | some r => some (r, decide (r ≠ oldest))
      | none => some (oldest, false)
    else some (oldest, false)

/-! ### Issue (R531 to R536, R561 to R563) -/

/-- R563: the code words that a write stores lose their poison, but those that it writes poisoned. -/
def State.dramStore (s : State) (r : DramReq) : State :=
  let lo := (r.addr - dramBase) / 16
  let hi := (r.addr - dramBase + r.data.length + 15) / 16
  let s := s.wrMem r.req r.addr r.data
  s.modMec (fun m => { m with
    poison := r.poison.foldl (fun l w => insertOnce w l) (m.poison.filter (fun w => !(decide (lo ≤ w) && decide (w < hi)))) })

/-- R535, R553: the books of an issued request. -/
def State.dramBooks (s : State) (g : Fin 2) (r : DramReq) : State :=
  let s := s.inc (Reg.DMC_REQ_BYTES r.req)
  let wait := (s.tmb.tclk - r.arrived) * 5 / 4
  let s := if r.level = 0 ∧ s.fld (Reg.DMC_GRP_URG_MAX g) 15 0 < wait then
      s.wrN (Reg.DMC_GRP_URG_MAX g) (min 0xFFFF wait) else s
  s.modGrp g (fun x => { x with quiet := s.tmb.tclk, last := (r.req, s.tmb.tclk) :: x.last.filter (fun l => l.1 != r.req) })

/-- R531, R533, R543, R561, R562: a chosen request is issued: its row is opened, a write is stored, and a read, or the read of a
read-modify-write under its lock, goes to memory. -/
def State.dramIssue (s : State) (g : Fin 2) (r : DramReq) (ahead : Bool) : State :=
  let isOpen := s.rowOpen g r
  let s := s.modGrp g (fun x => { x with queue := x.queue.erase r, hits := if ahead then x.hits + 1 else 0 })
  let s := if isOpen then s else s.activate g (s.bankAt r) (s.rowAt r) r.req
  let s := s.dramBooks g r
  let base := dramBase + 256 * r.access
  if r.write && !r.isPartial then (s.emit (.dram g.val "WR" base)).dramStore r
  else
    let s := if r.write then (s.inc Reg.MEC_RMW).modMec (fun m => { m with locks := insertOnce r.access m.locks }) else s
    (s.emit (.dram g.val "RD" base)).modGrp g (fun x => { x with reading := x.reading ++ [(r, s.rdMem base 256)] })

/-! ### Failures (R527, R560) -/

/-- R527: the failed channels of a group. -/
def State.failedIn (s : State) (g : Nat) : List Nat :=
  ((List.range 10).map (fun c => 10 * g + c)).filter (fun c => s.bit Reg.DMC_CH_FAILED c)

/-- R558, R732: a queued request that no longer reaches memory. -/
def State.dramRefuse (s : State) (r : DramReq) : State :=
  let s := s.addrError r.req r.addr
  if r.write then s else s.dramAnswer r.req r.addr (zeros r.len) true

/-- R527, R395: a failed group stops the DMC, and the device enters fallow mode. -/
def State.stopDmc (s : State) : State :=
  let s := s.setFld Reg.DMC_STATUS 31 29 4
  let s := [0, 1].foldl (fun (s : State) (g : Fin 2) =>
    let old := s.dgrp g
    let s := s.modGrp g (fun x => { x with queue := [], reading := [], rows := [] })
    (old.queue ++ old.reading.map (fun r => r.1)).foldl (fun (s : State) r => s.dramRefuse r) s) s
  let s := s.modMec (fun m => { m with fills := [], locks := [], back := [] })
  let s := match s.dmc.freq with
    | some f => (s.modDmc (fun g => { g with freq := none })).wrN Reg.DMC_FREQ_STATUS
        (statusWord Phase.discarded Code.DISCARDED false 0 0 f.2)
    | none => s
  s.enterFallow 3

/-- R527, R554: a group's degraded and ok bits, from its failed channels. -/
def State.groupBits (s : State) (g : Fin 2) : State :=
  let n := (s.failedIn g.val).length
  (s.setBit Reg.DMC_STATUS (2 + g.val) (n == 1)).setBit Reg.DMC_STATUS g.val (decide (n < 2) && s.dmcState == 2)

/-- R527, R560, R573: a channel is declared failed. -/
def State.declareFailed (s : State) (c : Nat) : State :=
  if s.bit Reg.DMC_CH_FAILED c || decide (10 * s.groups ≤ c) then s
  else
    let g : Fin 2 := Fin.ofNat 2 (c / 10)
    let s := (s.setBit Reg.DMC_CH_FAILED c true).raise Ev.channelFailed c 0 []
    let n := (s.failedIn g.val).length
    let s := s.groupBits g
    if n = 1 then s.raise Ev.groupDegraded g.val 0 []
    else if n = 2 then (s.raise Ev.groupFailed g.val 0 []).stopDmc
    else s

end Sys2Proof.Machine
end

