-- ==== Sys2Proof/Machine/Dmc.lean ====
section
/-!
DEFINITION. The DRAM controller's commands: training, the memory map, requests, refresh, row disturbance, frequency changes
and its reset (chapter 14, R523 to R554).
-/

namespace Sys2Proof.Machine

/-- R1, R9: the DMC is powered and the device is not in fallow mode. -/
def State.dmcOn (s : State) : Bool := s.sender || s.tile

/-- The DMC runs and the role uses the group. -/
def State.grpRuns (s : State) (g : Fin 2) : Bool := s.dmcOn && s.dmcState == 2 && decide (g.val < s.groups)

/-- R548: the operating points enabled in DMC_OPn_RATE, and whether a point is trained. -/
def State.opsOn (s : State) : List Nat := (List.range 4).filter (fun n => s.bit (Reg.DMC_OP_RATE n) 31)
def State.opTrained (s : State) (n : Nat) : Bool := s.bit (Reg.DMC_OP_RATE n) 30

/-- R540: the bound of a forced refresh of an operating point, in ns. -/
def State.refBoundOf (s : State) (n : Nat) : Nat :=
  40 + s.fld (Reg.DMC_OP_TIM0 n) 23 16 + 8 * s.fld (Reg.DMC_OP_TIM2 n) 31 20

/-- R540: ref_bound of DMC_STATUS. -/
def State.refBound (s : State) : State :=
  s.setBit Reg.DMC_STATUS 24 (s.opsOn.any (fun n => decide (2400 < s.refBoundOf n)))

/-- R572: MEC_GLEAN_STATUS: phase, the part of the lap completed, and the low 8 bits of the lap number. -/
def State.gleanStatus (s : State) : State :=
  let done := if s.groups = 2 then min s.mec.pos[0] s.mec.pos[1] else s.mec.pos[0]
  let all := s.dramCap / 256
  let pct := if all = 0 then 0 else min 100 (100 * done / all)
  let phase := if s.bit Reg.MEC_CTL 0 && s.dmcState == 2 then Phase.running else Phase.idle
  s.wrN Reg.MEC_GLEAN_STATUS (statusWord phase 0 false pct 0 (s.rd Reg.MEC_GLEAN_LAPS).toNat)

/-! ### Training (R548, R549) -/

/-- R548, R560: training starts: the failed channels and the trained bits are cleared. DESIGN CHOICE (log 65): partial_seq restarts at
0. -/
def State.trainStart (s : State) : State :=
  let s := (List.range 4).foldl (fun s n => s.setBit (Reg.DMC_OP_RATE n) 30 false) s
  let s := (s.wr Reg.DMC_CH_FAILED 0).setFld Reg.DMC_STATUS 3 0 0
  let s := (s.setFld Reg.DMC_STATUS 31 29 1).setBit Reg.DMC_CTL 8 true
  let s := [0, 1].foldl (fun (s : State) (g : Fin 2) => s.modGrp g (fun x => { x with rows := [] })) s
  (s.wrN Reg.DMC_TRAIN_STATUS (statusWord Phase.running 0 false 0 0 0)).gleanStatus

/-- R548: DMC_TRAIN, a write of DMC_CTL; a 1 in train while training runs changes nothing. -/
def execDmcTrain (v : Word) (s : State) : Host.Outcome State Fault Refusal :=
  gate s.dmcOn
    (fun s =>
      let s := s.setFld Reg.DMC_CTL 5 4 (bits v.toNat 5 4)
      if v.toNat.testBit 8 && s.dmcState != 1 then s.trainStart else s) s

/-- R549: the first enabled operating point at which a channel failed, and the step. -/
def failureOf (ops : List Nat) (fails : List (Fin 20 × Fin 4 × Fin 8)) (c : Nat) : Option (Nat × Nat) :=
  (ops.flatMap (fun n => (fails.filter (fun f => f.1.val == c && f.2.1.val == n)).map (fun f => (n, f.2.2.val)))).head?

/-- R549: DMC_CHc_TRAIN. The read eye at boot_op is reported where read DQ training there was completed. -/
def trainWord (bootOp : Nat) (enabled : Bool) (failure : Option (Nat × Nat)) (eye : Nat × Nat) : Nat :=
  match failure with
  | none => 2 ^ 31 + (if enabled then eye.1 * 2 ^ 8 + eye.2 else 0)
  | some (n, step) =>
    let seen := enabled && (decide (bootOp < n) || (bootOp == n && decide (4 < step)))
    step * 2 ^ 28 + n * 2 ^ 24 + (if seen then eye.1 * 2 ^ 8 + eye.2 else 0)

/-- R549: the results of the channels of the role's groups, with their failures declared (R527). -/
def State.trainChannels (s : State) (fails : List (Fin 20 × Fin 4 × Fin 8)) (eyes : List (Fin 20 × BitVec 8 × BitVec 8)) :
    State :=
  let boot := s.fld Reg.DMC_CTL 5 4
  (List.range (10 * s.groups)).foldl (fun (s : State) c =>
    let f := failureOf s.opsOn fails c
    let eye := match eyes.find? (fun e => e.1.val == c) with
      | some e => (e.2.1.toNat, e.2.2.toNat)
      | none => (0, 0)
    let s := s.wrN (Reg.DMC_CH_TRAIN c) (trainWord boot (s.opsOn.contains boot) f eye)
    if f.isSome then (s.setBit Reg.DMC_CH_FAILED c true).raise Ev.channelFailed c 0 [] else s) s

/-- R548: the DMC runs at boot_op, or at the lowest operating point that is enabled and trained; with none it is off. -/
def State.dmcRuns (s : State) : State :=
  let boot := s.fld Reg.DMC_CTL 5 4
  let good := s.opsOn.filter s.opTrained
  match (if good.contains boot then some boot else good.head?) with
  | some n =>
    let s := ((s.setFld Reg.DMC_STATUS 31 29 2).setFld Reg.DMC_STATUS 26 25 n).setBit Reg.DMC_STATUS 22 (n != boot)
    s.groupList.foldl (fun s g => s.groupBits g) s
  | none => s.setFld Reg.DMC_STATUS 31 29 0

/-- R48, R548: one operating point finishes; it waits for the next publication point. -/
def State.trainPoint (s : State) (n : Nat) : State :=
  let s := (s.setBit (Reg.DMC_OP_RATE n) 30 true).modDmc (fun g => { g with publish := true })
  s.setFld Reg.DMC_TRAIN_STATUS 22 16 (100 * (s.opsOn.filter (fun m => decide (m ≤ n))).length / max 1 s.opsOn.length)

/-- R548, R549: DMC_TRAIN_DONE, with the density of the population, the steps that channels failed and the read eyes at
boot_op; with `point` naming an enabled operating point, that one finishes and training goes on. -/
def execDmcTrainDone (point : Option (Fin 4)) (dense : Bool) (fails : List (Fin 20 × Fin 4 × Fin 8))
    (eyes : List (Fin 20 × BitVec 8 × BitVec 8)) (s : State) : Host.Outcome State Fault Refusal :=
  gate (s.dmcOn && s.dmcState == 1)
    (fun s =>
      match point with
      | some n => if s.opsOn.contains n.val then s.trainPoint n.val else s
      | none =>
      let s := s.modDmc (fun g => { g with dense := dense, publish := !s.opsOn.isEmpty })
      let s : State := s.opsOn.foldl (fun (s : State) n => s.setBit (Reg.DMC_OP_RATE n) 30 true) (s.setBit Reg.DMC_CTL 8 false)
      let s := s.trainChannels fails eyes
      let lost := s.groupList.map (fun g => (g, (s.failedIn g.val).length))
      let code := if lost.any (fun x => decide (2 ≤ x.2)) then Code.FAULT
        else if lost.any (fun x => x.2 == 1) then Code.PARTIAL else Code.OK
      let s := lost.foldl (fun (s : State) x => if x.2 = 1 then s.raise Ev.groupDegraded x.1.val 0 [] else s) s
      let seq := s.fld Reg.DMC_TRAIN_STATUS 15 8
      let part := s.bit Reg.DMC_TRAIN_STATUS 24
      let s := s.wrN Reg.DMC_TRAIN_STATUS (statusWord Phase.done code part 100 seq 0)
      let s := s.raise Ev.trainingDone noInst 0 [(1, code)]
      let s : State := if code = Code.FAULT then
          (lost.foldl (fun (s : State) x =>
            if 2 ≤ x.2 then (s.groupBits x.1).raise Ev.groupFailed x.1.val 0 [] else s.groupBits x.1) s).stopDmc
        else s.dmcRuns
      let s := if s.mec.pos[0] = 0 ∧ s.mec.pos[1] = 0 then s.modMec (fun m => { m with lapStart := s.tmb.tclk }) else s
      s.refBound.gleanStatus) s

/-- R48, R548: at a publication point, the operating points that have finished are published. -/
def State.publishTraining (s : State) : State :=
  if s.dmc.publish then
    ((s.modDmc (fun g => { g with publish := false })).setBit Reg.DMC_TRAIN_STATUS 24 true).bumpFld Reg.DMC_TRAIN_STATUS 15 8
  else s

/-- R530: DMC_MAP_WRITE. -/
def execDmcMapWrite (v : Word) (s : State) : Host.Outcome State Fault Refusal :=
  gate s.dmcOn
    (fun s =>
      if s.dmcState = 0 then (s.wrN Reg.DMC_MAP (bits v.toNat 3 0)).setBit Reg.DMC_STATUS 23 false
      else s.setBit Reg.DMC_STATUS 23 true) s

/-! ### Requests (R526, R532 to R536) -/

/-- R526, R532, R565, R566, R732: DRAM_REQUEST: requester `r` reads `len` bytes from a device memory address, or writes them. -/
def execDramRequest (r : Fin 16) (urgent write : Bool) (addr len : Nat) (data : List Byte) (s : State) :
    Host.Outcome State Fault Refusal :=
  gate (s.dmcOn && decide (dramBase ≤ addr)) (fun s => s.dramRequest r.val urgent write addr len data) s

/-- R553: owed and credit. -/
def State.owed (s : State) (g : Fin 2) : Nat := s.fld (Reg.DMC_GRP_REF g) 27 24
def State.credit (s : State) (g : Fin 2) : Nat := s.fld (Reg.DMC_GRP_REF g) 19 16

/-- R538: owed refreshes are paid ahead of every request that is not urgent. -/
def State.mayIssue (s : State) (g : Fin 2) : Bool := s.owed g == 0 || s.urgentIn g

/-- R533, R538: DRAM_ISSUE. -/
def execDramIssue (g : Fin 2) (s : State) : Host.Outcome State Fault Refusal :=
  gate (s.grpRuns g && s.mayIssue g)
    (fun s =>
      match s.chooseIn g with
      | some (r, ahead) => s.dramIssue g r ahead
      | none => s) s

/-- R534: the TCLK cycles left until a request has waited age_limit. -/
def State.ageLeft (s : State) (r : DramReq) : Nat := r.arrived + 800 * max 1 (s.fld Reg.DMC_ARB 15 0) - s.tmb.tclk

/-- R534: DRAM_AGE_RAISE: the oldest normal request of the group is raised to real-time once it has waited age_limit; time runs until
then, unless a tick comes first. -/
def execDramAgeRaise (g : Fin 2) (s : State) : Host.Outcome State Fault Refusal :=
  gate (s.grpRuns g)
    (fun s =>
      match (s.dgrp g).queue.find? (fun r => r.level == 2) with
      | some r => s.wait (s.ageLeft r) (fun s =>
        s.modGrp g (fun x => { x with queue := x.queue.map (fun q => if q = r then { q with level := 1 } else q) }))
      | none => s) s

/-! ### Refresh (R537 to R541) -/

/-- R539, R540: the forced refresh of eight owed refreshes. The column access in progress takes up to 40 ns, a free value. -/
def State.forceRefresh (s : State) (g : Fin 2) : State :=
  let op := s.fld Reg.DMC_STATUS 26 25
  let f := s.free
  let stall := f.1 % 41 + s.fld (Reg.DMC_OP_TIM0 op) 23 16 + 8 * s.fld (Reg.DMC_OP_TIM2 op) 31 20
  let s := (f.2.inc (Reg.DMC_GRP_FORCED g)).setFld (Reg.DMC_GRP_REF g) 27 24 0
  let s := if s.fld (Reg.DMC_GRP_STALL_MAX g) 15 0 < stall then
      s.wrN (Reg.DMC_GRP_STALL_MAX g) (min 0xFFFF stall) else s
  let s := s.refreshAll g 8
  if (s.dgrp g).forced then s
  else (s.modGrp g (fun x => { x with forced := true })).raise Ev.forcedRefresh g.val 0 []

/-- R537 to R541: REFRESH_DUE: the refresh uses a credit, is postponed while urgent requests wait, or is issued. -/
def execRefreshDue (g : Fin 2) (s : State) : Host.Outcome State Fault Refusal :=
  gate (s.grpRuns g)
    (fun s =>
      let s := s.setFld (Reg.DMC_GRP_REF g) 9 8 (s.dgrp g).derate
      if s.credit g ≠ 0 then s.setFld (Reg.DMC_GRP_REF g) 19 16 (s.credit g - 1)
      else if s.urgentIn g then
        let s := (s.setFld (Reg.DMC_GRP_REF g) 27 24 (s.owed g + 1)).inc (Reg.DMC_GRP_POSTPONED g)
        if 8 ≤ s.owed g then s.forceRefresh g else s
      else s.refreshAll g 1) s

/-- R538: REFRESH_PAYBACK. -/
def execRefreshPayback (g : Fin 2) (s : State) : Host.Outcome State Fault Refusal :=
  gate (s.grpRuns g && s.owed g != 0 && !s.urgentIn g)
    (fun s => (s.setFld (Reg.DMC_GRP_REF g) 27 24 (s.owed g - 1)).refreshAll g 1) s

/-- R538: the TCLK cycles left until the group has had no request for 1 µs. -/
def State.quietLeft (s : State) (g : Fin 2) : Nat := (s.dgrp g).quiet + 800 - s.tmb.tclk

/-- R538: REFRESH_PULL_IN, after 1 µs in which the group has had no request; time runs until then, unless a tick comes first. -/
def execRefreshPullIn (g : Fin 2) (s : State) : Host.Outcome State Fault Refusal :=
  gate (s.grpRuns g && s.owed g == 0 && decide (s.credit g < 8) && (s.dgrp g).queue.isEmpty)
    (fun s => s.wait (s.quietLeft g) (fun s => (s.setFld (Reg.DMC_GRP_REF g) 19 16 (s.credit g + 1)).refreshAll g 1)) s

/-- R541: DERATE_POLL: the most severe derating of each group's channels applies from its next refresh. -/
def execDeratePoll (codes : Vector (Fin 3) 20) (s : State) : Host.Outcome State Fault Refusal :=
  gate (s.dmcOn && s.dmcState == 2)
    (fun s => s.groupList.foldl (fun s g =>
      s.modGrp g (fun x => { x with
        derate := (List.range 10).foldl (fun m c => max m (codes[Fin.ofNat 20 (10 * g.val + c)]).val) 0 })) s) s

/-- R542: the TCLK cycles left until every counter of the group has stayed below warn for hold. -/
def State.calmLeft (s : State) (g : Fin 2) : Nat := (s.dgrp g).calm + 800 * s.fld Reg.DMC_RH_CTL 23 16 - s.tmb.tclk

/-- R542, R544: RH_THROTTLE_END: every counter of the group has stayed below warn for hold; time runs until then, unless a tick comes
first. -/
def execRhThrottleEnd (g : Fin 2) (s : State) : Host.Outcome State Fault Refusal :=
  gate (s.dmcOn && (s.dgrp g).act.toList.all (fun c => decide (c < s.rhWarn)))
    (fun s => s.wait (s.calmLeft g) (fun s =>
      let ended := (s.dgrp g).throttled
      let s := s.modGrp g (fun x => { x with throttled := [] })
      ended.foldl (fun (s : State) t =>
        let other := [0, 1].any (fun (h : Fin 2) => (s.dgrp h).throttled.any (fun u => u.1 == t.1))
        (s.setBit Reg.DMC_THROTTLED t.1 other).raise Ev.throttleEnd noInst 0 [(1, t.1), (1, g.val), (1, t.2)]) s)) s

/-! ### Frequency changes (R545 to R547) -/

/-- R547, R552: a frequency change completes. -/
def State.freqDone (s : State) (target tag code : Nat) : State :=
  ((s.modDmc (fun g => { g with freq := none })).wrN Reg.DMC_FREQ_STATUS
    (statusWord (if code = Code.DISCARDED then Phase.discarded else Phase.done) code false 100 0 tag)).raise
    Ev.freqDone noInst 0 [(1, code), (1, target)]

/-- R545, R547, R551: DMC_FREQ_GO, a write of DMC_FREQ_CTL. -/
def execDmcFreqGo (v : Word) (s : State) : Host.Outcome State Fault Refusal :=
  gate s.dmcOn
    (fun s =>
      let s := s.wrN Reg.DMC_FREQ_CTL (bits v.toNat 31 16 * 2 ^ 16 + bits v.toNat 5 4 * 2 ^ 4)
      let target := bits v.toNat 5 4
      let tag := bits v.toNat 31 24
      if !v.toNat.testBit 0 then s
      else if s.dmc.freq.isSome then s.raise Ev.freqDone noInst 0 [(1, Code.BUSY), (1, target)]
      else if s.dmcState = 1 then s.freqDone target tag Code.BUSY
      else if !s.opsOn.contains target || !s.opTrained target || target == s.fld Reg.DMC_STATUS 26 25 then
        s.freqDone target tag Code.REFUSED
      else (s.modDmc (fun g => { g with freq := some (target, tag), freqAt := s.tmb.tclk })).wrN Reg.DMC_FREQ_STATUS
        (statusWord Phase.queued 0 false 0 0 tag)) s

/-- R547: the TCLK cycles left of DMC_FREQ_CTL.timeout frame intervals. -/
def State.freqLeft (s : State) : Nat :=
  s.dmc.freqAt + ceilDiv (max 1 (s.fld Reg.DMC_FREQ_CTL 23 16) * period9 s.rateNow * 4) 45 - s.tmb.tclk

/-- R545, R547: the conditions of a window that the device itself knows: no urgent request, on a sender fetch_done, and time left; that the
monitor is in blanking and no upload is due is the command's own word (log entry 53). -/
def State.freqWindow (s : State) : Bool :=
  !s.groupList.any s.urgentIn && (s.role != 0 || s.bit Reg.SCN_STATUS 30) && s.freqLeft != 0

/-- R546: DMC_FREQ_CHANGE: every owed refresh is paid and the target's timing set is used. -/
def execDmcFreqChange (s : State) : Host.Outcome State Fault Refusal :=
  gate (s.dmcOn && s.dmcState == 2 && s.freqWindow)
    (fun s =>
      match s.dmc.freq with
      | none => s
      | some (target, tag) =>
        let s := s.groupList.foldl (fun (s : State) g =>
          ((s.refreshAll g (s.owed g)).setFld (Reg.DMC_GRP_REF g) 27 24 0).emit (.dram g.val "FSP" target)) s
        let s := (s.setFld Reg.DMC_STATUS 26 25 target).setBit Reg.DMC_STATUS 22 (target != s.fld Reg.DMC_CTL 5 4)
        s.freqDone target tag Code.OK) s

/-- R547: DMC_FREQ_TIMEOUT: time runs until timeout frame intervals have passed since the go, unless a tick comes first. -/
def execDmcFreqTimeout (s : State) : Host.Outcome State Fault Refusal :=
  gate s.dmcOn
    (fun s =>
      match s.dmc.freq with
      | some (target, tag) => s.wait s.freqLeft (fun s => s.freqDone target tag Code.REFUSED)
      | none => s) s

/-- R549: DMC_WCK_TRACKING: each group without an urgent request is tracked. -/
def execDmcWckTracking (s : State) : Host.Outcome State Fault Refusal :=
  gate (s.dmcOn && s.dmcState == 2)
    (fun s => s.groupList.foldl (fun (s : State) g =>
      if s.urgentIn g then s else s.emit (.dram g.val "WCK2DQ" 0)) s) s

/-! ### Reset (R550, R551) -/

/-- R550: a group's accepted writes are issued and its reads are returned marked uncorrectable; owed refreshes follow. -/
def State.dmcResetGroup (s : State) (g : Fin 2) : State :=
  let old := s.dgrp g
  let s := s.modGrp g (fun x => { x with queue := [], reading := [], rows := [], hits := 0 })
  let s := ((old.reading.map (fun r => r.1) ++ old.queue).filter (fun r => r.write)).foldl (fun (s : State) r => s.dramStore r) s
  let gone := (old.reading.map (fun r => r.1) ++ old.queue).filter (fun r => !r.write)
  let s := gone.foldl (fun (s : State) r => s.dramAnswer r.req r.addr (zeros r.len) true) s
  if s.owed g = 0 then s else (s.refreshAll g (s.owed g)).setFld (Reg.DMC_GRP_REF g) 27 24 0

/-- R45, R547, R550, R569: DMC_RESET. -/
def execDmcReset (s : State) : Host.Outcome State Fault Refusal :=
  gate s.dmcOn
    (fun s =>
      let s := s.groupList.foldl (fun s g => s.dmcResetGroup g) s
      let s := s.modMec (fun m => { m with fills := [], locks := [] })
      let s := match s.dmc.freq with
        | some (target, tag) => s.freqDone target tag Code.DISCARDED
        | none => s
      if s.dmcState = 1 then
        let part := s.bit Reg.DMC_TRAIN_STATUS 24
        ((s.setFld Reg.DMC_STATUS 31 29 0).setBit Reg.DMC_CTL 8 false).wrN Reg.DMC_TRAIN_STATUS
          (statusWord Phase.discarded Code.DISCARDED part 0 (s.fld Reg.DMC_TRAIN_STATUS 15 8) 0)
      else s) s

end Sys2Proof.Machine
end

