-- ==== Sys2Proof/Machine/Evt.lean ====
section
/-!
DEFINITION. The Ledger, MSI-X messages and the forwarding of occurrences (chapter 17, R604 to R626; R669, R675).
-/

namespace Sys2Proof.Machine

/-- R605, R623: the event sources of EVT. -/
abbrev Ev.ringHigh : Nat := 48
abbrev Ev.dramOverwrite : Nat := 49
abbrev Ev.forwardDrop : Nat := 50

/-- R625: the fields of EVT_CTL. -/
def State.dramEn (s : State) : Bool := s.bit Reg.EVT_CTL 0
def State.drainEn (s : State) : Bool := s.bit Reg.EVT_CTL 1

/-- R611, R624: entries written and not drained. -/
def State.undrained (s : State) : Nat := subMod 32 (s.rd Reg.EVT_LOGGED).toNat (s.rd Reg.EVT_GRING_DRAINED).toNat

/-- R613: the entries of the DRAM ring, and those that wait for the host. -/
def State.dramRingSize (s : State) : Nat := 2 ^ clampN 10 20 (s.fld Reg.EVT_DRAM_SIZE 4 0)
def State.dramRingHeld (s : State) : Nat := subMod 32 (s.rd Reg.EVT_DRAM_WR).toNat (s.rd Reg.EVT_DRAM_RD).toNat

/-- R624: EVT_STATUS. -/
def State.evtStatus (s : State) : State :=
  let n := if s.dramEn then s.undrained else s.evt.gring.length
  let full := decide (s.dramRingSize ≤ s.dramRingHeld) && !s.bit Reg.EVT_CTL 2
  s.wrN Reg.EVT_STATUS (b2n (s.dramEn && s.drainEn && !s.evt.stopped && !full) * 2 ^ 31 + n % 2 ^ 14)

/-- R611: the entry at ring index `i`. -/
def State.ledgerEntry (s : State) (i : Nat) : List Byte := sGet (fun _ => zeros 32) s.evt.gring (i % 8192)

/-! ### Messages (R616, R669) -/

/-- R669: a request for an MSI-X vector: the message is sent, or the vector's pending bit is set. -/
def State.pciMsix (s : State) (v : Nat) : State :=
  if s.pci.bme && s.pci.msixEn && !s.pci.msixMask && !s.bit (Reg.PCI_MSIX_VCTL v) 0 then
    s.emit (.msix v (s.rd64 (Reg.PCI_MSIX_ADDR_LO v)) (s.rd (Reg.PCI_MSIX_DATA v)))
  else s.setBit (Reg.PCI_MSIX_PBA (v / 32)) (v % 32) true

/-- R616: a message of vector `v` may be sent: it is held in the vector's holdoff, or goes out and begins one. -/
def State.msixAsk (s : State) (v : Nat) : State :=
  if s.evt.holdoff.contains v then s.modEvt (fun e => { e with heldReq := insertOnce v e.heldReq })
  else
    let s := s.pciMsix v
    if s.fld Reg.EVT_IRQ_CTL 15 0 = 0 then s
    else s.modEvt (fun e => { e with
      holdoff := insertOnce v e.holdoff,
      holdEnds := (v, s.tmb.tclk + 800 * s.fld Reg.EVT_IRQ_CTL 15 0) :: e.holdEnds.filter (fun x => x.1 != v) })

/-- R616: MSIX_SEND: the oldest message that may be sent. -/
def execMsixSend (s : State) : Host.Outcome State Fault Refusal :=
  gate (s.live && s.role == 0)
    (fun s =>
      match s.evt.msixReady with
      | [] => s
      | v :: rest => (s.modEvt (fun e => { e with msixReady := rest })).msixAsk v) s

/-- R616: the TCLK cycles left of a vector's holdoff. -/
def State.holdLeft (s : State) (v : Nat) : Nat :=
  ((s.evt.holdEnds.find? (fun x => x.1 == v)).map (fun x => x.2)).getD 0 - s.tmb.tclk

/-- R616: MSIX_HOLDOFF_END: time runs until the holdoff ends, unless a tick comes first. -/
def execMsixHoldoffEnd (v : Fin 512) (s : State) : Host.Outcome State Fault Refusal :=
  gate (s.live && s.role == 0 && s.evt.holdoff.contains v.val)
    (fun s => s.wait (s.holdLeft v.val) (fun s =>
      let held := s.evt.heldReq.contains v.val
      let s := s.modEvt (fun e => { e with holdoff := e.holdoff.filter (· != v.val), heldReq := e.heldReq.filter (· != v.val) })
      if held then s.msixAsk v.val else s)) s

/-! ### The Granary ring (R608 to R611, R614) -/

/-- R609: the entry, or the pair, of an occurrence. -/
def Staged.entries (e : Staged) : List (List Byte) :=
  let word := fun (cont : Bool) => leBytes 8 (e.stamp / 2 ^ 13 * 2 ^ 13 + e.src * 2 ^ 4 + b2n e.lost * 2 ^ 3 + b2n cont * 2 ^ 2)
  let first := word false ++ leBytes 2 e.seq ++ leBytes 2 e.inst ++ leBytes 4 e.frame ++ slice e.detail 0 16
  if e.detail.length ≤ 16 then [first] else [first, word true ++ slice e.detail 16 24]

/-- R608: the next source that has an occurrence staged, in turn. -/
def State.nextSource (s : State) : Option Nat :=
  ((List.range 512).map (fun i => (s.evt.lastServed + 1 + i) % 512)).find? (fun n => s.evt.stage.any (fun e => e.src == n))

/-- The first staged occurrence of a source, and the others. -/
def takeStaged (src : Nat) : List Staged → Option Staged × List Staged
  | [] => (none, [])
  | e :: t => if e.src = src then (some e, t) else ((takeStaged src t).1, e :: (takeStaged src t).2)

/-- R611, R614, R615: entries are written at EVT_LOGGED. -/
def State.logEntries (s : State) (es : List (List Byte)) : State :=
  let at_ := (s.rd Reg.EVT_LOGGED).toNat
  let spots := (List.range es.length).map (fun i => (at_ + i) % 8192)
  let gone := (spots.filter (fun p => s.evt.gring.any (fun g => g.1 == p))).length
  let s := if s.dramEn then s else s.bump Reg.EVT_OVERWRITTEN gone
  let times := s.evt.writtenAt ++ List.replicate es.length s.tmb.tclk
  let s := s.modEvt (fun e => { e with
    writtenAt := times.drop (times.length - 8192),
    gring := (spots.zip es).foldl (fun g x => sPut (fun _ => zeros 32) g x.1 x.2) e.gring })
  (s.bump Reg.EVT_LOGGED es.length).unbump Reg.EVT_STAGED es.length

/-- R675: the event datagram of a written record; the header fields that the spec does not state for it are free. -/
def State.eventDatagram (s : State) (body : List Byte) : State :=
  if s.bit Reg.MGE_CTL 2 && s.bit Reg.MGE_CTL 0 then
    let f := s.free
    f.2.emit (.udp "event" (s.rd Reg.MGE_EVT_DST).toNat (s.fld Reg.MGE_EVT_PORT 15 0)
      (beBytes 2 0x4357 ++ leBytes 2 f.1 ++ leBytes 1 3 ++ leBytes 7 (f.1 / 2 ^ 16) ++ body))
  else s

/-- R616, R618, R675: what follows the record of an occurrence. -/
def State.afterRecord (s : State) (e : Staged) (bytes : List Byte) : State :=
  let s := if e.cfg.toNat.testBit 28 && s.role == 0 then
      let v := bits e.cfg.toNat 8 0
      let s := if s.dramEn then
          s.modEvt (fun x => { x with msixWait := x.msixWait ++ [((s.rd Reg.EVT_LOGGED).toNat, v)] })
        else s.modEvt (fun x => { x with msixReady := x.msixReady ++ [v] })
      s.eventDatagram bytes
    else s
  if e.cfg.toNat.testBit 30 && s.mode == 1 then s.modEvt (fun x => { x with forward := x.forward ++ [(e.src, s.tmb.tclk, bytes)] }) else s

/-- R608, R611, R614 to R618, R623: LEDGER_WRITE: the writer takes one staged occurrence. -/
def execLedgerWrite (s : State) : Host.Outcome State Fault Refusal :=
  gate (s.live && !s.evt.stopped)
    (fun s =>
      match s.nextSource with
      | none => s
      | some src =>
        match takeStaged src s.evt.stage with
        | (none, _) => s
        | (some e, rest) =>
          let es := e.entries
          if s.dramEn && decide (8192 < s.undrained + es.length) then s
          else
            let s := (s.modEvt (fun x => { x with stage := rest, lastServed := src })).logEntries es
            let s := s.afterRecord e es.flatten
            let s := if s.dramEn && decide (7168 < s.undrained) && !s.evt.ringHigh then
                (s.modEvt (fun x => { x with ringHigh := true })).raise Ev.ringHigh noInst 0 []
              else s
            s.evtStatus) s

/-! ### The DRAM ring (R612, R613, R621, R622) -/

/-- R613, R623: the oldest eight entries of the DRAM ring are given up. -/
def State.overwriteOldest (s : State) : State :=
  let s := (s.bump Reg.EVT_DRAM_RD 8).bump Reg.EVT_OVERWRITTEN 8
  if s.evt.overwrote then s
  else (s.modEvt (fun e => { e with overwrote := true })).raise Ev.dramOverwrite noInst 0 [(4, (s.rd Reg.EVT_DRAM_RD).toNat)]

/-- R612, R613, R616: `n` entries are copied to the DRAM ring, or draining stops for want of room. -/
def State.drainCopy (s : State) (n : Nat) : State :=
  let full := decide (s.dramRingSize < s.dramRingHeld + n)
  if full && !s.bit Reg.EVT_CTL 2 then s.evtStatus
  else
    let s := if full then s.overwriteOldest else s
    let from_ := (s.rd Reg.EVT_GRING_DRAINED).toNat
    let to_ := s.addr Reg.EVT_DRAM_BASE_LO + 32 * ((s.rd Reg.EVT_DRAM_WR).toNat % s.dramRingSize)
    let s := s.wrMem 2 to_ ((List.range n).flatMap (fun i => s.ledgerEntry (from_ + i)))
    let s := (s.bump Reg.EVT_GRING_DRAINED n).bump Reg.EVT_DRAM_WR n
    let done := fun (i : Nat) => decide (subMod 32 (s.rd Reg.EVT_GRING_DRAINED).toNat i < 2 ^ 31)
    let s := s.modEvt (fun e => { e with
      writtenAt := e.writtenAt.drop n,
      msixReady := e.msixReady ++ (e.msixWait.filter (fun w => done w.1)).map (fun w => w.2),
      msixWait := e.msixWait.filter (fun w => !done w.1) })
    (if s.undrained < 4096 then s.modEvt (fun e => { e with ringHigh := false }) else s).evtStatus

/-- R612: draining is on. -/
def State.drains (s : State) : Bool := s.live && s.dramEn && s.drainEn && !s.evt.stopped && decide (0 < s.undrained)

/-- R612: the entries that the next 256-byte access can take. -/
def State.drainRoom (s : State) : Nat := 8 - (s.rd Reg.EVT_DRAM_WR).toNat % 8

/-- R612, R616: LEDGER_DRAIN: a whole access of entries, or fewer where a message waits for its record. -/
def execLedgerDrain (s : State) : Host.Outcome State Fault Refusal :=
  gate (s.drains && (decide (s.drainRoom ≤ s.undrained) || !s.evt.msixWait.isEmpty))
    (fun s => s.drainCopy (min s.undrained s.drainRoom)) s

/-- R612: the TCLK cycles left until flush_us have passed since the oldest undrained entry was written. -/
def State.flushLeft (s : State) : Nat := s.evt.writtenAt.headD 0 + 800 * max 1 (s.fld Reg.EVT_DRAIN_CTL 15 0) - s.tmb.tclk

/-- R612: LEDGER_FLUSH_TIMEOUT: time runs until flush_us have passed, unless a tick comes first. -/
def execLedgerFlushTimeout (s : State) : Host.Outcome State Fault Refusal :=
  gate s.drains (fun s => s.wait s.flushLeft (fun s => s.drainCopy (min s.undrained s.drainRoom))) s

/-- R613, R621: EVT_DRAM_RD_WRITE. -/
def execEvtDramRdWrite (v : Word) (s : State) : Host.Outcome State Fault Refusal :=
  gate (s.live && !newer 32 v.toNat (s.rd Reg.EVT_DRAM_WR).toNat)
    (fun s => ((s.wr Reg.EVT_DRAM_RD v).modEvt (fun e => { e with overwrote := false })).evtStatus) s

/-- R612: EVT_DRAM_RING_SET: a write of EVT_DRAM_BASE_LO (0), _HI (1) or EVT_DRAM_SIZE (2). -/
def execEvtDramRingSet (which : Fin 3) (v : Word) (s : State) : Host.Outcome State Fault Refusal :=
  gate (s.live && !s.drainEn)
    (fun s =>
      let o := if which.val = 0 then Reg.EVT_DRAM_BASE_LO else if which.val = 1 then Reg.EVT_DRAM_BASE_HI else Reg.EVT_DRAM_SIZE
      let w := if which.val = 0 then v.toNat / 2 ^ 12 * 2 ^ 12 else if which.val = 1 then bits v.toNat 7 0 else bits v.toNat 4 0
      if (s.rd o).toNat = w then s
      else
        let d := s.rd Reg.EVT_GRING_DRAINED
        (((s.wrN o w).wr Reg.EVT_DRAM_WR d).wr Reg.EVT_DRAM_RD d).evtStatus) s

/-- R622: dram_en is set: draining begins from the oldest entry still held. -/
def State.startDram (s : State) : State :=
  let old := (s.rd Reg.EVT_GRING_DRAINED).toNat
  let first := subMod 32 (s.rd Reg.EVT_LOGGED).toNat 8192
  let d := if newer 32 first old then first else old
  let s := s.modEvt (fun e => { e with writtenAt := e.writtenAt.drop (e.writtenAt.length - subMod 32 (s.rd Reg.EVT_LOGGED).toNat d) })
  ((s.wrN Reg.EVT_GRING_DRAINED d).wrN Reg.EVT_DRAM_WR d).wrN Reg.EVT_DRAM_RD d

/-- R622, R625: EVT_DRAM_ENABLE: a write of EVT_CTL. -/
def execEvtDramEnable (v : Word) (s : State) : Host.Outcome State Fault Refusal :=
  gate s.live
    (fun s =>
      let was := s.dramEn
      let on := v.toNat.testBit 0 && (was || s.dmcState == 2)
      let s := s.wrN Reg.EVT_CTL (bits v.toNat 2 1 * 2 + b2n on)
      let s := if on && !was then s.startDram else s
      let s := if on then s else s.modEvt (fun e => { e with
        msixReady := e.msixReady ++ e.msixWait.map (fun w => w.2), msixWait := [] })
      s.evtStatus) s

/-! ### Toward the sender (R618) -/

/-- R618, R623: an occurrence is not sent toward the holder. -/
def State.forwardDrop (s : State) (src : Nat) : State :=
  let s := s.inc Reg.EVT_FWD_DROP
  if s.evt.fwdDropRaised then s
  else (s.modEvt (fun e => { e with fwdDropRaised := true })).raise Ev.forwardDrop noInst 0 [(2, src)]

/-- R235, R618: EVENT_FORWARD: the oldest occurrence that is to be sent goes toward the holder, or is dropped. -/
def execEventForward (s : State) : Host.Outcome State Fault Refusal :=
  gate s.tile
    (fun s =>
      match s.evt.forward with
      | [] => s
      | (src, _, b) :: rest =>
        let s := s.modEvt (fun e => { e with forward := rest })
        match s.red.holder with
        | some (_, _, idx, p) => s.sendOn p idx 4 0 Code.OK b
        | none => s.forwardDrop src) s

/-- R618: the TCLK cycles left until an occurrence has waited 1 ms. -/
def State.forwardLeft (s : State) (since : Nat) : Nat := since + 800000 - s.tmb.tclk

/-- R618: EVENT_FORWARD_TIMEOUT: the oldest occurrence has waited 1 ms; time runs until then, unless a tick comes first. -/
def execEventForwardTimeout (s : State) : Host.Outcome State Fault Refusal :=
  gate s.tile
    (fun s =>
      match s.evt.forward with
      | [] => s
      | (src, since, _) :: rest => s.wait (s.forwardLeft since) (fun s =>
        (s.modEvt (fun e => { e with forward := rest })).forwardDrop src)) s

/-- R622: EVT_RESET: the write in progress completes, and the rings, stages, counters, pending bits and configuration stay. -/
def execEvtReset (s : State) : Host.Outcome State Fault Refusal :=
  gate s.live (fun s => s.evtStatus) s

end Sys2Proof.Machine
end

