-- ==== Sys2Proof/Machine/Fw.lean ====
section
/-!
DEFINITION. The update commands, the end of flash operations and the trial (chapter 18, R637, R638, R646 to R652).
-/

namespace Sys2Proof.Machine

/-- R646: an update command is posted locally: its three registers are written, then its identifier. -/
def State.localUpdate (s : State) (op region arg : Nat) (offset length id : Word) : State :=
  let s := s.wrN Reg.BOOT_CMD_OP (op * 2 ^ 24 + region % 16 * 2 ^ 16 + arg % 16)
  ((s.wr Reg.BOOT_CMD_OFFSET offset).wr Reg.BOOT_CMD_LENGTH length).bootCmdIdWrite id

/-- R646, R647: FW_ERASE. -/
def execFwErase (region : Fin 16) (offset length id : Word) (s : State) : Host.Outcome State Fault Refusal :=
  gate s.live (fun s => s.localUpdate 1 region 0 offset length id) s

/-- R646, R647: FW_WRITE. -/
def execFwWrite (region : Fin 16) (offset length id : Word) (s : State) : Host.Outcome State Fault Refusal :=
  gate s.live (fun s => s.localUpdate 2 region 0 offset length id) s

/-- R646: FW_READ. -/
def execFwRead (region : Fin 16) (offset length id : Word) (s : State) : Host.Outcome State Fault Refusal :=
  gate s.live (fun s => s.localUpdate 3 region 0 offset length id) s

/-- R647: FW_VERIFY. -/
def execFwVerify (region : Fin 16) (id : Word) (s : State) : Host.Outcome State Fault Refusal :=
  gate s.live (fun s => s.localUpdate 4 region 0 0 0 id) s

/-- R648: FW_ACTIVATE. -/
def execFwActivate (slot : Fin 16) (id : Word) (s : State) : Host.Outcome State Fault Refusal :=
  gate s.live (fun s => s.localUpdate 5 0 slot 0 0 id) s

/-- R646, R651: FW_ROLLBACK. -/
def execFwRollback (id : Word) (s : State) : Host.Outcome State Fault Refusal :=
  gate s.live (fun s => s.localUpdate 6 0 0 0 0 id) s

/-- R646: FW_SELECT. -/
def execFwSelect (set : Fin 16) (id : Word) (s : State) : Host.Outcome State Fault Refusal :=
  gate s.live (fun s => s.localUpdate 7 0 set 0 0 id) s

/-- R637: FW_REVOKE. -/
def execFwRevoke (key : Fin 16) (id : Word) (s : State) : Host.Outcome State Fault Refusal :=
  gate s.live (fun s => s.localUpdate 8 0 key 0 0 id) s

/-- R652: FW_CHAIN_START. -/
def execFwChainStart (id : Word) (s : State) : Host.Outcome State Fault Refusal :=
  gate s.live (fun s => s.localUpdate 9 0 0 0 0 id) s

/-- R634: an erase that shut-down has suspended is not resumed. -/
def State.eraseSuspended (s : State) : Bool := s.shutting && s.boot.held.any (fun u => u.op == 1)

/-- R650: BOOT_CONFIRM: a write of BOOT_CTL.confirm. -/
def execBootConfirm (s : State) : Host.Outcome State Fault Refusal :=
  gate s.live (fun s => s.confirm) s

/-- R649, R651: a fallback that no command asked for: a command held completes with DISCARDED. -/
def State.fallBackNow (s : State) : State :=
  let s := match s.boot.held with
    | some u => s.heldDone u Code.DISCARDED 0
    | none => s
  s.beginFallback

/-- R650: the TCLK cycles left until the trial's deadline has passed. -/
def State.deadlineLeft (s : State) : Nat := s.boot.trialEnd.getD 0 + 1 - s.tmb.tclk

/-- R650, R651: TRIAL_DEADLINE: time runs until the deadline has passed, unless a tick comes first. -/
def execTrialDeadline (s : State) : Host.Outcome State Fault Refusal :=
  gate (s.live && s.inTrial && !s.pausedNow) (fun s => s.wait s.deadlineLeft (fun s => s.fallBackNow)) s

/-- R93, R480, R651: FIRMWARE_RESTART. A solve step starts again from the sums it holds, which it has not changed. -/
def execFirmwareRestart (s : State) : Host.Outcome State Fault Refusal :=
  gate (s.live && s.boot.running)
    (fun s =>
      let s := s.ptpStops
      if s.inTrial && !s.pausedNow then s.fallBackNow else s) s

end Sys2Proof.Machine
end

