-- ==== Sys2Proof/Machine/Reset.lean ====
section
/-!
DEFINITION. The cause record of the always-on domain and the reset of every other domain (R597 to R599, R654, R655, R695, R697).
-/

namespace Sys2Proof.Machine

/-- R655: AON records a cause and a deferral, only where no record waits to be reported. -/
def State.recordCause (s : State) (cause deferralUs : Nat) : State :=
  if s.bit Reg.AON_RET0 31 && !s.bit Reg.AON_RET0 30 then s
  else
    let s := s.wrN Reg.AON_RET0 (2 ^ 31 + deferralUs % 2 ^ 12 * 2 ^ 16 + cause)
    let s := (s.wr Reg.AON_RET1 (s.rd Reg.AON_SEC_LO)).wrN Reg.AON_RET2 (s.fld Reg.AON_SEC_HI 15 0)
    s.wrN Reg.AON_RET3 s.glb.aonTemps

/-- R80, R597, R654, R695: every domain except AON, whose count goes on, is reset and held. The flash, the fuses and the companions on the lanes are
outside those domains. -/
def State.resetDomains (s : State) : State :=
  { State.reset with
    pending := s.pending, freeCtr := s.freeCtr, out := s.out, flash := s.flash,
    regs := (s.aonSet s.aonSub).regs.filter (fun r => decide (r.1 / 0x10000 = 1)),
    glb := { State.reset.glb with fuses := s.glb.fuses, aonTemps := s.glb.aonTemps },
    fur := { State.reset.fur with comp := s.fur.comp } }

end Sys2Proof.Machine
end

