-- ==== Sys2Proof/Machine/Hkp.lean ====
section
/-!
DEFINITION. The housekeeping round, the temperatures, the comparators and shut-down (chapter 16, R580 to R603).
-/

namespace Sys2Proof.Machine

/-- R601, R605: the event sources of HKP. -/
abbrev Ev.thrAssert : Nat := 416
abbrev Ev.thrDeassert : Nat := 417
abbrev Ev.shutDown : Nat := 418
abbrev Ev.railOut : Nat := 419
abbrev Ev.railBack : Nat := 420
abbrev Ev.sensorFault : Nat := 421
abbrev Ev.panelBlind : Nat := 422
abbrev Ev.oscInvalid : Nat := 423

/-- R580, R602: the current slot. -/
def State.hkpSlot (s : State) : Nat := s.fld Reg.HKP_ROUND 5 0

/-! ### Slot values (R581 to R583) -/

/-- R583: a slot's conversions that are flagged invalid; none for a quiet slot. -/
def flagged (isTile : Bool) (slot : Nat) : Option Nat :=
  if slot = 0 then some 0
  else if slot ≤ 10 then some 2
  else if slot = 11 ∨ 36 ≤ slot ∨ !isTile then none
  else if slot = 12 then some 2
  else if slot ≤ 28 then some 4
  else some 2

/-- R581: the slot value of the conversions that are not flagged. -/
def slotValue (codes : List Nat) (k : Nat) : Nat := 16 * (codes.drop k).sum / (codes.drop k).length

/-- R582: a valid conversion is at an end of the range. -/
def slotSat (codes : List Nat) (k : Nat) : Bool := (codes.drop k).any (fun c => c == 0 || c == 0x3FFF)

/-- R584, R602: HKP_SLOTs. -/
def State.showSlot (s : State) (slot v : Nat) (sat inRange : Bool) : State :=
  s.wrN (Reg.HKP_SLOT slot) (b2n (!sat && inRange) * 2 ^ 31 + b2n sat * 2 ^ 30 + v % 2 ^ 18)

/-! ### Comparators (R591 to R594, R597) -/

/-- R591, R594: the register of the comparator at a bit of HKP_STATE, its set level and its hysteresis. -/
def thrReg (bit : Nat) : Nat := if bit < 3 then Reg.HKP_THR_DIE_WARN + 4 * bit else Reg.HKP_THR_PANEL_WARN + 4 * (bit - 4)
def State.thrSet (s : State) (bit : Nat) : Int :=
  let v := sx 16 (s.fldA (thrReg bit) 31 16)
  if bit = 2 ∧ 2000 < v then 2000 else v
def State.thrHyst (s : State) (bit : Nat) : Int := (max 1 (s.fldA (thrReg bit) 15 0) : Nat)

/-- R597: shut-down begins. -/
def State.shutDown (s : State) (cause : Nat) : State :=
  if s.hkp.shut.isSome then s
  else
    let s := (s.modHkp (fun h => { h with shut := some cause })).setBit Reg.HKP_STATE 29 true
    { s.raise Ev.shutDown noInst 0 [] with evt := { (s.raise Ev.shutDown noInst 0 []).evt with stopped := true } }

/-- R591, R601: a comparator is evaluated on a value of a sensor or oscillator. -/
def State.compare (s : State) (bit : Nat) (v : Int) (src : Nat) : State :=
  let old := s.bit Reg.HKP_STATE bit
  let new := if s.thrSet bit ≤ v then true else if v ≤ s.thrSet bit - s.thrHyst bit then false else old
  if new = old then s
  else
    let s := (s.setBit Reg.HKP_STATE bit new).raise (if new then Ev.thrAssert else Ev.thrDeassert) bit 0
      [(2, tc 16 v), (1, src)]
    if new && bit == 2 then s.shutDown 0x10 else if new && bit == 6 then s.shutDown 0x11 else s

/-- The greatest of some readings; which of several equal ones gave it is a free value. -/
def State.greatest (s : State) (l : List (Nat × Int)) : State × Option (Nat × Int) :=
  match l with
  | [] => (s, none)
  | x :: t =>
    let m := t.foldl (fun a b => max a b.2) x.2
    let tied := l.filter (fun r => r.2 == m)
    if tied.length ≤ 1 then (s, tied.head?)
    else (s.free.2, some (tied.getD (s.free.1 % tied.length) x))

/-- R586, R590: a reading made at slot count `at_` is still recent. -/
def State.recent (s : State) (at_ : Nat) : Bool := decide (s.hkp.slots < at_ + 128)

/-! ### Die temperature (R585, R586) -/

/-- R585: the temperature that a count gives. A slope of zero gives a free value. -/
def State.dieReading (s : State) (r n : Nat) : State × Option Int :=
  match s.hkp.vcore with
  | none => (s, none)
  | some v =>
    let cal := (s.rd (Reg.HKP_RO_CAL r)).toNat
    let slope := sx 12 (bits cal 31 20)
    let dn := (n : Int) - bits cal 19 0 - (sx 16 (s.fld Reg.HKP_RO_KV 15 0) * (v - 750)).fdiv 16
    let x := if slope = 0 then (s.free.2, sx 16 s.free.1) else (s, 400 + (256 * dn).fdiv slope)
    (x.1, if x.2 < -640 ∨ 2400 < x.2 then none else some x.2)

/-- R586, R591: the die value is formed again. -/
def State.formDie (s : State) : State :=
  let l := (s.hkp.ro.filter (fun x => s.bitA Reg.HKP_CTL (16 + x.1) && s.recent x.2.2)).map (fun x => (x.1, x.2.1))
  let g := s.greatest l
  match g.2 with
  | none => g.1.setBit Reg.HKP_DIE_TEMP 31 false
  | some (r, v) =>
    let s := g.1.wrN Reg.HKP_DIE_TEMP (2 ^ 31 + r * 2 ^ 16 + tc 16 v)
    [0, 1, 2].foldl (fun (s : State) b => s.compare b v r) s

/-- R585, R586, R601: oscillator `r` has counted `n`. -/
def State.oscillator (s : State) (r n : Nat) : State :=
  let s := s.wrN (Reg.HKP_RO_COUNT r) n
  let d := s.dieReading r n
  let s := d.1
  let s := match d.2 with
    | some t =>
      (s.wrN (Reg.HKP_RO_TEMP r) (2 ^ 31 + tc 16 t)).modHkp (fun h => { h with
        ro := (r, t, h.slots) :: h.ro.filter (fun x => x.1 != r), roOk := insertOnce r h.roOk })
    | none =>
      let s := (s.setBit (Reg.HKP_RO_TEMP r) 31 false)
      let s := if s.hkp.roOk.contains r then s.raise Ev.oscInvalid r 0 [] else s
      s.modHkp (fun h => { h with roOk := h.roOk.filter (· != r) })
  s.formDie

/-! ### Rails (R587) -/

/-- R587: rail `k` has a valid reading in mV. -/
def State.railReading (s : State) (k : Fin 9) (mv : Nat) : State :=
  let win := s.rdA (Reg.HKP_RAIL_WIN k.val)
  let out := decide (bits win.toNat 31 16 < mv) || decide (mv < bits win.toNat 15 0)
  let s := s.modHkp (fun h => { h with
    railOut := h.railOut.set k (if out then h.railOut[k] + 1 else 0),
    railIn := h.railIn.set k (if out then 0 else h.railIn[k] + 1) })
  let s := s.setFld (Reg.HKP_RAIL k.val) 15 0 mv
  let was := s.bit (Reg.HKP_RAIL k.val) 30
  if out && s.hkp.railOut[k] == 2 && !was then (s.setBit (Reg.HKP_RAIL k.val) 30 true).raise Ev.railOut k.val 0 []
  else if !out && s.hkp.railIn[k] == 2 && was then (s.setBit (Reg.HKP_RAIL k.val) 30 false).raise Ev.railBack k.val 0 []
  else s

/-- R585, R587: the slot of rail `k` has ended. -/
def State.railSlot (s : State) (k : Fin 9) (v : Nat) (sat : Bool) : State :=
  let mv : Nat := Config.railMv k.val v % 2 ^ 16
  let s := s.setBit (Reg.HKP_RAIL k.val) 31 (!sat)
  if sat then s.modHkp (fun h => { h with railOut := h.railOut.set k 0, railIn := h.railIn.set k 0 })
  else
    let s := if k.val = 0 then s.modHkp (fun h => { h with vcore := some (mv : Int) }) else s
    s.railReading k mv

/-! ### Panel sensors (R588 to R590) -/

/-- R590, R591: the panel value is formed again. -/
def State.formPanel (s : State) : State :=
  let l := (s.hkp.panel.filter (fun x => s.bitA Reg.HKP_PANEL_SEL x.1 && s.recent x.2.2)).map (fun x => (x.1, x.2.1))
  let g := s.greatest l
  match g.2 with
  | none =>
    let s := g.1.setBit Reg.HKP_PANEL_TEMP 31 false
    if s.hkp.blind then s else (s.modHkp (fun h => { h with blind := true })).raise Ev.panelBlind noInst 0 []
  | some (k, v) =>
    let s := (g.1.modHkp (fun h => { h with blind := false })).wrN Reg.HKP_PANEL_TEMP (2 ^ 31 + k * 2 ^ 16 + tc 16 v)
    [4, 5, 6].foldl (fun (s : State) b => s.compare b v k) s

/-- R588, R589, R601: panel sensor `k` (diodes 0 to 7, thermistors 8 to 15), with its register, has a reading, or none and a fault (0
none, 1 open, 2 short). -/
def State.panelReading (s : State) (k o : Nat) (t : Option Int) (fault : Nat) : State :=
  let was := s.fld o 30 29
  let s := match t with
    | some v =>
      (s.wrN o (2 ^ 31 + tc 16 v)).modHkp (fun h => { h with
        panel := (k, v, h.slots) :: h.panel.filter (fun x => x.1 != k),
        round := (k, v) :: h.round.filter (fun x => x.1 != k) })
    | none => (s.setBit o 31 false).setFld o 30 29 fault
  let s := if fault ≠ 0 ∧ was = 0 then s.raise Ev.sensorFault k 0 [] else s
  if s.bitA Reg.HKP_PANEL_SEL k then s.formPanel else s

/-- R588: the fault that V_low shows, in units of 5 µV. -/
def diodeFault (v : Nat) : Nat := if 900000 < 5 * v then 1 else if 5 * v < 200000 then 2 else 0

/-- R588: slot 12 + 2d of a diode. -/
def State.diodeLow (s : State) (d v : Nat) (sat : Bool) : State :=
  s.modHkp (fun h => { h with
    vLow := (d, if sat then 0x80000 + v else v) :: h.vLow.filter (fun x => x.1 != d) })

/-- R588: slot 13 + 2d of a diode: the reading. An eta of zero gives a free value. -/
def State.diodeHigh (s : State) (d v : Nat) (sat : Bool) : State :=
  let held := match s.hkp.vLow.find? (fun x => x.1 == d) with
    | some x => x.2
    | none => 0x80000
  let low := held % 0x80000
  let fault := diodeFault low
  let cfg := (s.rdA (Reg.HKP_RD_CFG d)).toNat
  if fault ≠ 0 ∨ 0x80000 ≤ held ∨ sat then s.panelReading d (Reg.HKP_RD_TEMP d) none fault
  else if bits cfg 31 16 = 0 then s.free.2.panelReading d (Reg.HKP_RD_TEMP d) (some (sx 16 s.free.1)) 0
  else
    let t := ((625 * v * 262144 : Nat) : Int).fdiv (bits cfg 31 16 * 198421) - 4370 + sx 16 (bits cfg 15 0)
    s.panelReading d (Reg.HKP_RD_TEMP d) (some t) 0

/-- R589: an entry of a thermistor table. -/
def State.ntc (s : State) (b i : Nat) : Int := sx 16 (s.fldA (Reg.HKP_NTC_TAB b i) 15 0)

/-- R589: a table's 33 entries do not strictly decrease. -/
def State.ntcIsBad (s : State) (b : Nat) : Bool := (List.range 32).any (fun i => decide (s.ntc b i ≤ s.ntc b (i + 1)))

/-- R589: slot 28 + t of a thermistor. -/
def State.thermistor (s : State) (t v : Nat) (sat : Bool) : State :=
  let o := Reg.HKP_TH_TEMP t
  let fault := if 98 * 262144 < 100 * v then 1 else if 100 * v < 2 * 262144 then 2 else 0
  if fault ≠ 0 ∨ sat then s.panelReading (8 + t) o none fault
  else
    let b := s.fldA (Reg.HKP_TH_CFG t) 0 0
    let bad := s.ntcIsBad b
    let s := s.modHkp (fun h => { h with ntcBad := if bad then insertOnce b h.ntcBad else h.ntcBad.filter (· != b) })
    let s := s.setBit Reg.HKP_STATE 30 (!s.hkp.ntcBad.isEmpty)
    if bad then s.panelReading (8 + t) o none 0
    else
      let i := 32 * v / 262144
      let f := 32 * v % 262144
      s.panelReading (8 + t) o (some (s.ntc b i + ((f : Int) * (s.ntc b (i + 1) - s.ntc b i)).fdiv 262144)) 0

/-! ### The round (R580, R584, R596) -/

/-- R583: the input of a slot is published and used. -/
def State.slotInput (s : State) (slot v : Nat) (sat : Bool) : State :=
  if slot ≤ 1 then s.showSlot slot v sat true
  else if slot ≤ 10 then (s.showSlot slot v sat true).railSlot (Fin.ofNat 9 (slot - 2)) v sat
  else if slot < 28 then
    if slot % 2 = 0 then (s.showSlot slot v sat (diodeFault v == 0)).diodeLow ((slot - 12) / 2) v sat
    else (s.showSlot slot v sat true).diodeHigh ((slot - 13) / 2) v sat
  else
    let inRange := decide (100 * v ≤ 98 * 262144) && decide (2 * 262144 ≤ 100 * v)
    (s.showSlot slot v sat inRange).thermistor (slot - 28) v sat

/-- R655, R584, R596: a round ends. -/
def State.roundEnd (s : State) : State :=
  let s := s.when (s.bit Reg.HKP_STATE 1) (fun s => s.inc Reg.HKP_DIE_THR_ROUNDS)
  let s := s.when (s.bit Reg.HKP_STATE 5) (fun s => s.inc Reg.HKP_PANEL_THR_ROUNDS)
  let die := if s.bit Reg.HKP_DIE_TEMP 31 then s.fld Reg.HKP_DIE_TEMP 15 0 else 0x8000
  let panel := if s.bit Reg.HKP_PANEL_TEMP 31 then s.fld Reg.HKP_PANEL_TEMP 15 0 else 0x8000
  let s := s.modGlb (fun g => { g with aonTemps := die * 2 ^ 16 + panel })
  let r := s.hkp.round
  (s.modHkp (fun h => { h with round := [] })).corRound r

/-- R580 to R592, R596, R597: HKP_SLOT_END, with the slot's eight conversions and the count of its oscillator, where it has one. -/
def execHkpSlotEnd (codes : Vector (BitVec 14) 8) (osc : BitVec 20) (s : State) : Host.Outcome State Fault Refusal :=
  gate s.live
    (fun s =>
      let slot := s.hkpSlot
      let cs := codes.toList.map (fun c => c.toNat)
      let s := match flagged (s.role == 1) slot with
        | some k => s.slotInput slot (slotValue cs k) (slotSat cs k)
        | none => s
      let s := if slot % 4 = 0 then s.oscillator (slot / 4) osc.toNat else s
      let s := if slot = 63 then s.roundEnd else s
      (s.modHkp (fun h => { h with slots := h.slots + 1 })).bump Reg.HKP_ROUND) s

/-- R593, R594: a commit leaves the comparators as they stand; thr_order shows the new levels. -/
def State.hkpCommit (s : State) : State :=
  let l := fun (b : Nat) => sx 16 (s.fldA (thrReg b) 31 16)
  s.setBit Reg.HKP_STATE 31 (decide (l 1 < l 0) || decide (l 2 < l 1) || decide (l 5 < l 4) || decide (l 6 < l 5))

/-! ### Shut-down (R597 to R599) -/

/-- R597, R599: THERM_N is driven low and every domain except AON is held in reset. -/
def State.thermHold (s : State) : State :=
  let s := s.resetDomains
  (s.modGlb (fun g => { g with therm := true })).emit (.pin "THERM_N" false)

/-- R597, R598: SHUTDOWN_DEFER_END after a deferral of `us` µs: the panel goes dark, the ports go idle, the record is written and the device
is held in reset. -/
def execShutdownDeferEnd (us : Fin 4001) (s : State) : Host.Outcome State Fault Refusal :=
  gate s.live
    (fun s =>
      match s.hkp.shut with
      | none => s
      | some cause =>
        let lit := if s.role = 1 then (List.range 64).filter (fun l => s.laneState l != Lane.off) else []
        let s := lit.foldl (fun (s : State) l => s.furSend l (linePkt 0xFF s.stepNow false false)) s
        let s := (ports.filter (fun p => portOn s.role p)).foldl (fun (s : State) p =>
          s.emit (.pin ("SLAUF_" ++ toString p.val) false)) s
        (s.recordCause cause us.val).thermHold) s

/-- R599: ANALOG_TRIP. -/
def execAnalogTrip (s : State) : Host.Outcome State Fault Refusal :=
  gate s.live (fun s => (s.recordCause 0x12 0).thermHold) s

end Sys2Proof.Machine
end

