-- ==== Sys2Proof/Machine/Mec.lean ====
section
/-!
DEFINITION. DRAM protection, the granule bitmap, the Gleaner and the Granary's own protection (chapter 15, R555 to R579).
-/

namespace Sys2Proof.Machine

/-- R605, R577: the event sources of MEC. -/
abbrev Ev.ueWord : Nat := 448
abbrev Ev.correctableBurst : Nat := 449
abbrev Ev.bitmapEcc : Nat := 450
abbrev Ev.lapSlow : Nat := 451
abbrev Ev.granaryUncorrectable : Nat := 452
abbrev Ev.trimDone : Nat := 453

/-- R577, R578: the kinds of an error. -/
abbrev kindRead : Nat := 0
abbrev kindRmw : Nat := 1
abbrev kindGleaner : Nat := 2

/-- R558, R577: the kind of a request's read. -/
def DramReq.kind (r : DramReq) : Nat := if r.write then kindRmw else if r.req = 15 then kindGleaner else kindRead

/-- R578: MEC_LAST_UE or MEC_LAST_CE, low word at `o`. -/
def State.lastError (s : State) (o a kind channel req : Nat) : State :=
  (s.wrN o a).wrN (o + 4) (kind * 2 ^ 30 + channel * 2 ^ 24 + req * 2 ^ 16 + a / 2 ^ 32 % 256)

/-! ### Corrections and failures (R557 to R560) -/

/-- R560: MEC_CHFAIL.window in TCLK cycles, and its limit. -/
def State.failWindow (s : State) : Nat := max 1 (s.fld Reg.MEC_CHFAIL 31 16) * 800000
def State.failLimit (s : State) : Nat := max 1 (s.fld Reg.MEC_CHFAIL 15 0)

/-- R558, R560, R577, R579: one corrected symbol of channel `c`. -/
def State.countCorrection (s : State) (c : Nat) : State :=
  let now := s.tmb.tclk
  let s := s.inc (Reg.MEC_CH_CE c)
  let recent := (c, now) :: s.mec.recent.filter (fun x => x.1 != c || decide (now < x.2 + s.failWindow))
  let s := s.modMec (fun m => { m with recent := recent })
  let n := (recent.filter (fun x => x.1 == c)).length
  let said := s.mec.burst.any (fun x => x.1 == c && decide (now < x.2 + s.failWindow))
  let s := if s.failLimit < 2 * n && !said then
      (s.modMec (fun m => { m with burst := (c, now) :: m.burst.filter (fun x => x.1 != c) })).raise
        Ev.correctableBurst c 0 []
    else s
  if s.failLimit ≤ n then s.declareFailed c else s

/-- R558, R577: an ueWord code word at address `a`. -/
def State.ueWord (s : State) (a : Nat) (r : DramReq) : State :=
  let s := (s.inc Reg.MEC_UE).lastError Reg.MEC_LAST_UE_LO a r.kind 0x1F r.req
  s.raise Ev.ueWord noInst 0 [(8, a), (1, r.req), (1, 0x1F), (1, r.kind)]

/-- R559, R573: an access that a demand read corrected joins the scrub queue of its group. -/
def State.scrubAdd (s : State) (g : Fin 2) (acc : Nat) : State :=
  if s.mec.scrub[g].contains acc then s
  else if s.mec.scrub[g].length < 16 then
    s.modMec (fun m => { m with scrub := m.scrub.set g (m.scrub[g] ++ [acc]) })
  else s.inc Reg.MEC_SCRUBQ_DROP

/-- R555 to R557, R563: what the ten channels return of code word `k` of an access: the code of the bytes read, its poison and the
errors met. -/
def State.wordRead (s : State) (acc : Nat) (b : List Byte) (k : Nat) (errs : List (Fin 16 × Fin 10 × BitVec 16)) : List Nat :=
  let c := rsWord (slice b (16 * k) 16)
  let c := if s.mec.poison.contains (16 * acc + k) then rsPoison c else c
  (errs.filter (fun e => e.1.val == k)).foldl (fun (c : List Nat) e =>
    c.set e.2.1.val (c.getD e.2.1.val 0 ^^^ e.2.2.toNat)) c

/-- R557: the failed channel of a degraded group, by its place in the group. -/
def State.lostChannel (s : State) (g : Fin 2) : Option Nat := ((s.failedIn g.val).head?).map (fun c => c % 10)

/-- R557, R558: a code word is decoded and its outcome counted; the answer holds the 16 bytes, whether they are ueWord and
whether they were corrected. -/
def State.decodeWord (s : State) (g : Fin 2) (r : DramReq) (b : List Byte) (k : Nat)
    (errs : List (Fin 16 × Fin 10 × BitVec 16)) : State × List Byte × Bool × Bool :=
  let a := dramBase + 256 * r.access + 16 * k
  let d := rsDecode (s.lostChannel g) (s.wordRead r.access b k errs)
  match d.1 with
  | .clean => (s, rsBytes d.2, false, false)
  | .fixed ch =>
    let c := 10 * g.val + ch
    ((s.lastError Reg.MEC_LAST_CE_LO a r.kind c r.req).countCorrection c, rsBytes d.2, false, true)
  | .erased v =>
    (if v = 0 then s
     else (s.inc (Reg.MEC_GRP_ERASED g)).lastError Reg.MEC_LAST_CE_LO a r.kind (10 * g.val + (s.lostChannel g).getD 0) r.req,
      rsBytes d.2, false, decide (v ≠ 0))
  | .bad => (s.ueWord a r, rsBytes d.2, true, false)

/-- R557: the 16 code words of an access. -/
def State.decodeAccess (s : State) (g : Fin 2) (r : DramReq) (b : List Byte) (errs : List (Fin 16 × Fin 10 × BitVec 16)) :
    State × List (List Byte × Bool × Bool) :=
  (List.range 16).foldl (fun (x : State × List (List Byte × Bool × Bool)) k =>
    let d := x.1.decodeWord g r b k errs
    (d.1, x.2 ++ [d.2])) (s, [])

/-- R561, R563: a read-modify-write merges its bytes with what was read and its write is accepted: a code word covered whole takes the
new data, one covered in part that was ueWord is written poisoned, and the others are not written. -/
def State.mergeWrite (s : State) (g : Fin 2) (r : DramReq) (words : List (List Byte × Bool × Bool)) : State :=
  let o := r.addr % 256
  let hit := (List.range 16).filter (fun k => decide (16 * k < o + r.len) && decide (o < 16 * k + 16))
  let bad := hit.filter (fun k =>
    (words.getD k ([], false, false)).2.1 && !(decide (o ≤ 16 * k) && decide (16 * k + 16 ≤ o + r.len)))
  let base := dramBase + 256 * r.access
  let first := 16 * hit.headD 0
  let bytes := hit.flatMap (fun k => (List.range 16).map (fun i =>
    let j := 16 * k + i
    if o ≤ j ∧ j < o + r.len then r.data.getD (j - o) 0 else (words.getD k ([], false, false)).1.getD i 0))
  let s := s.inc Reg.MEC_POISON bad.length
  let s := s.modMec (fun m => { m with locks := m.locks.filter (· != r.access) })
  let w := { r with addr := base + first, len := bytes.length, data := bytes, merged := true,
                    poison := bad.map (fun k => 16 * r.access + k) }
  s.modGrp g (fun x => { x with queue := w :: x.queue })

/-- R557 to R563, R571: MEC_READ_DECODE: the oldest burst read in the group is decoded, with the errors that the channels returned,
each by its beat, channel of the group and difference. -/
def execMecReadDecode (g : Fin 2) (errs : List (Fin 16 × Fin 10 × BitVec 16)) (s : State) :
    Host.Outcome State Fault Refusal :=
  gate (s.grpRuns g)
    (fun s =>
      match (s.dgrp g).reading with
      | [] => s
      | (r, b) :: rest =>
        let s := s.modGrp g (fun x => { x with reading := rest })
        let d := s.decodeAccess g r b errs
        let s := d.1
        if s.dmcState ≠ 2 then s
        else
          let fixed := d.2.any (fun w => w.2.2)
          let bad := d.2.any (fun w => w.2.1)
          if r.write then s.mergeWrite g r d.2
          else if r.req = 15 then
            if fixed && !bad then s.modMec (fun m => { m with back := m.back.filter (· != r.access) ++ [r.access] }) else s
          else
            let o := r.addr % 256
            let used := (d.2.drop (o / 16)).take ((o + r.len + 15) / 16 - o / 16)
            let s := s.dramAnswer r.req r.addr (slice (d.2.flatMap (fun w => w.1)) o r.len) (used.any (fun w => w.2.1))
            if fixed && s.bit Reg.MEC_CTL 1 then s.scrubAdd g r.access else s) s

/-- R560: MEC_CH_FORCE. -/
def execMecChForce (v : Word) (s : State) : Host.Outcome State Fault Refusal :=
  gate s.dmcOn
    (fun s => (List.range 20).foldl (fun s c => if v.toNat.testBit c then s.declareFailed c else s) s) s

/-! ### The granule bitmap (R564 to R568) -/

/-- R564: the granules of the population. -/
def State.granules (s : State) : Nat := s.dramCap / 4096

/-- R566, R732: MEC_FILL_DONE: the last of the 16 writes of the oldest fill is accepted. -/
def execMecFillDone (s : State) : Host.Outcome State Fault Refusal :=
  gate s.dmcOn
    (fun s =>
      match s.mec.fills with
      | [] => s
      | (gran, r) :: rest =>
        let s := s.modMec (fun m => { m with fills := rest })
        if s.dramUp then
          let s := (s.setValid gran).inc (Reg.DMC_REQ_BYTES r.req) 16
          let s := s.keepMem (fun a => !(decide (dramBase + 4096 * gran ≤ a) &&
            decide (a < dramBase + 4096 * gran + 4096)))
          let s := s.modMec (fun m => { m with poison := m.poison.filter (fun w => w / 256 != gran) })
          s.wrRaw r.addr r.data
        else s) s

/-- R578: MEC_GRAN_QUERY: the granule is selected and its valid bit reported. -/
def execMecGranQuery (v : Word) (s : State) : Host.Outcome State Fault Refusal :=
  gate s.dmcOn
    (fun s =>
      let i := bits v.toNat 23 0
      s.wrN Reg.MEC_GRAN_QUERY (b2n (s.mec.valid.contains i) * 2 ^ 31 + i)) s

/-- R567: MEC_TRIM, a write of MEC_TRIM_CTL. -/
def execMecTrim (v : Word) (s : State) : Host.Outcome State Fault Refusal :=
  gate s.dmcOn
    (fun s =>
      let s := if v.toNat.testBit 1 then s.setBit Reg.MEC_TRIM_CTL 1 false else s
      if !v.toNat.testBit 0 then s
      else if s.bit Reg.MEC_TRIM_CTL 31 then s.setBit Reg.MEC_TRIM_CTL 1 true
      else
        (s.setBit Reg.MEC_TRIM_CTL 31 true).modMec (fun m => { m with
          trim := some (s.fld Reg.MEC_TRIM_BASE 23 0, s.fld Reg.MEC_TRIM_COUNT 24 0) })) s

/-- R567: the trim's granules are clear of earlier requests and of fills. -/
def State.trimFree (s : State) (base n : Nat) : Bool :=
  let hit := fun (a : Nat) => decide (base ≤ granuleOf a) && decide (granuleOf a < base + n)
  !s.mec.fills.any (fun f => decide (base ≤ f.1) && decide (f.1 < base + n)) &&
    !s.groupList.any (fun g => (s.dgrp g).queue.any (fun r => hit r.addr) || (s.dgrp g).reading.any (fun r => hit r.1.addr))

/-- R567, R577: MEC_TRIM_DONE: the range's bits are cleared and its granules read as never written. -/
def execMecTrimDone (s : State) : Host.Outcome State Fault Refusal :=
  gate s.dmcOn
    (fun s =>
      match s.mec.trim with
      | none => s
      | some (base, n) =>
        if s.trimFree base n then
          let inR := fun (i : Nat) => decide (base ≤ i) && decide (i < base + n)
          let s := s.modMec (fun m => { m with
            trim := none, valid := m.valid.filter (fun i => !inR i), poison := m.poison.filter (fun w => !inR (w / 256)),
            back := m.back.filter (fun a => !inR (a / 16)) })
          let s := s.keepMem (fun a => !(decide (dramBase ≤ a) && inR (granuleOf a)))
          let s := (s.wrN Reg.MEC_GRAN_VALID s.mec.valid.length).setBit Reg.MEC_TRIM_CTL 31 false
          s.raise Ev.trimDone noInst 0 [(4, base), (4, n)]
        else s) s

/-! ### The Gleaner (R570 to R572) -/

/-- R570: the Gleaner runs. -/
def State.gleans (s : State) (g : Fin 2) : Bool := s.grpRuns g && s.bit Reg.MEC_CTL 0

/-- R570: the next access of a valid granule of the group, from its position on. -/
def State.nextAccess (s : State) (g : Fin 2) : Option Nat :=
  ((s.mec.valid.filter (fun i => decide (s.mec.pos[g] < 16 * i + 16))).flatMap (fun i =>
    ((List.range 16).map (fun k => 16 * i + k)).filter (fun a =>
      decide (s.mec.pos[g] ≤ a) && s.groupAt (256 * a) == g))).head?

/-- R572: the end of a lap. -/
def State.lapEnds (s : State) : State :=
  let ms := (s.tmb.tclk - s.mec.lapStart) / 800000
  let s := (s.wrN Reg.MEC_GLEAN_LAP_LAST ms).bump Reg.MEC_GLEAN_LAPS
  let s := if (s.rd Reg.MEC_GLEAN_LAP_MAX).toNat < ms then s.wrN Reg.MEC_GLEAN_LAP_MAX (min 0xFFFFFFFF ms) else s
  s.modMec (fun m => { m with pos := Vector.replicate 2 0, lapStart := s.tmb.tclk, slow := false })

/-- R572, R578: MEC_GLEAN_POS and MEC_GLEAN_STATUS follow the positions. -/
def State.gleanPos (s : State) : State :=
  let p := if s.groups = 2 then min s.mec.pos[0] s.mec.pos[1] else s.mec.pos[0]
  (s.wrN Reg.MEC_GLEAN_POS (p % 2 ^ 28)).gleanStatus

/-- R570: a read of an access by the Gleaner at the idle level. -/
def State.gleanAt (s : State) (acc : Nat) : State :=
  s.dramQueue { req := 15, level := 3, addr := dramBase + 256 * acc, len := 256, write := false, data := [], poison := [],
                merged := false, arrived := s.tmb.tclk }

/-- R570: the TCLK cycles left until the Gleaner may read again in a group. -/
def State.paceLeft (s : State) (g : Fin 2) : Nat := s.mec.readAt[g] + 8 * s.fld Reg.MEC_GLEAN_CTL 7 0 - s.tmb.tclk

/-- R570: the Gleaner reads an access of a group once its pace allows; time runs until then, unless a tick comes first. -/
def State.gleanPaced (s : State) (g : Fin 2) (acc : Nat) (f : State → State) : State :=
  s.wait (s.paceLeft g) (fun s => f ((s.gleanAt acc).modMec (fun m => { m with readAt := m.readAt.set g s.tmb.tclk })))

/-- R570, R572: GLEANER_READ of a group: its scrub queue first, then its next valid access; with none left in any group the lap ends. -/
def execGleanerRead (g : Fin 2) (s : State) : Host.Outcome State Fault Refusal :=
  gate (s.gleans g)
    (fun s =>
      match s.mec.scrub[g] with
      | acc :: rest => s.gleanPaced g acc (fun s => s.modMec (fun m => { m with scrub := m.scrub.set g rest }))
      | [] =>
        match s.nextAccess g with
        | some acc => s.gleanPaced g acc (fun s => (s.modMec (fun m => { m with pos := m.pos.set g (acc + 1) })).gleanPos)
        | none =>
          let s := s.modMec (fun m => { m with pos := m.pos.set g (s.dramCap / 256) })
          let s := if s.groupList.all (fun h => (s.nextAccess h).isNone) then s.lapEnds else s
          s.gleanPos) s

/-- R571: GLEANER_WRITEBACK: the oldest corrected access that no demand write has made void is written back as it was stored. -/
def execGleanerWriteback (s : State) : Host.Outcome State Fault Refusal :=
  gate (s.dmcOn && s.dmcState == 2)
    (fun s =>
      match s.mec.back with
      | [] => s
      | acc :: rest =>
        (s.modMec (fun m => { m with back := rest })).dramQueue
          { req := 15, level := 3, addr := dramBase + 256 * acc, len := 256, write := true, data := [], poison := [],
            merged := true, arrived := s.tmb.tclk }) s

/-- R572: the TCLK cycles left until the lap has lasted lap_warn minutes. -/
def State.lapLeft (s : State) : Nat := s.mec.lapStart + 48000000000 * s.fld Reg.MEC_GLEAN_CTL 31 16 - s.tmb.tclk

/-- R572, R577: GLEANER_LAP_SLOW: the lap has passed lap_warn minutes; time runs until then, unless a tick comes first. -/
def execGleanerLapSlow (s : State) : Host.Outcome State Fault Refusal :=
  gate (s.dmcOn && s.bit Reg.MEC_CTL 0 && s.fld Reg.MEC_GLEAN_CTL 31 16 != 0 && !s.mec.slow)
    (fun s => s.wait s.lapLeft (fun s => (s.modMec (fun m => { m with slow := true })).raise Ev.lapSlow noInst 0 [])) s

/-- R569: MEC_RESET: the bitmap, the scrub queues and every count stay; fills in progress and merges are discarded. -/
def execMecReset (s : State) : Host.Outcome State Fault Refusal :=
  gate s.dmcOn
    (fun s =>
      let s := s.modMec (fun m => { m with fills := [], locks := [], back := [] })
      s.groupList.foldl (fun (s : State) g =>
        s.modGrp g (fun x => { x with reading := x.reading.filter (fun r => !r.1.write) })) s) s

/-! ### The Granary (R568, R574, R575) -/

/-- R564, R568, R576: a word of the granule bitmap reads ueWord, and all its granules become valid. -/
def State.bitmapLost (s : State) (off : Nat) : State :=
  let first := (off - 0x800000) / 8 * 64
  let s := (List.range 64).foldl (fun s i => if first + i < s.granules then s.setValid (first + i) else s) s
  s.raise Ev.bitmapEcc noInst 0 [(4, first)]

/-- R574: a word read double-bit in error. -/
def State.granaryBad (s : State) (off : Nat) : State :=
  let word := off / 8 * 8
  let s := ((s.inc Reg.MEC_GRN_UE).wrN Reg.MEC_GRN_LAST word).raise Ev.granaryUncorrectable noInst 0 []
  if 0x800000 ≤ word ∧ word < 0x800000 + s.dramCap / 32768 then s.bitmapLost word else s

/-- R574: a Granary word is read with `flips` of its 72 stored bits in error. Three or more are reported as two, corrected wrongly or not
detected, as a free value says, and the word then holds a free value. -/
def State.granaryCheck (s : State) (off flips : Nat) : State :=
  let a := granaryBase + off / 8 * 8
  if flips = 0 ∨ !s.memOk a then s
  else if flips = 1 then s.inc Reg.MEC_GRN_CE
  else if flips = 2 then s.granaryBad off
  else
    let how := s.free
    if how.1 % 3 = 0 then how.2.granaryBad off
    else
      let w := how.2.free
      let s := if how.1 % 3 = 1 then w.2.inc Reg.MEC_GRN_CE else w.2
      s.wrRaw a (leBytes 8 w.1)

/-- R568, R574: GRANARY_READ of the word at a Granary byte offset. -/
def execGranaryRead (off : BitVec 26) (flips : Nat) (s : State) : Host.Outcome State Fault Refusal :=
  gate s.live (fun s => s.granaryCheck off.toNat flips) s

/-- R575: GRANARY_SCRUB: the background reader reaches the word at a Granary byte offset. -/
def execGranaryScrub (off : BitVec 26) (flips : Nat) (s : State) : Host.Outcome State Fault Refusal :=
  gate s.live (fun s => s.granaryCheck off.toNat flips) s

end Sys2Proof.Machine
end

