-- ==== Sys2Proof/Machine/Bus.lean ====
section
/-!
DEFINITION. Register accesses: what a read returns and clears, what a write does in every window (R14 to R17, R27 to R29, R50 to
R53, R644), and captures of GLB_SNAP (R54 to R57).
-/

namespace Sys2Proof.Machine

/-! ### Reads -/


/-- R112: an offset of a time base that does not exist for that time base: TB6 and TB7 have four registers, and only TB2 to TB5
have TMB_TBn_AUDIO. -/
def absentTb (o : Nat) : Bool :=
  let n := (o - 0x40000) / 0x100
  let k := o % 0x100
  decide (0x40000 ≤ o) && decide (o < 0x40800) &&
    ((decide (6 ≤ n) && k != 0 && k != 4 && k != 8 && k != 0x1C) || (k == 0x3C && (decide (n < 2) || decide (5 < n))))

/-- R602: the panel registers of HKP. -/
def panelReg (o : Nat) : Bool :=
  o == 0x100004 || o == 0x100014 || (decide (0x10002C ≤ o) && decide (o ≤ 0x100034)) || o == 0x100044 ||
    (decide (0x100500 ≤ o) && decide (o < 0x100800))

/-- R553, R578: the registers of channels 10 to 19 and of group 1. -/
def secondGroupReg (o : Nat) : Bool :=
  (decide (0x110240 ≤ o) && decide (o < 0x110280)) || (decide (0x110328 ≤ o) && decide (o < 0x110350)) ||
    (decide (0x120128 ≤ o) && decide (o < 0x120150)) || o == 0x120184

/-- R9, R246, R361, R520, R553, R578, R602: registers that the register map gives to the other role only. On a tile those of the sender's
part of SCN and AUD and of the second DRAM group, on a sender those of SCN's signature unit, RED's tile counters and the panel. -/
def otherRoleReg (role o : Nat) : Bool :=
  if role = 1 then
    (decide (0xB0000 ≤ o) && decide (o < 0xB8000)) || (decide (0x90800 ≤ o) && decide (o < 0x90A00)) || secondGroupReg o
  else if role = 0 then
    (decide (0xB8000 ≤ o) && decide (o < 0xC0000)) || (decide (0x70040 ≤ o) && decide (o < 0x70064)) || panelReg o
  else false

/-- R16: register `o` is in a powered block of the role; of the SLK ports each has its own share of the window. -/
def State.powered (s : State) (o : Nat) : Bool :=
  windowOn s.role (o / 0x10000) && (o / 0x10000 != 5 || portOn s.role (portOf (o % 0x10000 / 0x4000))) &&
    !otherRoleReg s.role o

/-- R650, R659: ms to the trial deadline. -/
def State.trialLeft (s : State) : Nat :=
  match s.boot.trialEnd with
  | some d => (d - s.tmb.tclk) / 800000
  | none => 0

/-- R81, R84: AON_SEC_HI and AON_SUBSEC as a read returns them: latched by the last read of AON_SEC_LO. -/
def State.aonWord (s : State) (o : Nat) : Word :=
  match s.glb.aonLatch with
  | some (hi, sub) => if o = Reg.AON_SEC_HI then hi else sub
  | none => if o = Reg.AON_SEC_HI then s.rd o else BitVec.ofNat 32 s.aonSub

/-- The word that a read of register `o` returns, or of its active value, before any side effect of the read (R27, R29). Registers
that show a value held elsewhere are put together here (R70, R84, R104, R178, R219, R268, R451, R578, R614, R659). -/
def State.shown (s : State) (o : Nat) (active : Bool) : Word :=
  let base := if active then s.rdA o else s.rd o
  let w := o / 0x10000
  if w = 0x4 then
    if absentTb o then 0
    else if o < 0x40800 ∧ o % 0x100 = 0 then BitVec.ofNat 32 (s.stamp (Fin.ofNat 8 ((o - 0x40000) / 0x100)))
    else if o < 0x40800 ∧ o % 0x100 = 4 then
      BitVec.ofNat 32 (s.stamp (Fin.ofNat 8 ((o - 0x40000) / 0x100)) / 2 ^ 32)
    else if o = Reg.TMB_FRAME_STATUS then BitVec.ofNat 32 (putBits base.toNat 30 30 (b2n (rateReserved s.rateNow)))
    else base
  else if w = 0x1 then (if o = Reg.AON_SEC_HI ∨ o = Reg.AON_SUBSEC then s.aonWord o else base)
  else if w = 0x2 then (if o = Reg.BOOT_TRIAL_LEFT then BitVec.ofNat 32 s.trialLeft else base)
  else if w = 0x3 then
    if 0x38000 ≤ o then
      let k := (o - 0x38000) / 4
      BitVec.ofNat 32 (leAt (s.ledgerEntry ((s.rd Reg.EVT_PEEK_BASE).toNat + k / 8)) (4 * (k % 8)) 4)
    else base
  else if w = 0x6 then
    if o = Reg.SXQ_INDEX_SELF then BitVec.ofNat 32 s.selfIdx
    else if o = Reg.SXQ_ROLL_CTL then BitVec.ofNat 32 (putBits base.toNat 0 0 (b2n (ports.any (fun p => s.bit (Reg.SXQ_PORT_STATE p.val) 0))))
    else base
  else if w = 0x7 then
    if 0x70100 ≤ o ∧ o % 0x40 = 0 ∧ s.mode = 0 ∧ s.kind (portOf ((o - 0x70100) / 0x40)) = 1 then base ||| 0x80000000 else base
  else if w = 0x8 then (if o = Reg.INP_BUDGET_SHADOW then BitVec.ofNat 32 s.budgetShadow else base)
  else if w = 0xE then
    if 0xE8000 ≤ o then s.mapWord ((o - 0xE8000) / 0x400) (o / 0x10 % 64) (o / 4 % 4) else base
  else if w = 0x12 then
    if o = Reg.MEC_GRAN_QUERY then
      let i := s.fld o 23 0
      BitVec.ofNat 32 (b2n (s.mec.valid.contains i) * 2 ^ 31 + i)
    else base
  else base

/-- R29: the active view begins at this device offset. -/
abbrev viewBase : Nat := 0x08000000

/-- R29: the register that a device offset names, and whether it is seen through the active view. -/
def viewOf (off : Nat) : Nat × Bool := if viewBase ≤ off then (off - viewBase, true) else (off, false)

/-- R16, R58: a device offset names a register of a powered block. -/
def State.readable (s : State) (o : Nat) : Bool := s.powered o && (regRow? o).isSome

/-- R55: what a read of a device offset would return, with no side effect. -/
def State.peek (s : State) (off : Nat) : Word :=
  let v := viewOf off
  if s.readable v.1 then s.shown v.1 v.2 else 0

/-- R56: a device offset names a register: it is in the register map, and of a time base it exists for that time base (R112). -/
def isReg (o : Nat) : Bool := (regRow? o).isSome && !absentTb o

/-- R52: the low words of 64-bit counters, whose read latches the high word. -/
def latchesHigh (o : Nat) : Bool :=
  (decide (0x40000 ≤ o) && decide (o < 0x40800) && o % 0x100 == 0) ||
    (decide (0x50000 ≤ o) && decide (o < 0x60000) && o % 0x4000 == 0x80) || o == 0x90018 ||
    (decide (0x90400 ≤ o) && decide (o < 0x90500) && (o % 0x20 == 4 || o % 0x20 == 0xC))

/-- R53: the holding register of an access path; the device's own firmware has none. -/
def holdIx : Path → Option (Fin 4)
  | .pcie => some 0
  | .mge => some 1
  | .reach _ => some 2
  | .monitor => some 3
  | .firmware => none

/-- R14: the bits of an RC register that a read does not clear (R116, R452). -/
def rcKeep (o : Nat) : Nat :=
  if 0x40A30 ≤ o ∧ o < 0x40A40 then 0x80000000 else if 0xE4000 ≤ o ∧ o < 0xE8000 then 0xFFFF0000 else 0

/-- R14: the register at `o` is cleared by a read. -/
def readClears (o : Nat) : Bool :=
  match regRow? o with
  | some r => r.rc
  | none => false

/-- R17, R44, R58, R116, R553: the counted fields of an RC register by their highest and lowest bits, and whether an event sets the field
(a peak or a longest time) instead of counting in it. -/
def rcFields (o : Nat) : List (Nat × Nat × Bool) :=
  if o = Reg.GLB_COMMIT_COUNTS then [(15, 0, false), (31, 16, false)]
  else if rcKeep o ≠ 0 ∨ (0x1000000 ≤ o ∧ o % 64 = 0x38) then [(15, 0, false)]
  else if o = Reg.DMC_GRP_RH_PEAK 0 ∨ o = Reg.DMC_GRP_RH_PEAK 1 then [(15, 0, true), (19, 16, true)]
  else if o = Reg.DMC_GRP_STALL_MAX 0 ∨ o = Reg.DMC_GRP_STALL_MAX 1 ∨ o = Reg.DMC_GRP_URG_MAX 0 ∨ o = Reg.DMC_GRP_URG_MAX 1 then
    [(15, 0, true)]
  else if o = Reg.CMP_CYCLES_PEAK ∨ o = Reg.LMP_SWEEP_LAP ∨ o = Reg.MEC_GLEAN_LAP_MAX then [(31, 0, true)]
  else [(31, 0, false)]

/-- R17: an event on RC register `o`: the field that begins at bit `e.1` counts `e.2`, saturating, or takes it where it is larger. -/
def State.rcEvent (s : State) (o : Nat) (e : Nat × Nat) : State :=
  match (rcFields o).find? (fun f => f.2.1 == e.1) with
  | none => s
  | some (hi, lo, sets) =>
    if sets then s.setFld o hi lo (max (s.fld o hi lo) (min (2 ^ (hi + 1 - lo) - 1) e.2)) else s.incFld o hi lo e.2

/-- R14, R29, R52, R53, R84: a read of a device offset on a path, with its side effects. -/
def State.regRead (s : State) (path : Path) (off : Nat) : State × Word :=
  let o := (viewOf off).1
  if !s.readable o then (s, 0)
  else if o = Reg.AON_SEC_LO then
    (s.modGlb (fun g => { g with aonLatch := some (s.rd Reg.AON_SEC_HI, BitVec.ofNat 32 s.aonSub) }), s.rd o)
  else
    let v := s.peek off
    if readClears o then (s.wrN o ((s.rd o).toNat &&& rcKeep o), v)
    else match holdIx path with
      | none => (s, v)
      | some h =>
        if latchesHigh o then (s.modGlb (fun g => { g with hold := s.glb.hold.set h (s.shown (o + 4) false) }), v)
        else if 4 ≤ o && latchesHigh (o - 4) then (s, s.glb.hold[h])
        else (s, v)

/-- R194, R666: `n` consecutive words read in ascending offset order. -/
def State.readWords (s : State) (path : Path) (off : Nat) : Nat → State × List Word
  | 0 => (s, [])
  | n + 1 =>
    let x := s.regRead path off
    let y := x.1.readWords path (off + 4) n
    (y.1, x.2 :: y.2)

/-! ### GLB_SNAP (R54 to R57) -/

/-- R54: a capture is in progress, so the list and count are held. -/
def State.snapBusy (s : State) : Bool := s.bit Reg.GLB_SNAP_CTL 31

/-- R54, R57, R66: a write of GLB_SNAP_CTL. -/
def State.snapCtlWrite (s : State) (v : Word) : State :=
  let r := Reg.GLB_SNAP_CTL
  let n := v.toNat
  let s := if n.testBit 30 then s.setBit r 30 false else s
  let s := if n.testBit 29 then s.setBit r 29 false else s
  if s.snapBusy then
    let changes := bits n 6 0 != s.fld r 6 0 || n.testBit 16 != s.bit r 16
    if n.testBit 8 || changes then s.setBit r 29 true else s
  else
    let s := (s.setFld r 6 0 n).setBit r 16 (n.testBit 16)
    if !n.testBit 8 then s
    else if bits n 6 0 = 0 ∨ 64 < bits n 6 0 then s.setBit r 30 true
    else (s.setBit r 31 true).modGlb (fun g => { g with snapArmed := true })

/-- R54: a write of a GLB_SNAP_LIST entry. -/
def State.snapListWrite (s : State) (o : Nat) (v : Word) : State :=
  let w := v &&& 0x0FFFFFFC
  if s.snapBusy then (if s.rd o = w then s else s.setBit Reg.GLB_SNAP_CTL 29 true) else s.wr o w

/-- R54 to R56: the armed registers and a TB0 stamp are captured in one cycle. -/
def State.snapCapture (s : State) : State :=
  let offs := (List.range (s.fld Reg.GLB_SNAP_CTL 6 0)).map (fun i => s.fld (Reg.GLB_SNAP_LIST i) 27 0)
  let vals := offs.map (fun o => s.peek o)
  let bad := offs.any (fun o => !isReg (viewOf o).1)
  let t := s.stamp 0
  let s := (vals.zipIdx).foldl (fun (s : State) x => s.wr (Reg.GLB_SNAP_DATA x.2) x.1) s
  let s := (s.wrN Reg.GLB_SNAP_STAMP_LO t).wrN Reg.GLB_SNAP_STAMP_HI (t / 2 ^ 32)
  let s := if bad then s.setBit Reg.GLB_SNAP_CTL 30 true else s
  (s.setBit Reg.GLB_SNAP_CTL 31 false).modGlb (fun g => { g with snapArmed := false })

/-! ### Writes -/

/-- The effect of a command's meaning on the state, where it answers one. -/
def State.via (s : State) (f : State → Host.Outcome State Fault Refusal) : State :=
  match f s with
  | .next t => t
  | _ => s

/-- R14, R15, R27, R28, R644: a write to a register whose write does nothing else. -/
def State.plainWrite (s : State) (o : Nat) (v : Word) : State :=
  match regRow? o with
  | none => s
  | some r =>
    let m := fun (n : Nat) => BitVec.ofNat 32 n
    let new := (((s.rd o &&& ~~~(m r.rw)) ||| (v &&& m r.rw)) &&& ~~~(v &&& m r.w1c)) ||| (v &&& m r.w1s)
    let s := s.wr o new
    if r.sh && s.glb.bothSets then s.wrA o new else s

/-- R62, R66: writes of the GLB window. -/
def State.writeGlb (s : State) (path : Path) (o : Nat) (v : Word) : State :=
  if o = Reg.GLB_COMMIT_CTL then s.commitCtlWrite path v
  else if o = Reg.GLB_SNAP_CTL then s.snapCtlWrite v
  else if 0x100 ≤ o ∧ o < 0x200 then s.snapListWrite o v
  else s.plainWrite o v

/-- R81: writes of the AON window. -/
def State.writeAon (s : State) (o : Nat) (v : Word) : State :=
  if o = Reg.AON_SEC_CTL then (if v.toNat.testBit 0 then s.setBit o 0 true else s) else s.plainWrite o v

/-- R646, R650: writes of the BOOT/FWU window. -/
def State.writeBoot (s : State) (o : Nat) (v : Word) : State :=
  if o = Reg.BOOT_CTL then (if v.toNat.testBit 0 then s.confirm else s)
  else if o = Reg.BOOT_CMD_ID then s.bootCmdIdWrite v
  else s.plainWrite o v

/-- R612, R613, R622: writes of the EVT window. -/
def State.writeEvt (s : State) (o : Nat) (v : Word) : State :=
  if o = Reg.EVT_CTL then s.via (execEvtDramEnable v)
  else if o = Reg.EVT_DRAM_BASE_LO then s.via (execEvtDramRingSet 0 v)
  else if o = Reg.EVT_DRAM_BASE_HI then s.via (execEvtDramRingSet 1 v)
  else if o = Reg.EVT_DRAM_SIZE then s.via (execEvtDramRingSet 2 v)
  else if o = Reg.EVT_DRAM_RD then s.via (execEvtDramRdWrite v)
  else s.plainWrite o v

/-- R89, R90, R99, R105, R112, R116: writes of the TMB window. -/
def State.writeTmb (s : State) (o : Nat) (v : Word) : State :=
  let n : TbIx := Fin.ofNat 8 ((o - 0x40000) / 0x100)
  if absentTb o then s
  else if o < 0x40800 then
    if o % 0x100 = 0x8 then s.freqWrite n v
    else if o % 0x100 = 0xC then s.servoCtlWrite n v
    else if o % 0x100 = 0x14 then (s.plainWrite o v).refreshClamped n
    else s.plainWrite o v
  else if o = Reg.TMB_FRAME_ALIGN_CTL then (if v.toNat.testBit 0 then s.frameAlignGo else s)
  else if o = Reg.TMB_CHAIN_CTL then
    let before := s.upstreamPort
    let s := s.plainWrite o v
    if before ≠ s.upstreamPort then s.raise Ev.sourceChange noInst 0 [] else s
  else if o = Reg.TMB_PTP_CTL then (if s.mode = 0 then s.plainWrite o v else s)
  else s.plainWrite o v

/-- R168: writes of the SLK window. -/
def State.writeSlk (s : State) (o : Nat) (v : Word) : State :=
  if o % 0x4000 = 0 then
    let p := portOf (o % 0x10000 / 0x4000)
    let s := s.setBit o 9 (v.toNat.testBit 9)
    let s := if v.toNat.testBit 0 = s.bit o 0 then s else s.enableWrite p (v.toNat.testBit 0)
    if v.toNat.testBit 8 then s.retrain p Cause.software else s
  else s.plainWrite o v

/-- R178, R204, R213, R214, R216: writes of the SXQ window. -/
def State.writeSxq (s : State) (o : Nat) (v : Word) : State :=
  if o = Reg.SXQ_CTL then
    let changed := s.mode != 0 && v.toNat.testBit 4 != s.bit o 4
    let s := s.setBit o 0 (v.toNat.testBit 0)
    if changed then (s.setBit o 4 (v.toNat.testBit 4)).modSxq (fun x => { x with pairSeen := [] }) else s
  else if o = Reg.SXQ_INDEX_SELF ∨ (0x60010 ≤ o ∧ o < 0x60020) then (if s.role = 0 then s.plainWrite o v else s)
  else if o = Reg.SXQ_ROLL_CTL then s.rollStart v
  else s.plainWrite o v

/-- R246, R249: writes of the RED window. -/
def State.writeRed (s : State) (o : Nat) (v : Word) : State :=
  if 0x70100 ≤ o ∧ o % 0x40 = 4 then (if s.mode = 0 then s.plainWrite o v else s)
  else if 0x70100 ≤ o ∧ o % 0x40 = 8 then s.claimCtl (portOf ((o - 0x70100) / 0x40)) v
  else s.plainWrite o v

/-- R263, R281: writes of the INP window. -/
def State.writeInp (s : State) (o : Nat) (v : Word) : State :=
  if o = Reg.INP_ETH_CTL 0 ∨ o = Reg.INP_ETH_CTL 1 then
    s.plainWrite o (if v.toNat.testBit 2 then v ||| 2 else v)
  else if 0x81000 ≤ o ∧ o < 0x83000 ∧ (o - 0x81038) % (Reg.INP_SRC_HOST_POST 1 - Reg.INP_SRC_HOST_POST 0) = 0 ∧
      0x81038 ≤ o then
    s.pullPost (Fin.ofNat 16 ((o - 0x81038) / (Reg.INP_SRC_HOST_POST 1 - Reg.INP_SRC_HOST_POST 0))) v
  else s.plainWrite o v

/-- R493: writes of the AUD window. -/
def State.writeAud (s : State) (o : Nat) (v : Word) : State :=
  if o = Reg.AUD_ANCHOR_CTL then (if v.toNat.testBit 0 then s.setBit o 0 true else s) else s.plainWrite o v

/-- R439, R451, R472, R490: writes of the FUR, LMP and CAL windows. -/
def State.writeFur (s : State) (o : Nat) (v : Word) : State := if o = Reg.FUR_ACC_CTL then s.accessCtl v else s.plainWrite o v
def State.writeLmp (s : State) (o : Nat) (v : Word) : State :=
  if 0xE8000 ≤ o then s.mapClear ((o - 0xE8000) / 0x400) (o / 0x10 % 64) (o / 4 % 4) v else s.plainWrite o v
def State.writeCal (s : State) (o : Nat) (v : Word) : State :=
  if o = Reg.CAL_ADC_SYNC then (if v.toNat.testBit 0 then s.syncReset else s)
  else if o = Reg.CAL_SOLVE_CTL then s.solveCtl v
  else s.plainWrite o v

/-- R530, R541, R545, R548: writes of the DMC window. -/
def State.writeDmc (s : State) (o : Nat) (v : Word) : State :=
  if o = Reg.DMC_CTL then s.via (execDmcTrain v)
  else if o = Reg.DMC_MAP then s.via (execDmcMapWrite v)
  else if o = Reg.DMC_FREQ_CTL then s.via (execDmcFreqGo v)
  else if 0x110100 ≤ o ∧ o < 0x110180 then (s.plainWrite o v).refBound
  else s.plainWrite o v

/-- R560, R567, R572, R578: writes of the MEC window. -/
def State.writeMec (s : State) (o : Nat) (v : Word) : State :=
  if o = Reg.MEC_CTL then (s.plainWrite o v).gleanStatus
  else if o = Reg.MEC_CH_FORCE then s.via (execMecChForce v)
  else if o = Reg.MEC_GRAN_QUERY then s.via (execMecGranQuery v)
  else if o = Reg.MEC_TRIM_CTL then s.via (execMecTrim v)
  else s.plainWrite o v

/-- R188, R190: writes of the queue descriptors. -/
def State.writeQueue (s : State) (o : Nat) (v : Word) : State :=
  let q := (o - 0x1000000) / 64
  if o % 64 = 0x18 then s.queuePost q (bits v.toNat 31 16)
  else if o % 64 = 0x1C then s.inHeadWrite q (bits v.toNat 15 0)
  else s.plainWrite o v

/-- R14, R16, R28, R29: a write of a word to a device offset on a path: the active view and what is no register of a powered block
take none. -/
def State.regWrite (s : State) (path : Path) (o : Nat) (v : Word) : State :=
  if viewBase ≤ o ∨ !s.readable o then s
  else match o / 0x10000 with
    | 0x0 => s.writeGlb path o v
    | 0x1 => s.writeAon o v
    | 0x2 => s.writeBoot o v
    | 0x3 => s.writeEvt o v
    | 0x4 => s.writeTmb o v
    | 0x5 => s.writeSlk o v
    | 0x6 => s.writeSxq o v
    | 0x7 => s.writeRed o v
    | 0x8 => s.writeInp o v
    | 0x9 => s.writeAud o v
    | 0xD => s.writeFur o v
    | 0xE => s.writeLmp o v
    | 0xF => s.writeCal o v
    | 0x11 => s.writeDmc o v
    | 0x12 => s.writeMec o v
    | w => if 0x100 ≤ w then s.writeQueue o v else s.plainWrite o v

/-- R194, R666: consecutive words written in ascending offset order. -/
def State.writeWords (s : State) (path : Path) (off : Nat) : List Word → State
  | [] => s
  | v :: t => (s.regWrite path off v).writeWords path (off + 4) t

/-- R194: the word that a masked write writes: bits outside the mask keep their value, and of those that a written 1 would clear or
set, none is written 1. -/
def State.maskedWord (s : State) (off : Nat) (mask v : Word) : Word :=
  let rw := match regRow? off with
    | some r => BitVec.ofNat 32 r.rw
    | none => 0
  (s.peek off &&& ~~~mask &&& rw) ||| (v &&& mask)

/-- R194: a masked write: one indivisible read-modify-write of a word; the read in it has no side effect. -/
def State.maskedWrite (s : State) (path : Path) (off : Nat) (mask v : Word) : State :=
  s.regWrite path off (s.maskedWord off mask v)

/-! ### The commands -/

/-- R5, R9, R661, R670: an access of the show host through a BAR needs a powered endpoint and its link; with Memory Space Enable clear it
completes with Unsupported Request and is counted. The management port is powered on a sender only, and a device strapped for factory
test, whose ports are idle, answers no reach: it answers on the monitor only. Accesses of the firmware go ahead. -/
def State.onPath (s : State) (path : Path) (f : State → State) : State :=
  match path with
  | .pcie =>
    if s.role ≠ 0 ∨ !s.pci.link then s
    else if !s.pci.mse then (s.inc Reg.PCI_ERR_UR).emit (.tlp "UR" 0 [])
    else f s
  | .mge => s.when (s.role == 0) f
  | .reach _ => s.when (s.role != 3) f
  | _ => f s

/-- R14: the bytes of a word that a read of `width` bytes from the byte at `off` covers. -/
def covered (w : Word) (off width : Nat) : Word :=
  BitVec.ofNat 32 (w.toNat / 2 ^ (8 * (off % 4)) % 2 ^ (8 * width))

/-- R660: the order of accesses that reach one register in the same cycle: PCIe, management Ethernet, reach, monitor. The rule does not
place the device's own firmware; it comes last (DESIGN CHOICE, log entry 65). -/
def pathRank : Path → Nat
  | .pcie => 0
  | .mge => 1
  | .reach _ => 3
  | .monitor => 4
  | .firmware => 5

/-- R236, R660: the rank of a command in a cycle: that of the path of an access, and none for every other command; a lease is handled before
what the reach path brings in the same cycle. DEDUCED (log 65): firmware, which R660 does not name, comes last. -/
def accessRank : Instr → Option Nat
  | .registerWrite path _ _ _ => some (pathRank path)
  | .rcRead path _ _ _ => some (pathRank path)
  | .counterLowRead path _ _ => some (pathRank path)
  | .commitPost path _ => some (pathRank path)
  | .pcieGranaryWrite _ _ => some 0
  | .pcieBar2Access _ _ _ _ => some 0
  | .mgeRequest _ _ _ _ => some 1
  | .mgeMemoryRead _ _ _ _ => some 1
  | .mgeMemoryWrite _ _ _ _ => some 1
  | .leaseRx _ => some 2
  | .commitMsgRx _ => some 3
  | .reachRead _ => some 3
  | .reachWrite _ => some 3
  | .reachMaskedWrite _ => some 3
  | .monRd _ _ => some 4
  | .monWr _ _ => some 4
  | .monMw _ _ _ => some 4
  | _ => none

/-- R660: an access put into a cycle's commands: it goes ahead of the first access of a later path. -/
def arriveOne (c : Instr) (r : Nat) : List Instr → List Instr
  | [] => [c]
  | d :: t =>
    match accessRank d with
    | some q => if r < q then c :: d :: t else d :: arriveOne c r t
    | none => d :: arriveOne c r t

/-- R660: commands that arrive in one TCLK cycle join the waiting commands, accesses in the order of their paths. -/
def State.arrive (s : State) (cs : List Instr) : State :=
  let ordered := cs.foldl (fun (l : List Instr) c =>
    match accessRank c with
    | some r => arriveOne c r l
    | none => l ++ [c]) []
  { s with pending := s.pending ++ ordered }

/-- R14, R28: REGISTER_WRITE: `width` bytes at a device offset; a write of any other width than an aligned word is discarded. -/
def execRegisterWrite (path : Path) (off width : Nat) (v : Word) (s : State) : Host.Outcome State Fault Refusal :=
  gate (s.live && width == 4 && off % 4 == 0) (fun s => s.onPath path (fun s => s.regWrite path off v)) s

/-- R14: a read of `width` bytes from the byte at a device offset, carried out as a read of the whole word. -/
def State.readBytes (s : State) (path : Path) (off width : Nat) : State :=
  s.onPath path (fun s =>
    let x := s.regRead path (off / 4 * 4)
    x.1.emit (.read path (covered x.2 off width)))

/-- R14, R17: RC_READ, from the byte at a device offset: the whole register is read and cleared, and `coincident`, the events of the same
cycle on its fields by the field's lowest bit and the amount, are applied after the clear. -/
def execRcRead (path : Path) (off width : Nat) (coincident : List (Nat × Nat)) (s : State) : Host.Outcome State Fault Refusal :=
  let word := (viewOf (off / 4 * 4)).1
  gate (s.live && readClears word)
    (fun s =>
      let s := s.readBytes path off width
      if s.readable word then coincident.foldl (fun s e => s.rcEvent word e) s else s) s

/-- R14, R52, R84: COUNTER_LOW_READ, from the byte at a device offset: of the low word of a 64-bit counter or of AON_SEC_LO. -/
def execCounterLowRead (path : Path) (off width : Nat) (s : State) : Host.Outcome State Fault Refusal :=
  let word := (viewOf (off / 4 * 4)).1
  gate (s.live && (latchesHigh word || word == Reg.AON_SEC_LO)) (fun s => s.readBytes path off width) s

/-- R54: SNAP_START: a write of GLB_SNAP_CTL. -/
def execSnapStart (v : Word) (s : State) : Host.Outcome State Fault Refusal :=
  gate s.live (fun s => s.snapCtlWrite v) s

/-- R54, R55: SNAP_CAPTURE: a capture started with at_tick = 0. -/
def execSnapCapture (s : State) : Host.Outcome State Fault Refusal :=
  gate (s.live && s.glb.snapArmed && !s.bit Reg.GLB_SNAP_CTL 16) (fun s => s.snapCapture) s

end Sys2Proof.Machine
end

