-- ==== Sys2Proof/Machine/Tick.lean ====
section
/-!
DEFINITION. The frame tick and its update cycle (R24 to R26, R30, R36, R104 to R107, R726, R727, and the tick's share of every block),
and the pre-frame publication points (R48).
-/

namespace Sys2Proof.Machine

/-! ### The update cycle -/

/-- R104, R105, R107: the frame count, the exact instant of the tick and, at the first tick, frame_valid. -/
def State.frameBegins (s : State) (f : Nat) : State :=
  let t := s.tmb.nextTick
  let first := !s.frameValid
  let st := stampOf 1 (t / 9 * 2 ^ 16 + t % 9 * 2 ^ 16 / 9)
  let s := ((s.wrN Reg.GLB_FRAME f).wrN Reg.TMB_TICK_LO st).wrN Reg.TMB_TICK_HI (st / 2 ^ 32)
  if first then
    let s := s.modTmb (fun g => { g with armed := false })
    let s := ((s.setBit Reg.GLB_STATE 23 true).setBit Reg.TMB_FRAME_STATUS 31 true).setBit Reg.TMB_FRAME_ALIGN_CTL 0 false
    (s.raise Ev.frameValid noInst 1 []).commitFirstTick f
  else s

/-- R104, R107: the next tick lies one period of the rate in force after the tick. -/
def State.nextTickSet (s : State) : State :=
  s.modTmb (fun g => { g with nextTick := (s.tmb.nextTick + period9 s.rateNow) % (9 * 2 ^ 32) })

/-- R30, R36: what a commit that has just been applied does to the blocks of the running role; `old` is the state before it. -/
def State.blocksCommit (s old : State) : State :=
  let s := if s.sender then (s.inpCommit old).scnCommit else s
  let s := if s.tile then ((s.corCommit).furCommit).calCommit old else s
  let s := if s.mode ≤ 1 then s.audCommit old else s
  s.hkpCommit

/-- The sender's blocks at the tick that begins frame `f`; `tag` is the identifier of a commit just applied. -/
def State.senderTick (s old : State) (f : Nat) (tag : Option Nat) : State :=
  ((((s.inpTick).cmpTick old f tag).scnTick f).digestTick f).leaseAll

/-- The tile's blocks at the tick that begins frame `f`. -/
def State.tileTick (s old : State) (f : Nat) (committed first : Bool) (solved : Option Solve) : State :=
  let s := ((s.corTick old f committed first).furTick old committed s.frameValid).lmpTick old f committed
  ((s.calStart).calFinish solved).redTileTick

/-- Flags that hold for one frame interval (R540, R618, R687). -/
def State.intervalFlags (s : State) : State :=
  let s := [0, 1].foldl (fun (s : State) (g : Fin 2) => s.modGrp g (fun x => { x with forced := false })) s
  ((s.modEvt (fun e => { e with fwdDropRaised := false })).modPci (fun x => { x with poisonRaised := false })).modMge
    (fun m => { m with denied := false })

/-- R48: what long operations publish at a publication point. -/
def State.publishAll (s : State) : State := (s.publishRolls).publishTraining

/-- R24 to R26, R30, R36, R104: the update cycle of the tick. -/
def State.updateCycle (s : State) : State :=
  let first := !s.frameValid
  let f := s.nextFrame
  let s := s.frameBegins f
  let s := if s.sender then s.canvasEnd else s
  let ended : State × Option Solve := if s.tile then s.calEnd else (s, none)
  let old := ended.1
  let id := old.glb.commit.map (fun c => c.id)
  let applied := old.commitTick f
  let s := applied.1
  let committed := applied.2
  let s := (if committed then s.blocksCommit old else s).nextTickSet
  let s := if s.sender then s.senderTick old f (if committed then id else none) else s
  let s := if s.tile then s.tileTick old f committed first ended.2 else s
  let s := ((if s.mode ≤ 1 then s.audTick f else s).censusAll).publishAll
  let s := s.intervalFlags
  if s.glb.snapArmed && s.bit Reg.GLB_SNAP_CTL 16 then s.snapCapture else s

/-- R104: TICK: time passes until TB1 reaches the next tick value, and the update cycle runs. -/
def execTick (s : State) : Host.Outcome State Fault Refusal :=
  gate s.ticking (fun s => (s.advance s.cyclesToTick).updateCycle) s

/-- R69, R104: the block with no command waiting: one TCLK cycle passes, and a tick that falls into it runs (log entry 4). In reset
nothing counts. -/
def idleCycle (s : State) : Host.Outcome State Fault Refusal :=
  if s.ticking && decide (s.cyclesToTick ≤ 1) then execTick s else gate s.live (fun s => s.advance 1) s

/-- R48: PREFRAME_PUBLICATION_POINT. -/
def execPreframePublicationPoint (s : State) : Host.Outcome State Fault Refusal :=
  gate (s.live && !s.frameValid) (fun s => s.publishAll) s

end Sys2Proof.Machine
end

