-- ==== Sys2Proof/Machine/Load.lean ====
section
/-!
DEFINITION. Configuration sets: the choice of a set, its records and their end (chapter 18, R643 to R645, R653, R658).
-/

namespace Sys2Proof.Machine

/-! ### Records (R644) -/

/-- R643, R644: the records of a set of `n` records: each its four-byte head and its payload. One that leaves the set is cut short. -/
def recordsOf : Nat → List Byte → List (List Byte)
  | 0, _ => []
  | n + 1, b => b.take (4 + leAt b 2 2) :: recordsOf n (b.drop (4 + leAt b 2 2))

/-- A word of a record's payload. -/
def recWord (r : List Byte) (i : Nat) : Nat := leAt r (4 + 4 * i) 4

/-- The type of a record, and its payload length. -/
def recType (r : List Byte) : Nat := leAt r 0 1
def recLen (r : List Byte) : Nat := leAt r 2 2

/-- The address of a TABLE or INLINE record. -/
def recAddr (r : List Byte) : Nat := recWord r 0 + 2 ^ 32 * (recWord r 1 % 256)

/-- R644: a device offset that no record may address. -/
def barredOffset (o : Nat) : Bool := o / 0x10000 == 1 || o / 0x10000 == 2 || (decide (viewBase ≤ o) && decide (o ≤ 0x0815FFFF))

/-- R644: the record fails the load before it does anything. -/
def State.recordFails (s : State) (r : List Byte) : Bool :=
  let n := recLen r
  let cut := decide (r.length < 4 + n) || n % 4 != 0
  if cut then true
  else if recType r = 1 then
    decide (n < 8) || (List.range (n / 4 - 1)).any (fun i => barredOffset (recWord r 0 + 4 * i))
  else if recType r = 2 then n != 12 || barredOffset (recWord r 0)
  else if recType r = 3 then n != 16 || barredOffset (recWord r 0)
  else if recType r = 4 then n != 16 || s.dmcState != 2 || decide (s.regionSize 4 < recWord r 2 + recWord r 3)
  else if recType r = 5 then decide (n < 8) || s.dmcState != 2
  else true

/-- R644: bytes that a record puts into DRAM. -/
def State.recordStore (s : State) (a : Nat) (b : List Byte) : State :=
  if dramBase ≤ a then s.wrMem 0 a b else s.addrError 0 a

/-- R644: a record other than WAIT acts. -/
def State.recordActs (s : State) (r : List Byte) : State :=
  if recType r = 1 then s.writeWords .firmware (recWord r 0) (bytesWords (recLen r / 4 - 1) (r.drop 8))
  else if recType r = 2 then s.maskedWrite .firmware (recWord r 0) (BitVec.ofNat 32 (recWord r 1)) (BitVec.ofNat 32 (recWord r 2))
  else if recType r = 4 then s.recordStore (recAddr r) (s.readRegion 4 (recWord r 2) (recWord r 3))
  else if recType r = 5 then s.recordStore (recAddr r) ((r.drop 12).take (recLen r - 8))
  else s

/-- R644: a WAIT reads its register; whether its condition is met. -/
def State.waitMet (s : State) (r : List Byte) : State × Bool :=
  let x := s.regRead .firmware (recWord r 0)
  (x.1, (x.2.toNat &&& recWord r 1) == recWord r 2)

/-! ### The end of a load (R644, R645, R658) -/

/-- R644: the records no longer run; what they have written to the active set acts, a Loaf made before starts anew, and a
group table is loaded (log entries 21, 51). -/
def State.recordsEnd (s : State) : State :=
  let s := (s.modBoot (fun b => { b with load := none })).modGlb (fun g => { g with bothSets := false })
  let s := (s.blocksCommit { s with act := [] }).modLoaf (fun l => { l with restart := true })
  s.modLmp (fun x => { x with loading := x.loading || s.tile && (s.addrA Reg.LMP_GROUP_BASE_LO != 0 || s.fldA Reg.LMP_GROUP_GEN 15 0 != 0) })

/-- R204, R645, R654, R658, R659: the load completes, and a sender starts its roll calls. -/
def State.loadCompletes (s : State) (l : CfgLoad) : State :=
  let s := (s.recordsEnd).setBit Reg.GLB_STATE 25 true
  let s := ((s.setBit Reg.BOOT_STATUS 26 (l.set == 1)).setBit Reg.BOOT_STATUS 25 l.chain).setBit Reg.AON_RET4 16 (l.set == 1)
  let s := s.raise Ev.configLoaded noInst 0 [(1, l.set), (4, l.version)]
  (ports.filter (fun p => s.kind p == 1 || s.kind p == 2)).foldl (fun (s : State) p => s.autoRoll p) s

/-- R644, R658: a record fails the load; the reason of a failing record is a free value (log entry 2). -/
def State.loadFails (s : State) (l : CfgLoad) (index : Nat) : State :=
  let f := (s.recordsEnd).free
  f.2.raise Ev.configRejected l.set 0 [(4, index), (1, f.1 % 16)]

/-- R644: records run in order, from the one at `index`, to the end of the set, to one that fails or to a WAIT that is not met. -/
def State.runRecords (l : CfgLoad) : List (List Byte) → Nat → State → State
  | [], _, s => s.loadCompletes l
  | r :: t, index, s =>
    if s.recordFails r then s.loadFails l index
    else if recType r = 3 then
      let x := s.waitMet r
      if x.2 then State.runRecords l t (index + 1) x.1
      else x.1.modBoot (fun b => { b with load := some { l with next := index, recs := r :: t, since := s.tmb.tclk } })
    else State.runRecords l t (index + 1) (s.recordActs r)

/-! ### The choice of a set (R643, R653) -/

/-- R643, R653: the sets that may be loaded, in order: that of the chain buffer where the image came from it, the selected set of the
flash, and the other. -/
def State.setsToTry (s : State) : List (Bool × Nat) :=
  (if s.fld Reg.BOOT_STATUS 30 29 = 1 then [(true, 0)] else []) ++
    (if s.flashBytes = 0 then [] else [(false, s.selectedSet), (false, 1 - s.selectedSet)])

/-- R643, R658: the sets are checked in order, and the first that passes runs; `bad` are the sets whose flash reads fail. The event of a
set that fails its checks has no record to name, so its index is a free value (log entry 2). -/
def State.tryLoads (bad : List Nat) : List (Bool × Nat) → State → State
  | [], s => s
  | (chain, n) :: t, s =>
    let readOk := chain || !bad.contains n
    let reason := s.checkSet (fun a k => s.setBytes chain n a k) readOk
    if reason = 0 then
      let h := s.setBytes chain n 0 64
      let recs := recordsOf (min (leAt h 20 4) (leAt h 16 4 / 4)) (s.setBytes chain n 64 (leAt h 16 4 - 64))
      let s := s.modGlb (fun g => { g with bothSets := true })
      State.runRecords { chain := chain, set := n, version := leAt h 12 4, next := 0, recs := [], since := s.tmb.tclk } recs 0 s
    else
      let s := if readOk then s else s.flashFailed (regionBase (2 + n))
      let f := s.free
      State.tryLoads bad t (f.2.raise Ev.configRejected n 0 [(4, f.1), (1, reason)])

/-- R643: CONFIG_LOAD, once after an image has started. -/
def execConfigLoad (bad : List Nat) (s : State) : Host.Outcome State Fault Refusal :=
  gate (s.live && s.boot.running && !s.boot.loadBegun)
    (fun s => State.tryLoads bad s.setsToTry (s.modBoot (fun b => { b with loadBegun := true }))) s

/-- R644: the TCLK cycles left of the timeout of the WAIT that a load waits for. -/
def State.waitLeft (s : State) (l : CfgLoad) (r : List Byte) : Nat := l.since + 800000 * recWord r 3 - s.tmb.tclk

/-- R644: CONFIG_WAIT_DONE: the WAIT that is waited for is met, or its time is over; time runs until then, unless a tick comes first. -/
def execConfigWaitDone (timedOut : Bool) (s : State) : Host.Outcome State Fault Refusal :=
  gate (s.live && s.boot.load.isSome)
    (fun s =>
      match s.boot.load with
      | none => s
      | some l =>
        match l.recs with
        | [] => s
        | r :: t =>
          let x := s.waitMet r
          if x.2 then State.runRecords { l with recs := [] } t (l.next + 1) (x.1.modBoot (fun b => { b with load := none }))
          else if timedOut then x.1.wait (x.1.waitLeft l r) (fun s => s.loadFails l l.next)
          else x.1) s

end Sys2Proof.Machine
end

