-- ==== Sys2Proof/Machine/Reach.lean ====
section
/-!
DEFINITION. Reaches: remote reads, writes and masked writes of registers (R193 to R196, R210).
-/

namespace Sys2Proof.Machine

/-- R195, R664: a write that reaches the active view, or a shadowed register where `holds` says that the originator does not hold the
claim. -/
def writeBarred (b : List Byte) (holds : Bool) : Bool :=
  reachOp b != 1 && (List.range (reachCount b)).any (fun i =>
    let o := reachOff b + 4 * i
    (decide (viewBase ≤ o) && decide (o ≤ 0x0815FFFF)) || (!holds && shadowed o))

/-- R210: a path's requests are reach messages from elsewhere. -/
def remotePath : Path → Bool
  | .reach _ => true
  | _ => false

/-- R210: a reach to a device in fallow mode acts on these windows; elsewhere it reads zero and writes nothing. -/
def State.reachable (s : State) (path : Path) (o : Nat) : Bool :=
  !remotePath path || s.mode != 2 || (let w := (viewOf o).1 / 0x10000
    decide (w < 7) || w == 0x10 || w == 0x15 || decide (0x100 ≤ w))

/-- R194, R210: `n` consecutive words read for a reach. -/
def State.reachReads (s : State) (path : Path) (off : Nat) : Nat → State × List Word
  | 0 => (s, [])
  | n + 1 =>
    let x := if s.reachable path off then s.regRead path off else (s, 0)
    let y := x.1.reachReads path (off + 4) n
    (y.1, x.2 :: y.2)

/-- R194, R210: consecutive words written for a reach. -/
def State.reachWrites (s : State) (path : Path) (off : Nat) : List Word → State
  | [] => s
  | v :: t => (if s.reachable path off then s.regWrite path off v else s).reachWrites path (off + 4) t

/-- R194, R195: a request body is executed on a path, or refused with nothing done; the status code and the response. -/
def State.reachRun (s : State) (path : Path) (b : List Byte) (holds : Bool) : State × Nat × List Byte :=
  if reachMalformed b || writeBarred b holds then (s, Code.REFUSED, reachResponse b Code.REFUSED [])
  else if reachOp b = 1 then
    let x := s.reachReads path (reachOff b) (reachCount b)
    (x.1, Code.OK, reachResponse b Code.OK x.2)
  else if reachOp b = 2 then
    (s.reachWrites path (reachOff b) (reachData b), Code.OK, reachResponse b Code.OK [])
  else
    let mask := BitVec.ofNat 32 (leAt b 8 4)
    let v := BitVec.ofNat 32 (leAt b 12 4)
    (if s.reachable path (reachOff b) then s.maskedWrite path (reachOff b) mask v else s, Code.OK, reachResponse b Code.OK [])

/-- R38, R195: the originator of a reach may write shadowed registers here. -/
def State.claimHeldBy (s : State) (src : Nat) : Bool := s.mode == 0 || s.holderIdx == some src

/-- R183, R193 to R196: a reach request arrives; one of another epoch or with a fenced identifier is refused. -/
def State.reachArrives (s : State) (m : Msg) : State :=
  let s := s.cmdPosted
  if !s.epochOk m || s.isFenced m then
    let s := if s.epochOk m then s else s.inc Reg.SXQ_EPOCH_REFUSED
    (s.cmdDone Code.REFUSED).respond m 1 Code.REFUSED (reachResponse m.body Code.REFUSED [])
  else
    let x := s.reachRun (.reach m.src) m.body (s.claimHeldBy m.src)
    (x.1.cmdDone x.2.1).respond m 1 x.2.1 x.2.2

/-- R194: REACH_READ; a request with a reserved op is refused here. -/
def execReachRead (m : Msg) (s : State) : Host.Outcome State Fault Refusal :=
  gate (s.rollHears m.port && reachOp m.body != 2 && reachOp m.body != 3) (fun s => s.reachArrives m) s

/-- R194: REACH_WRITE. -/
def execReachWrite (m : Msg) (s : State) : Host.Outcome State Fault Refusal :=
  gate (s.rollHears m.port && reachOp m.body == 2) (fun s => s.reachArrives m) s

/-- R194: REACH_MASKED_WRITE. -/
def execReachMaskedWrite (m : Msg) (s : State) : Host.Outcome State Fault Refusal :=
  gate (s.rollHears m.port && reachOp m.body == 3) (fun s => s.reachArrives m) s

end Sys2Proof.Machine
end

