-- ==== Sys2Proof/Machine/Mge.lean ====
section
/-!
DEFINITION. The management Ethernet port: its link, request datagrams, kept responses and the allow list (chapter 19, R671 to R674,
R687, R689).
-/

namespace Sys2Proof.Machine

/-- R605, R687: the event sources of MGE. -/
abbrev Ev.mgeLinkUp : Nat := 470
abbrev Ev.mgeLinkDown : Nat := 471
abbrev Ev.mgeDenied : Nat := 472

/-- R671: the port exists in the sender role only; it is enabled. -/
def State.hasMge (s : State) : Bool := s.live && s.role == 0 && s.bit Reg.MGE_CTL 0

/-- R689: the port has its link. -/
def State.mgeUp (s : State) : Bool := s.hasMge && s.bit Reg.MGE_STATUS 31

/-- R687, R689: MGE_LINK_CHANGE. -/
def execMgeLinkChange (up : Bool) (speed : BitVec 2) (s : State) : Host.Outcome State Fault Refusal :=
  gate (s.hasMge && up != s.bit Reg.MGE_STATUS 31)
    (fun s =>
      if up then
        (s.wrN Reg.MGE_STATUS (2 ^ 31 + speed.toNat * 2 ^ 29 + b2n (s.bit Reg.MGE_CTL 3) * 2 ^ 28)).raise Ev.mgeLinkUp noInst 0
          [(1, speed.toNat)]
      else (s.wrN Reg.MGE_STATUS 0).raise Ev.mgeLinkDown noInst 0 []) s

/-- R671: MGE_ARP_OR_ECHO_REQUEST: an ARP request for the port's address, or an echo request to it, is answered. -/
def execMgeArpOrEchoRequest (echo : Bool) (src target : Nat) (b : List Byte) (s : State) :
    Host.Outcome State Fault Refusal :=
  gate (s.mgeUp && target == (s.rd Reg.MGE_IPV4).toNat)
    (fun s =>
      if echo then s.emit (.udp "echo reply" src 0 b)
      else
        let mac := (s.rd Reg.MGE_MAC_LO).toNat + 2 ^ 32 * s.fld Reg.MGE_MAC_HI 15 0
        s.emit (.udp "arp reply" src 0 (beBytes 6 mac ++ beBytes 4 target))) s

/-! ### Datagrams (R672 to R674) -/

/-- R672: the fields of a datagram. -/
def dgSeq (b : List Byte) : Nat := leAt b 2 2
def dgRemote (b : List Byte) : Bool := (leAt b 5 1).testBit 0
def dgDevice (b : List Byte) : Nat := leAt b 6 2 % 1024
def dgCmd (b : List Byte) : Nat := leAt b 8 4
def dgBody (b : List Byte) : List Byte := b.drop 12

/-- R672: a memory operation. -/
def isMemOp (body : List Byte) : Bool := reachOp body == 8 || reachOp body == 9

/-- R672, R689: the datagram's magic, kind or length is wrong. -/
def datagramBad (b : List Byte) : Bool :=
  let body := dgBody b
  beNat (slice b 0 2) != 0x4357 || leAt b 4 1 != 1 || decide (body.length < 8) ||
    (isMemOp body && decide (body.length < 12 + (if reachOp body = 9 then 4 * reachCount body else 0)))

/-- R673, R689: the source address stands outside an allow list that is in use. -/
def State.notAllowed (s : State) (ip : Nat) : Bool :=
  let l := (List.range 4).map (fun i => (s.rd (Reg.MGE_ALLOW i)).toNat)
  l.any (· != 0) && !l.any (fun a => a != 0 && a == ip)

/-- R672: the address of a memory operation. -/
def memOpAddr (body : List Byte) : Nat := leAt body 4 4 + 2 ^ 32 * (leAt body 8 4 % 256)

/-- R193, R672: the form of a memory operation is refused by its count or its alignment. -/
def memOpMalformed (body : List Byte) : Bool :=
  reachCount body == 0 || decide (256 < reachCount body) || memOpAddr body % 4 != 0

/-- R665, R672: a memory read as a request of the control cores; where bytes are uncorrectable, whether it completes with OK or
FAULT is a free value (log entry 2). -/
def State.memOpRead (s : State) (body : List Byte) : State × Nat × List Byte :=
  if memOpMalformed body then (s, Code.REFUSED, reachResponse body Code.REFUSED [])
  else
    let n := reachCount body
    let x := s.memRead 0 (memOpAddr body) (4 * n)
    let f := x.1.free
    let code := if x.2.2 && f.1 % 2 == 1 then Code.FAULT else Code.OK
    (if x.2.2 then f.2 else x.1, code, reachResponse body code (bytesWords n x.2.1))

/-- R665, R672: a memory write as a request of the control cores. -/
def State.memOpWrite (s : State) (body : List Byte) : State × Nat × List Byte :=
  if memOpMalformed body then (s, Code.REFUSED, reachResponse body Code.REFUSED [])
  else (s.wrMem 0 (memOpAddr body) (slice body 12 (4 * reachCount body)), Code.OK, reachResponse body Code.OK [])

/-- R673: a remote request leaves as a reach, or is refused where it cannot. -/
def State.mgeRemote (s : State) (ip port : Nat) (b : List Byte) : State :=
  let body := dgBody b
  let refuse := fun (s : State) => s.mgeReply ip port (dgSeq b) (dgCmd b) (reachResponse body Code.REFUSED [])
  if isMemOp body || s.mode != 0 then refuse s
  else
    let x := s.sendTo (dgDevice b) 0 (dgCmd b) 0 body
    if !x.2 then refuse x.1
    else
      let s := x.1.track (BitVec.ofNat 16 (dgDevice b * 64)) (dgCmd b) (dgDevice b) 0 ((x.1.routeTo (dgDevice b)).getD 0) (some .mge)
      s.modMge (fun g => { g with waiting := s.mge.waiting ++
        [{ ip := ip, port := port, seq := dgSeq b, cmdId := dgCmd b, dst := dgDevice b, req := body }] })

/-- R673: a local request is executed on the sender. -/
def State.mgeLocal (s : State) (ip port : Nat) (b : List Byte) : State :=
  let body := dgBody b
  let x := if reachOp body = 8 then s.memOpRead body else if reachOp body = 9 then s.memOpWrite body
    else s.reachRun .mge body true
  x.1.mgeReply ip port (dgSeq b) (dgCmd b) x.2.2

/-- R673, R687: a discard by the allow list. -/
def State.mgeDeny (s : State) (ip : Nat) : State :=
  let s := s.inc Reg.MGE_RX_DENY
  if s.mge.denied then s
  else (s.modMge (fun g => { g with denied := true })).raise Ev.mgeDenied noInst 0 [(4, ip)]

/-- R672 to R674: a datagram from an address and UDP port arrives: it is discarded, answered again, or executed. -/
def State.datagram (s : State) (ip port : Nat) (b : List Byte) : State :=
  if datagramBad b then s.inc Reg.MGE_RX_BAD
  else if s.notAllowed ip then s.mgeDeny ip
  else match s.mge.kept.find? (fun r => r.ip == ip && r.port == port && r.seq == dgSeq b) with
    | some r => (s.inc Reg.MGE_REPLAY).emit (.udp "response" ip port r.body)
    | none =>
      let s := s.inc Reg.MGE_RX_REQ
      if dgRemote b then s.mgeRemote ip port b else s.mgeLocal ip port b

/-- R671: the port takes a datagram to UDP port `dport`. -/
def State.mgeTakes (s : State) (dport : Nat) : Bool := s.mgeUp && dport == s.fld Reg.MGE_PORT 15 0

/-- R673: MGE_REQUEST: any datagram but a memory operation on the sender itself. -/
def execMgeRequest (ip port dport : Nat) (b : List Byte) (s : State) : Host.Outcome State Fault Refusal :=
  gate (s.mgeTakes dport && (dgRemote b || !isMemOp (dgBody b))) (fun s => s.datagram ip port b) s

/-- R672: MGE_MEMORY_READ. -/
def execMgeMemoryRead (ip port dport : Nat) (b : List Byte) (s : State) : Host.Outcome State Fault Refusal :=
  gate (s.mgeTakes dport && !dgRemote b && reachOp (dgBody b) == 8) (fun s => s.datagram ip port b) s

/-- R672: MGE_MEMORY_WRITE. -/
def execMgeMemoryWrite (ip port dport : Nat) (b : List Byte) (s : State) : Host.Outcome State Fault Refusal :=
  gate (s.mgeTakes dport && !dgRemote b && reachOp (dgBody b) == 9) (fun s => s.datagram ip port b) s

end Sys2Proof.Machine
end

