-- ==== Sys2Proof/Machine/Mon.lean ====
section
/-!
DEFINITION. The Gelle monitor (chapter 19, R676 to R680, R687, R690), and the end of a flash operation, after which lines that waited
for the end of a pause run (R680).
-/

namespace Sys2Proof.Machine

/-- R605, R687: the event sources of the monitor. -/
abbrev Ev.monAttach : Nat := 473
abbrev Ev.monWrite : Nat := 474

/-- R680, R690: monitor writes are locked. -/
def State.monLocked (s : State) : Bool := s.bit Reg.DBG_MON_CTL 0

/-- R677, R680: a command that is refused. -/
def State.monRefuse (s : State) : State := s.monPrint [] Code.REFUSED

/-- R680, R687: an executed monitor write, at an offset or address. -/
def State.monWrote (s : State) (at' : Nat) : State := (s.inc Reg.DBG_MON_WRITES).raise Ev.monWrite noInst 0 [(8, at')]

/-! ### Register and memory commands (R678) -/

/-- R678: id. -/
def State.monId (s : State) : State :=
  let regs := [Reg.GLB_IDENT, Reg.GLB_UID 0, Reg.GLB_UID 1, Reg.GLB_UID 2, Reg.GLB_UID 3, Reg.GLB_STATE, Reg.BOOT_STATUS]
  s.monPrint (regs.map (fun o => wordText (s.peek o))) Code.OK

/-- R666, R678: rd. -/
def State.monRd (s : State) (off n : Nat) : State :=
  if n = 0 ∨ 64 < n ∨ off % 4 ≠ 0 then s.monRefuse
  else
    let x := s.readWords .monitor off n
    x.1.monPrint (wordLines (hexText 8) off x.2) Code.OK

/-- R678, R680: wr. -/
def State.monWr (s : State) (off : Nat) (data : List Word) : State :=
  if s.monLocked || data.isEmpty || decide (16 < data.length) || off % 4 != 0 then s.monRefuse
  else ((s.writeWords .monitor off data).monWrote off).monPrint [] Code.OK

/-- R194, R678, R680: mw. -/
def State.monMw (s : State) (off : Nat) (mask v : Word) : State :=
  if s.monLocked || off % 4 != 0 then s.monRefuse
  else ((s.maskedWrite .monitor off mask v).monWrote off).monPrint [] Code.OK

/-- R665, R678: mrd, a read of the control cores; where bytes are uncorrectable, whether it ends with OK or ERR 6 is a free value
(log entry 2). -/
def State.monMrd (s : State) (addr n : Nat) : State :=
  if n = 0 ∨ 64 < n ∨ addr % 4 ≠ 0 then s.monRefuse
  else
    let x := s.memRead 0 addr (4 * n)
    let f := x.1.free
    let s := if x.2.2 then f.2 else x.1
    s.monPrint (wordLines addrText addr (bytesWords n x.2.1)) (if x.2.2 && f.1 % 2 == 1 then Code.FAULT else Code.OK)

/-- R665, R678, R680: mwr. -/
def State.monMwr (s : State) (addr : Nat) (data : List Word) : State :=
  if s.monLocked || data.isEmpty || decide (16 < data.length) || addr % 4 != 0 then s.monRefuse
  else ((s.wrMem 0 addr (wordsBytes data)).monWrote addr).monPrint [] Code.OK

/-- R678, R680: an @ command leaves as a reach, under an identifier that the spec leaves open (log entry 2). -/
def State.monRemote (s : State) (idx op off n : Nat) (data : List Word) : State :=
  let wrong := if op = 1 then n == 0 || decide (64 < n) else if op = 2 then data.isEmpty || decide (16 < data.length)
    else op != 3 || data.length != 2
  if s.mode ≠ 0 ∨ wrong ∨ off % 4 ≠ 0 ∨ (op ≠ 1 ∧ s.monLocked) then s.monRefuse
  else
    let f := s.free
    let id := f.1 % 2 ^ 32
    let req := reachRequest op (if op = 1 then n else if op = 2 then data.length else 1) off (if op = 1 then [] else data)
    let x := f.2.sendTo idx 0 id 0 req
    if !x.2 then x.1.monRefuse
    else
      let s := x.1.track (BitVec.ofNat 16 (idx * 64)) id idx 0 ((x.1.routeTo idx).getD 0) (some .monitor)
      s.modMon (fun m => { m with remote := m.remote ++ [{ cmdId := id, dst := idx, req := req }] })

/-- R614, R678: log: the newest entries of the Ledger through EVT_PEEK, the oldest of them first. -/
def State.monLog (s : State) (n : Nat) : State :=
  if n = 0 ∨ 64 < n then s.monRefuse
  else
    let k := min n (s.rd Reg.EVT_LOGGED).toNat
    let base := (s.rd Reg.EVT_LOGGED).toNat - k
    let s := s.wrN Reg.EVT_PEEK_BASE base
    s.monPrint ((List.range k).map (fun i => bytesText (s.ledgerEntry (base + i)))) Code.OK

/-! ### Loads, boot, baud and help (R676, R678 to R680) -/

/-- R679: the range of a load is allowed. -/
def State.loadOk (s : State) (chain : Bool) (off len : Nat) : Bool :=
  if chain then
    s.role == 1 && !(s.boot.running && s.fld Reg.BOOT_STATUS 30 29 == 1) && decide (off + len ≤ 24 * 0x100000)
  else decide (off + len ≤ 0x8000)

/-- R678, R679: load. -/
def State.monLoad (s : State) (chain : Bool) (off len crc : Nat) : State :=
  if s.monLocked || !s.loadOk chain off len then s.monRefuse
  else (s.modMon (fun m => { m with load := some { chain := chain, off := off, len := len, crc := crc } })).emit (.uart "RDY")

/-- R679: bytes are put into BOOT_STAGE from byte `off` on. -/
def State.stageBytes (s : State) (off : Nat) (b : List Byte) : State :=
  let lo := off / 4
  let n := (off + b.length + 3) / 4 - lo
  let old := wordsBytes ((List.range n).map (fun i => s.rd (Reg.BOOT_STAGE (lo + i))))
  let new := old.take (off % 4) ++ b ++ old.drop (off % 4 + b.length)
  ((bytesWords n new).zipIdx).foldl (fun (s : State) x => s.wr (Reg.BOOT_STAGE (lo + x.2)) x.1) s

/-- R44, R679: the bytes of a load are stored where their CRC-32C agrees; a load that fails applies nothing. -/
def State.loadEnds (s : State) (l : MonLoad) (data : List Byte) : State :=
  let s := s.modMon (fun m => { m with load := none })
  if crc32c data = l.crc then
    (if l.chain then s.wrMem 0 (chainBase + l.off) data else s.stageBytes l.off data).monPrint [] Code.OK
  else s.monPrint [] Code.FAULT

/-- R635, R678, R680: boot slot: only where no image runs, and on a device that loads images (R628). -/
def State.monBootSlot (s : State) (n : Nat) : State :=
  if s.monLocked || s.boot.running || decide (1 < n) || s.role == 2 then s.monRefuse
  else
    let r := s.checkSlot n true
    if r = 0 then (s.startImage n 0).monPrint [] Code.OK else (s.raise Ev.slotRejected n 0 [(1, r)]).monRefuse

/-- R652, R678, R680: boot chain. -/
def State.monBootChain (s : State) : State :=
  if s.monLocked || s.boot.running || s.role != 1 then s.monRefuse
  else
    let x := s.chainStart
    x.1.monPrint [] (if x.2 = 0 then Code.OK else Code.REFUSED)

/-- R676, R678: baud. -/
def State.monBaud (s : State) (code : Nat) : State :=
  if 15 < code then s.monRefuse else (s.monPrint [] Code.OK).setFld Reg.DBG_UART_CTL 3 0 code

/-- R678: help. -/
def State.monHelp (s : State) : State :=
  s.monPrint ["id", "rd", "wr", "mw", "mrd", "mwr", "@", "log", "load", "boot", "baud", "help"] Code.OK

/-! ### Lines (R677, R680, R690) -/

/-- R678: a command is carried out. -/
def State.runLine (s : State) (l : MonLine) : State :=
  match l with
  | .id => s.monId
  | .rd off n => s.monRd off n
  | .wr off data => s.monWr off data
  | .mw off mask v => s.monMw off mask v
  | .mrd addr n => s.monMrd addr n
  | .mwr addr data => s.monMwr addr data
  | .remote idx op off n data => s.monRemote idx op off n data
  | .log n => s.monLog n
  | .load chain off len crc => s.monLoad chain off len crc
  | .bootSlot n => s.monBootSlot n
  | .bootChain => s.monBootChain
  | .baud code => s.monBaud code
  | .help => s.monHelp
  | .unknown => s.monRefuse

/-- R680: a line runs, or waits for the end of a pause. -/
def State.takeLine (s : State) (l : MonLine) : State :=
  if s.pausedNow then s.modMon (fun m => { m with waiting := m.waiting ++ [l] }) else s.runLine l

/-- R687, R690: a line arrives; the first after 10 s of silence begins a session. -/
def State.lineArrives (s : State) (l : MonLine) : State :=
  let s := s.modMon (fun m => { m with lineAt := s.tmb.tclk })
  let s := if s.bit Reg.DBG_MON_STATUS 31 then s
    else (s.setBit Reg.DBG_MON_STATUS 31 true).raise Ev.monAttach noInst 0 []
  s.takeLine l

/-- R627, R679: the monitor takes lines: the boot ROM has started, and no binary load is being received. -/
def State.monTakes (s : State) : Bool := s.live && s.boot.rom && s.mon.load.isNone

/-- R678: MON_ID. -/
def execMonId (s : State) : Host.Outcome State Fault Refusal := gate s.monTakes (fun s => s.lineArrives .id) s

/-- R678: MON_RD. -/
def execMonRd (off n : Nat) (s : State) : Host.Outcome State Fault Refusal :=
  gate s.monTakes (fun s => s.lineArrives (.rd off n)) s

/-- R678: MON_WR. -/
def execMonWr (off : Nat) (data : List Word) (s : State) : Host.Outcome State Fault Refusal :=
  gate s.monTakes (fun s => s.lineArrives (.wr off data)) s

/-- R678: MON_MW. -/
def execMonMw (off : Nat) (mask v : Word) (s : State) : Host.Outcome State Fault Refusal :=
  gate s.monTakes (fun s => s.lineArrives (.mw off mask v)) s

/-- R678: MON_MRD. -/
def execMonMrd (addr n : Nat) (s : State) : Host.Outcome State Fault Refusal :=
  gate s.monTakes (fun s => s.lineArrives (.mrd addr n)) s

/-- R678: MON_MWR. -/
def execMonMwr (addr : Nat) (data : List Word) (s : State) : Host.Outcome State Fault Refusal :=
  gate s.monTakes (fun s => s.lineArrives (.mwr addr data)) s

/-- R678: MON_REMOTE: rd of `n` words (op 1), wr (2) or mw (3) at device `idx`. -/
def execMonRemote (idx op off n : Nat) (data : List Word) (s : State) : Host.Outcome State Fault Refusal :=
  gate s.monTakes (fun s => s.lineArrives (.remote idx op off n data)) s

/-- R678: MON_LOG. -/
def execMonLog (n : Nat) (s : State) : Host.Outcome State Fault Refusal :=
  gate s.monTakes (fun s => s.lineArrives (.log n)) s

/-- R679: MON_LOAD. -/
def execMonLoad (chain : Bool) (off len crc : Nat) (s : State) : Host.Outcome State Fault Refusal :=
  gate s.monTakes (fun s => s.lineArrives (.load chain off len crc)) s

/-- R679: MON_LOAD_DONE: the last byte of a load arrives. -/
def execMonLoadDone (data : List Byte) (s : State) : Host.Outcome State Fault Refusal :=
  gate s.live
    (fun s =>
      match s.mon.load with
      | some l => if data.length = l.len then s.loadEnds l data else s
      | none => s) s

/-- R679, R690: the TCLK cycles left until `sec` seconds have passed since the last line. -/
def State.silenceLeft (s : State) (sec : Nat) : Nat := s.mon.lineAt + 800000000 * sec - s.tmb.tclk

/-- R679: MON_LOAD_TIMEOUT: the next byte of a load does not come within 1 s; time runs at least until 1 s after the line that began it,
unless a tick comes first. -/
def execMonLoadTimeout (s : State) : Host.Outcome State Fault Refusal :=
  gate (s.live && s.mon.load.isSome)
    (fun s => s.wait (s.silenceLeft 1) (fun s => (s.modMon (fun m => { m with load := none })).monPrint [] Code.DISCARDED)) s

/-- R678: MON_BOOT_SLOT. -/
def execMonBootSlot (n : Nat) (s : State) : Host.Outcome State Fault Refusal :=
  gate s.monTakes (fun s => s.lineArrives (.bootSlot n)) s

/-- R678: MON_BOOT_CHAIN. -/
def execMonBootChain (s : State) : Host.Outcome State Fault Refusal :=
  gate s.monTakes (fun s => s.lineArrives .bootChain) s

/-- R678: MON_BAUD. -/
def execMonBaud (code : Nat) (s : State) : Host.Outcome State Fault Refusal :=
  gate s.monTakes (fun s => s.lineArrives (.baud code)) s

/-- R678: MON_HELP. -/
def execMonHelp (s : State) : Host.Outcome State Fault Refusal := gate s.monTakes (fun s => s.lineArrives .help) s

/-- R677: MON_UNKNOWN_COMMAND. -/
def execMonUnknownCommand (s : State) : Host.Outcome State Fault Refusal :=
  gate s.monTakes (fun s => s.lineArrives .unknown) s

/-- R690: MON_SESSION_TIMEOUT: time runs until 10 s have passed since the last line, unless a tick comes first. -/
def execMonSessionTimeout (s : State) : Host.Outcome State Fault Refusal :=
  gate s.live (fun s => s.wait (s.silenceLeft 10) (fun s => s.setBit Reg.DBG_MON_STATUS 31 false)) s

/-! ### The end of a flash operation (R646, R680) -/

/-- R680: the lines that waited for the end of a pause run. -/
def State.linesRun (s : State) : State :=
  let ls := s.mon.waiting
  ls.foldl (fun (s : State) l => s.takeLine l) (s.modMon (fun m => { m with waiting := [] }))

/-- R646: FLASH_OPERATION_DONE: the flash operation in progress has ended; `at'` is the flash offset of one that failed. -/
def execFlashOperationDone (ok : Bool) (at' : Word) (s : State) : Host.Outcome State Fault Refusal :=
  gate (s.live && !s.eraseSuspended)
    (fun s =>
      let s := s.flashDone ok at'.toNat
      if s.pausedNow then s else s.linesRun) s

end Sys2Proof.Machine
end

