-- ==== Sys2Proof/Machine/Pci.lean ====
section
/-!
DEFINITION. The PCIe endpoint: its link, resets and configuration space, host writes of the Granary window, BAR2 and pending MSI-X
vectors (chapter 19, R661 to R670, R687, R688).
-/

namespace Sys2Proof.Machine

/-- R605, R687: the event sources of PCI. -/
abbrev Ev.pciLinkUp : Nat := 464
abbrev Ev.pciLinkDown : Nat := 465
abbrev Ev.pciReset : Nat := 466

/-- R661: the endpoint exists in the sender role only. -/
def State.hasPci (s : State) : Bool := s.live && s.role == 0

/-- R662: PCIE_LINK_UP: the first entry to L0, at a speed and width as PCI_STATUS codes them. -/
def execPcieLinkUp (speed width : BitVec 3) (s : State) : Host.Outcome State Fault Refusal :=
  gate (s.hasPci && !s.pci.link)
    (fun s =>
      let s := s.modPci (fun p => { p with link := true })
      let s := (s.setBit Reg.PCI_STATUS 31 true).setFld Reg.PCI_STATUS 30 28 speed.toNat
      (s.setFld Reg.PCI_STATUS 26 24 width.toNat).raise Ev.pciLinkUp noInst 0 [(1, speed.toNat), (1, width.toNat)]) s

/-- R663, R669: the PCI block alone is reset: its registers, its configuration space and its MSI-X table. -/
def State.resetPci (s : State) (keepLink : Bool) : State :=
  let st := (s.rd Reg.PCI_STATUS).toNat
  let s := s.keepRegs (fun o => decide (o / 0x10000 ≠ 0x13))
  let s := (s.wr Reg.PCI_ID s.glb.fuses.pciId).wr Reg.PCI_SUBSYS s.glb.fuses.pciSubsys
  let s := if keepLink then s.wrN Reg.PCI_STATUS (bits st 31 24 * 2 ^ 24) else s
  s.modPci (fun p => { p with link := keepLink, bme := false, mse := false, msixEn := false, msixMask := false })

/-- R263, R663: the host pulls in flight complete with FAULT. -/
def State.failPulls (s : State) : State :=
  (List.range 16).foldl (fun (s : State) n => s.pullDone (Fin.ofNat 16 n) false []) s

/-- R663: PCIE_RESET: PERST_N (0), a function level reset (1), a hot reset (2) or a link-down (3). All but a function level reset
leave L0. -/
def execPcieReset (kind : Fin 4) (s : State) : Host.Outcome State Fault Refusal :=
  gate (s.hasPci && (s.pci.link || kind == 0))
    (fun s =>
      let was := s.pci.link
      let s := (s.resetPci (was && kind == 1)).failPulls
      let s := s.raise Ev.pciReset noInst 0 [(4, kind.val)]
      if was && kind != 1 then s.raise Ev.pciLinkDown noInst 0 [] else s) s

/-- R662, R663, R669, R670, R688: PCIE_CONFIG_REQUEST: the configuration space takes these values, and PCI_STATUS shows them. -/
def execPcieConfigRequest (bme mse msixEn mask d3hot : Bool) (s : State) : Host.Outcome State Fault Refusal :=
  gate (s.hasPci && s.pci.link)
    (fun s =>
      let s := s.modPci (fun p => { p with bme := bme, mse := mse, msixEn := msixEn, msixMask := mask })
      s.setFld Reg.PCI_STATUS 23 19 (b2n bme * 16 + b2n mse * 8 + b2n msixEn * 4 + b2n mask * 2 + b2n d3hot)) s

/-! ### The Granary window and BAR2 (R667, R668, R670) -/

/-- R576: the MiB of the Loaf's share of the sender's Granary. -/
def State.loafMib (s : State) : Nat := if s.bitA Reg.CMP_LOAF_CTL 31 then min 32 (s.fldA Reg.CMP_LOAF_CTL 5 0) else 0

/-- R576: the bytes from Granary offset `off` to `top` lie in one free range of a sender. -/
def State.granaryFree (s : State) (off top : Nat) : Bool :=
  (decide (0x200000 ≤ off) && decide (top ≤ 0x400000)) ||
    (decide (0x1000000 + s.loafMib * 0x100000 ≤ off) && decide (top ≤ 0x3000000))

/-- R667, R688: the bytes lie inside the range that software has set for the host. -/
def State.hostRange (s : State) (off top : Nat) : Bool :=
  let base := s.fld Reg.PCI_GRN_HOST_BASE 25 12 * 4096
  decide (base ≤ off) && decide (top ≤ base + s.fld Reg.PCI_GRN_HOST_SIZE 15 2 * 4096)

/-- R667: PCIE_GRANARY_WRITE, at a Granary byte offset. -/
def execPcieGranaryWrite (off : Nat) (data : List Byte) (s : State) : Host.Outcome State Fault Refusal :=
  gate (s.hasPci && decide (off + data.length ≤ granarySize))
    (fun s => s.onPath .pcie (fun s =>
      let top := off + data.length
      if s.hostRange off top && s.granaryFree off top then s.wrMem 3 (granaryBase + off) data else s.inc Reg.PCI_GRN_DENY)) s

/-- R665, R668, R670: PCIE_BAR2_ACCESS: `n` bytes are read at DRAM offset `off`, or the data is written there. -/
def execPcieBar2Access (off n : Nat) (write : Bool) (data : List Byte) (s : State) : Host.Outcome State Fault Refusal :=
  gate (s.hasPci && decide (off + (if write then data.length else n) ≤ s.dramCap))
    (fun s => s.onPath .pcie (fun s =>
      if s.dmcState ≠ 2 then
        let s := s.inc Reg.PCI_DRAM_OFF
        if write then s else s.emit (.tlp "CplCA" off [])
      else s.dramRequest 3 false write (dramBase + off) (if write then data.length else n) data)) s

/-! ### MSI-X (R669) -/

/-- R669: MSIX_UNMASK: the message of a pending vector is sent, where the masks and enables allow it. -/
def execMsixUnmask (v : Fin 512) (s : State) : Host.Outcome State Fault Refusal :=
  gate (s.hasPci && s.bit (Reg.PCI_MSIX_PBA (v.val / 32)) (v.val % 32))
    (fun s => (s.setBit (Reg.PCI_MSIX_PBA (v.val / 32)) (v.val % 32) false).pciMsix v.val) s

end Sys2Proof.Machine
end

