-- ==== Sys2Proof/Machine/Start.lean ====
section
/-!
DEFINITION. Power-on reset, the start-up sequence and the choice of an image (R2 to R8, R83, R110, R165, R622, R627, R628, R639 to
R641, R652, R656, R695, R697), and the loss of VBAT (R82, R654).
-/

namespace Sys2Proof.Machine

/-! ### The release of PORST_N -/

/-- R83: the seconds and subseconds of AON as a count of a time base, in units of 2^-42 ns. -/
def State.aonCount (s : State) : Nat :=
  let sec := (s.rd Reg.AON_SEC_LO).toNat + 2 ^ 32 * s.fld Reg.AON_SEC_HI 15 0
  (sec * 2 ^ 15 + s.aonSub) * 1000000000 * 2 ^ 27 % 2 ^ 74

/-- R110: a servo starts with a source, in run mode and acquisition. -/
def State.servoStart (s : State) (n : TbIx) (source : Nat) : State :=
  (s.wrN (Reg.TMB_TB_SERVO_CTL n.val) (source * 2 ^ 4 + 1)).setServo n Servo.acquisition

/-- R83, R110: the time bases start; TB7 runs freely. -/
def State.startTimeBases (s : State) : State :=
  let s := s.aonLook
  let s := if s.bit Reg.AON_SEC_HI 31 then
      (s.modTb 0 (fun t => { t with cnt := s.aonCount })).setBit (Reg.TMB_TB_SERVO_STATUS 0) 26 true
    else s
  let s := s.setServo 7 Servo.freeRunning
  if s.role = 0 then s.servoStart 1 4
  else if s.role = 3 then s
  else (s.servoStart 0 2).servoStart 1 2

/-- R2, R58, R275, R587, R637, R688, R689: the registers that straps and fuses give. -/
def State.loadFuses (s : State) (role bootsrc : Nat) : State :=
  let f := s.glb.fuses
  let s := s.wrN Reg.GLB_IDENT (0x77101100 + f.grade.toNat * 2 ^ 6 + role * 2 ^ 4 + bootsrc * 2 ^ 2)
  let s := s.wrN Reg.GLB_STATE (role * 2 ^ 30)
  let s := (List.range 4).foldl (fun (s : State) i => s.wrN (Reg.GLB_UID i) (f.uid / 2 ^ (32 * i))) s
  let s := (s.wr Reg.HKP_RO_KV f.roKv).wr Reg.BOOT_FUSE f.boot
  let s := (List.range 16).foldl (fun (s : State) i => s.wr (Reg.HKP_RO_CAL i) (f.roCal.toArray.getD i 0)) s
  if role = 0 then
    let s := (s.wr Reg.PCI_ID f.pciId).wr Reg.PCI_SUBSYS f.pciSubsys
    let s := (s.wrN Reg.MGE_MAC_LO f.mgeMac).wrN Reg.MGE_MAC_HI (f.mgeMac / 2 ^ 32 % 2 ^ 16)
    (List.range 2).foldl (fun (s : State) i =>
      let m := f.ethMac.toArray.getD i 0
      (s.wrN (Reg.INP_ETH_MAC_LO i) m).wrN (Reg.INP_ETH_MAC_HI i) (m / 2 ^ 32 % 2 ^ 16)) s
  else s

/-- R165: the ports whose SLK_CTL.enable resets to 1 enter DETECT. -/
def State.startPorts (s : State) : State :=
  (ports.filter (fun p => portOn s.role p)).foldl
    (fun (s : State) p => (s.setBit (Reg.SLK_CTL p.val) 0 true).goTrain p Train.detect) s

/-- R2, R83, R110, R165, R575, R622, R627, R676, R681: PORST_N_RELEASE. -/
def execPorstNRelease (role bootsrc : BitVec 2) (s : State) : Host.Outcome State Fault Refusal :=
  gate s.glb.held
    (fun s =>
      let s := s.modGlb (fun g => { g with held := false })
      let s := s.emit (.pin "THERM_N" true)
      let s := s.modGlb (fun g => { g with therm := false })
      let s := s.loadFuses role.toNat bootsrc.toNat
      let s := s.startTimeBases
      (s.startPorts).wrN Reg.DBG_TAP_STATUS 1) s

/-! ### Resets -/

/-- R655, R695: PORST_N low resets every domain except AON, with cause 0x02. -/
def State.porstLow (s : State) : State := (s.recordCause 0x02 0).resetDomains

/-- R695: PORST_N_ASSERT: a pulse shorter than 1 µs is ignored, one of 10 µs or longer resets, and between them the spec leaves it open
(a free value, log entry 2). -/
def execPorstNAssert (lowNs : Nat) (s : State) : Host.Outcome State Fault Refusal :=
  gate (s.live && decide (1000 ≤ lowNs))
    (fun s =>
      if 10000 ≤ lowNs then s.porstLow
      else
        let v := s.free
        if v.1 % 2 = 1 then v.2.porstLow else v.2) s

/-- R697: SUPPLY_MONITOR_RESET. -/
def execSupplyMonitorReset (s : State) : Host.Outcome State Fault Refusal :=
  gate s.live (fun s => (s.recordCause 0x01 0).resetDomains) s

/-- R82, R654, R693: VBAT_LOST: the AON registers read as zero; the seconds count goes on from a free value, marked as not
valid (log entry 2). -/
def execVbatLost (s : State) : Host.Outcome State Fault Refusal :=
  let v := s.free
  let s := (v.2.keepRegs (fun o => decide (o / 0x10000 ≠ 1))).modGlb (fun g => { g with aonLatch := none, aonTemps := 0x80008000 })
  let w := s.free
  .next (((w.2.wrN Reg.AON_SEC_LO v.1).wrN Reg.AON_SEC_HI (v.1 / 2 ^ 32 % 2 ^ 16)).aonSet (w.1 % 2 ^ 15))

/-! ### The boot ROM -/

/-- R654, R656: the boot record of this start. -/
def State.bootRecord (s : State) : State :=
  let conflict := s.bootSrc = 3 ∨ (s.role = 0 ∧ s.bootSrc = 1)
  let source := if 2 ≤ s.role ∨ (s.role = 0 ∧ s.bootSrc = 1) then 3 else if s.bootSrc = 3 then 2 else s.bootSrc
  s.wrN Reg.AON_RET4 ((if conflict then 2 ^ 31 else 0) + source * 2 ^ 24)

/-- R656, R657: the previous shut-down and a lost VBAT are reported. -/
def State.reportPast (s : State) : State :=
  let r := fun (o : Nat) => (4, (s.rd o).toNat)
  let s := if s.bit Reg.AON_RET0 31 && !s.bit Reg.AON_RET0 30 then
      (s.raise Ev.previousShutdown noInst 0
        [r Reg.AON_RET0, r Reg.AON_RET1, r Reg.AON_RET2, r Reg.AON_RET3]).setBit Reg.AON_RET0 30 true
    else s
  if s.bit Reg.AON_SEC_HI 31 then s else s.raise Ev.vbatLost noInst 0 []

/-- R640: a slot in trial at a start has failed. -/
def State.endTrials (s : State) : State :=
  [0, 1].foldl (fun (s : State) n =>
    if (s.slotState n).1 = SlotState.trial then
      (s.journalSlot n SlotState.failed Reason.unconfirmed).setBit Reg.AON_RET4 29 true
    else s) s

/-- R629, R632: the flash is reset and identified and its journal scanned: one of `mib` MiB, or none. -/
def State.findFlash (s : State) (mib : Nat) : State :=
  let s := s.emit (.flash "RESET" 0 0)
  if 64 ≤ mib ∧ mib ≤ 1024 then (s.wrN Reg.BOOT_FLASH (3 * 2 ^ 30 + mib)).refreshFlash
  else s

/-- R4 to R8, R627, R628, R652, R656: BOOT_ROM_START; `mib` is the capacity of the flash found, in MiB, zero for none. A device strapped
fallow only, a strap conflict of a sender and a chain boot go to fallow mode; a flash boot chooses a slot; a monitor boot and a
factory test wait at the monitor. DESIGN CHOICE (log 65): running_mode of a device strapped fallow is fallow from the strap, and it raises no
fallow-entered event. -/
def execBootRomStart (mib : Nat) (s : State) : Host.Outcome State Fault Refusal :=
  gate (s.live && !s.boot.rom)
    (fun s =>
      let s := s.modBoot (fun b => { b with rom := true })
      let s := (s.setFld Reg.BOOT_STATUS 30 29 2).setBit Reg.DBG_MON_STATUS 30 true
      let s := ((s.bootRecord).reportPast).findFlash mib
      if s.role = 2 then s.setFld Reg.GLB_STATE 29 26 1
      else if s.role = 3 then s
      else if s.role = 0 ∧ s.bootSrc = 1 then s.enterFallow 2
      else if s.bootSrc = 1 then s.enterFallow 5
      else if s.bootSrc = 0 then s.modBoot (fun b => { b with choosing := true })
      else s) s

/-- R639: the slots to try, in order. -/
def State.slotOrder (s : State) : List Nat :=
  if s.journal.isEmpty then [0, 1]
  else [0, 1].filter (fun n => (s.slotState n).1 == SlotState.current) ++
    [0, 1].filter (fun n => (s.slotState n).1 == SlotState.standby)

/-- R635, R639: the slots are tried in order; each one refused is reported, and the reasons are gathered. -/
def State.trySlots (s : State) (bad : List Nat) : List Nat → List (Nat × Nat) → State × Option Nat × List (Nat × Nat)
  | [], failed => (s, none, failed)
  | n :: t, failed =>
    let r := s.checkSlot n (!bad.contains n)
    if r = 0 then (s, some n, failed)
    else
      let s := if bad.contains n then s.flashFailed (regionBase n) else s
      (s.raise Ev.slotRejected n 0 [(1, r)]).trySlots bad t (failed ++ [(n, r)])

/-- R639 to R641: a flash slot is chosen and started, or the device stays on the boot ROM in fallow mode. -/
def State.chooseSlot (s : State) (bad : List Nat) : State :=
  let empty := s.journal.isEmpty
  let s := s.endTrials
  let x := s.trySlots bad (if s.flashBytes = 0 then [] else s.slotOrder) []
  match x with
  | (s, some n, failed) =>
    let s := match failed with
      | [] => if empty then s.journalSlot n SlotState.current 0 else s
      | (m, r) :: _ =>
        ((s.journalSlot n SlotState.current 0).journalSlot m SlotState.failed r).setBit Reg.AON_RET4 30 true
    (s.setBit Reg.AON_RET4 20 (n == 1)).startImage n 0
  | (s, none, failed) =>
    let s := s.setFld Reg.AON_RET4 25 24 3
    s.romOnly (if !failed.isEmpty && failed.all (fun f => decide (0x7 ≤ f.2) && decide (f.2 ≤ 0xA)) then 4 else 5)

/-- R639: BOOT_IMAGE_LOADED; `bad` are the slots whose flash reads fail. -/
def execBootImageLoaded (bad : List Nat) (s : State) : Host.Outcome State Fault Refusal :=
  gate (s.live && s.boot.choosing) (fun s => s.chooseSlot bad) s

end Sys2Proof.Machine
end

