-- ==== Sys2Proof/Machine/Tap.lean ====
section
/-!
DEFINITION. The test access port (chapter 19, R681 to R687, R690).
-/

namespace Sys2Proof.Machine

/-- R605, R687: the TAP-test event. -/
abbrev Ev.tapTest : Nat := 475

/-- R690: the current instruction, and whether the pins are taken. -/
def State.tapIr (s : State) : Nat := s.fld Reg.DBG_TAP_STATUS 7 0
def State.testMode (s : State) : Bool := s.bit Reg.DBG_TAP_STATUS 31

/-! ### The boundary register (R684) -/

/-- R684: what a cell of the boundary register does for its pin. -/
inductive CellKind where
  | input
  | data
  | control
  deriving DecidableEq, Repr

/-- R684: a cell: its pin or pair, by name, channel or port, and signal index, and its kind. -/
structure BCell where
  pin : String
  unit : Nat
  index : Nat
  kind : CellKind
  deriving DecidableEq, Repr

/-- R684: the cells of an input, an output and a bidirectional pin. -/
def inCells (pin : String) (unit index : Nat) : List BCell := [⟨pin, unit, index, .input⟩]
def outCells (pin : String) (unit index : Nat) : List BCell := [⟨pin, unit, index, .data⟩, ⟨pin, unit, index, .control⟩]
def bothCells (pin : String) (unit index : Nat) : List BCell :=
  [⟨pin, unit, index, .input⟩, ⟨pin, unit, index, .data⟩, ⟨pin, unit, index, .control⟩]

/-- R684: the cells of `n` pins of a name in ascending signal index. -/
def pinRow (f : String → Nat → Nat → List BCell) (pin : String) (unit n : Nat) : List BCell :=
  (List.range n).flatMap (f pin unit)

/-- R684: cells 0 to 43: the control, monitor and flash groups. -/
def frontCells : List BCell :=
  pinRow inCells "ROLE" 0 2 ++ pinRow inCells "BOOTSRC" 0 2 ++ inCells "SYNC_IN" 0 0 ++ inCells "REFCLK" 0 0 ++
    outCells "THERM_N" 0 0 ++ inCells "GELLE_RX" 0 0 ++ outCells "GELLE_TX" 0 0 ++ outCells "FLASH_CLK" 0 0 ++
    outCells "FLASH_CS_N" 0 0 ++ outCells "FLASH_RST_N" 0 0 ++ bothCells "FLASH_DQS" 0 0 ++ pinRow bothCells "FLASH_DQ" 0 8

/-- R684: cells 44 to 123: per audio port its clocks and its data pin. -/
def audioCells : List BCell :=
  (List.range 16).flatMap (fun p => inCells "ABCK" p 0 ++ inCells "AFS" p 0 ++ bothCells "ADAT" p 0)

/-- R684: cells 124 to 315: the Furrow outputs, then the returns. -/
def furrowCells : List BCell := pinRow outCells "FOUT" 0 64 ++ pinRow inCells "FRTN" 0 64

/-- R684: the 82 cells of a DRAM channel. -/
def channelCells (c : Nat) : List BCell :=
  pinRow bothCells "DQ" c 16 ++ pinRow bothCells "DMI" c 2 ++ pinRow bothCells "RDQS" c 2 ++ pinRow outCells "WCK" c 2 ++
    outCells "CK" c 0 ++ pinRow outCells "CA" c 7 ++ outCells "CS" c 0

/-- R684: the cells of a DRAM group, 316 to 1,137 or 1,138 to 1,959. -/
def dramCells (g : Nat) : List BCell :=
  (List.range 10).flatMap (fun k => channelCells (10 * g + k)) ++ outCells "DDR_RESET_N" g 0

/-- R684: cells 1,960 to 2,053: the AC-coupled pairs; in each interface the transmit pairs stand first, as the table lists them. -/
def acCells : List BCell :=
  (List.range 4).flatMap (fun p => pinRow outCells "SLAUF_TX" p 4) ++ (List.range 4).flatMap (fun p => pinRow inCells "SLAUF_RX" p 4) ++
    pinRow outCells "PCIE_TX" 0 4 ++ pinRow inCells "PCIE_RX" 0 4 ++ inCells "PCIE_REFCLK" 0 0 ++
    (List.range 2).flatMap (fun p => pinRow outCells "ETH_TX" p 4) ++ (List.range 2).flatMap (fun p => pinRow inCells "ETH_RX" p 4) ++
    pinRow inCells "SDI_RX" 0 4 ++ outCells "SDI_TX" 0 0 ++ outCells "MGE_TX" 0 0 ++ inCells "MGE_RX" 0 0

/-- R684: the 2,054 cells, cell 0 nearest TDO. -/
def boundaryCells : List BCell :=
  frontCells ++ audioCells ++ furrowCells ++ dramCells 0 ++ dramCells 1 ++ acCells

/-- R684: a scan of the boundary register: what the cells captured leaves by TDO, cell 0 first, and what TDI brings is taken into the
update stage. -/
def State.boundaryScan (s : State) (captured tdi : BoundaryCells) : State :=
  (s.emit (.tdo 2054 captured.toNat)).modMon (fun m => { m with shift := tdi, update := tdi })

/-- R684 to R686: the pins carry the update stage. -/
def State.boundaryDrive (s : State) (how : String) : State := s.emit (.boundary how s.mon.update)

/-! ### Instructions (R682 to R686) -/

/-- R682, R690: an instruction is loaded; the register that it selects is named. -/
def State.tapLoad (s : State) (code : Nat) (what : String) : State :=
  (s.setFld Reg.DBG_TAP_STATUS 7 0 code).emit (.scan what)

/-- R686: an instruction that takes the pins: the event comes first, then the functional logic is disconnected until the next rising
edge of PORST_N. -/
def State.tapTake (s : State) (code : Nat) (what : String) : State :=
  ((s.raise Ev.tapTest noInst 0 [(1, code)]).setBit Reg.DBG_TAP_STATUS 31 true).tapLoad code what

/-- R681: TAP_RESET: Test-Logic-Reset, with IDCODE selected. The pins stay taken (R686). -/
def execTapReset (s : State) : Host.Outcome State Fault Refusal :=
  gate s.live (fun s => s.tapLoad 0x01 "RESET") s

/-- R683: the device identification register of stepping B1. -/
abbrev idcode : Nat := 0x17710967

/-- R682, R683: TAP_IDCODE: the 32 bits of the identification leave by TDO. -/
def execTapIdcode (s : State) : Host.Outcome State Fault Refusal :=
  gate s.live (fun s => (s.tapLoad 0x01 "IDENTIFICATION").emit (.tdo 32 idcode)) s

/-- R682, R684: TAP_SAMPLE_PRELOAD: the pins stay with the functional logic. -/
def execTapSamplePreload (captured tdi : BoundaryCells) (s : State) : Host.Outcome State Fault Refusal :=
  gate s.live (fun s => (s.tapLoad 0x02 "BOUNDARY").boundaryScan captured tdi) s

/-- R684, R686: a test instruction that scans the boundary register: the pins carry what was preloaded, then what is shifted in. -/
def State.tapTest (s : State) (code : Nat) (what how : String) (captured tdi : BoundaryCells) : State :=
  ((((s.tapTake code what).boundaryDrive how).boundaryScan captured tdi)).boundaryDrive how

/-- R682, R684, R686: TAP_EXTEST. -/
def execTapExtest (captured tdi : BoundaryCells) (s : State) : Host.Outcome State Fault Refusal :=
  gate s.live (fun s => s.tapTest 0x03 "BOUNDARY DRIVEN" "LEVEL" captured tdi) s

/-- R682, R686: TAP_CLAMP: the pins carry what was preloaded. -/
def execTapClamp (s : State) : Host.Outcome State Fault Refusal :=
  gate s.live (fun s => (s.tapTake 0x04 "BYPASS HELD").boundaryDrive "LEVEL") s

/-- R682, R686: TAP_HIGHZ. -/
def execTapHighz (s : State) : Host.Outcome State Fault Refusal :=
  gate s.live (fun s => s.tapTake 0x05 "BYPASS FLOATING") s

/-- R682, R685, R686: TAP_EXTEST_PULSE. -/
def execTapExtestPulse (captured tdi : BoundaryCells) (s : State) : Host.Outcome State Fault Refusal :=
  gate s.live (fun s => s.tapTest 0x06 "BOUNDARY PULSE" "PULSE" captured tdi) s

/-- R682, R685, R686: TAP_EXTEST_TRAIN. -/
def execTapExtestTrain (captured tdi : BoundaryCells) (s : State) : Host.Outcome State Fault Refusal :=
  gate s.live (fun s => s.tapTest 0x07 "BOUNDARY TRAIN" "TRAIN" captured tdi) s

/-- R682: a code that acts as BYPASS: under the factory-test strap, codes 0x80 to 0xFE are the factory's. -/
def State.actsAsBypass (s : State) (code : Nat) : Bool :=
  !(decide (1 ≤ code) && decide (code ≤ 7)) && !(s.role == 3 && decide (0x80 ≤ code) && decide (code ≤ 0xFE))

/-- R682, R690: TAP_BYPASS: BYPASS or another code that acts as it is loaded. A factory code under the factory-test strap, of which the
spec says nothing more, is only shown. -/
def execTapBypass (code : BitVec 8) (s : State) : Host.Outcome State Fault Refusal :=
  gate (s.live && !(decide (1 ≤ code.toNat) && decide (code.toNat ≤ 7)))
    (fun s => s.tapLoad code.toNat (if s.actsAsBypass code.toNat then "BYPASS" else "FACTORY")) s

end Sys2Proof.Machine
end

