-- ==== Sys2Proof/Machine/Dispatch.lean ====
section
/-!
DEFINITION. The commands and their meanings: one arm per constructor of Instr, each one direct call.
-/

namespace Sys2Proof.Machine

def exec (i : Instr) (s : State) : Host.Outcome State Fault Refusal :=
  match i with
  | .porstNRelease role bootsrc => Sys2Proof.Machine.execPorstNRelease role bootsrc s
  | .porstNAssert lowNs => Sys2Proof.Machine.execPorstNAssert lowNs s
  | .supplyMonitorReset => Sys2Proof.Machine.execSupplyMonitorReset s
  | .vbatLost => Sys2Proof.Machine.execVbatLost s
  | .registerWrite path off width v => Sys2Proof.Machine.execRegisterWrite path off width v s
  | .rcRead path off width coincident => Sys2Proof.Machine.execRcRead path off width coincident s
  | .counterLowRead path off width => Sys2Proof.Machine.execCounterLowRead path off width s
  | .tick => Sys2Proof.Machine.execTick s
  | .commitPost path v => Sys2Proof.Machine.execCommitPost path v s
  | .subtreeCommitDeadline => Sys2Proof.Machine.execSubtreeCommitDeadline s
  | .preframePublicationPoint => Sys2Proof.Machine.execPreframePublicationPoint s
  | .snapStart v => Sys2Proof.Machine.execSnapStart v s
  | .snapCapture => Sys2Proof.Machine.execSnapCapture s
  | .tbWrap n => Sys2Proof.Machine.execTbWrap n s
  | .servoMeasurement n e taken => Sys2Proof.Machine.execServoMeasurement n e taken s
  | .servoHoldoverTimeout n announce => Sys2Proof.Machine.execServoHoldoverTimeout n announce s
  | .servoForceHoldover n => Sys2Proof.Machine.execServoForceHoldover n s
  | .tbSet n => Sys2Proof.Machine.execTbSet n s
  | .tbFreqWrite n v => Sys2Proof.Machine.execTbFreqWrite n v s
  | .aonSecLoadRequest => Sys2Proof.Machine.execAonSecLoadRequest s
  | .aonSecondRollover => Sys2Proof.Machine.execAonSecondRollover s
  | .ptpSyncRx m => Sys2Proof.Machine.execPtpSyncRx m s
  | .ptpDelayRespRx port domain t1 t2 t3 t4 => Sys2Proof.Machine.execPtpDelayRespRx port domain t1 t2 t3 t4 s
  | .hopDelayInterval => Sys2Proof.Machine.execHopDelayInterval s
  | .delayReqRx p r seq turn => Sys2Proof.Machine.execDelayReqRx p r seq turn s
  | .delayRespRx p r seq t2 t3 => Sys2Proof.Machine.execDelayRespRx p r seq t2 t3 s
  | .delayRespTimeout p => Sys2Proof.Machine.execDelayRespTimeout p s
  | .syncInterval => Sys2Proof.Machine.execSyncInterval s
  | .syncRx p r b => Sys2Proof.Machine.execSyncRx p r b s
  | .syncInEdge => Sys2Proof.Machine.execSyncInEdge s
  | .syncInLost => Sys2Proof.Machine.execSyncInLost s
  | .tb1OffsetFeed => Sys2Proof.Machine.execTb1OffsetFeed s
  | .audioEdgeFeed n => Sys2Proof.Machine.execAudioEdgeFeed n s
  | .frameAlignGo => Sys2Proof.Machine.execFrameAlignGo s
  | .laneBlockLock p lane => Sys2Proof.Machine.execLaneBlockLock p lane s
  | .laneBlockLockLoss p lane badHeaders => Sys2Proof.Machine.execLaneBlockLockLoss p lane badHeaders s
  | .markerTx p left idle => Sys2Proof.Machine.execMarkerTx p left idle s
  | .skipTx p => Sys2Proof.Machine.execSkipTx p s
  | .markerRx p block skewNs change => Sys2Proof.Machine.execMarkerRx p block skewNs change s
  | .skipRx p change crcOk => Sys2Proof.Machine.execSkipRx p change crcOk s
  | .codeWordRx p badHeaders errBytes units => Sys2Proof.Machine.execCodeWordRx p badHeaders errBytes units s
  | .sheafRx p hdr payload => Sys2Proof.Machine.execSheafRx p hdr payload s
  | .sheafStart p => Sys2Proof.Machine.execSheafStart p s
  | .sheafWithdraw p headerLeft => Sys2Proof.Machine.execSheafWithdraw p headerLeft s
  | .lcuRx p unit => Sys2Proof.Machine.execLcuRx p unit s
  | .lcuFlushTimeout p => Sys2Proof.Machine.execLcuFlushTimeout p s
  | .censusPreframeTimer => Sys2Proof.Machine.execCensusPreframeTimer s
  | .censusRx p body => Sys2Proof.Machine.execCensusRx p body s
  | .retxDeadline p bulk => Sys2Proof.Machine.execRetxDeadline p bulk s
  | .trainStateAdvance p info => Sys2Proof.Machine.execTrainStateAdvance p info s
  | .trainTimeout p => Sys2Proof.Machine.execTrainTimeout p s
  | .configRetry p => Sys2Proof.Machine.execConfigRetry p s
  | .ts1Rx p block => Sys2Proof.Machine.execTs1Rx p block s
  | .slkRetrain p => Sys2Proof.Machine.execSlkRetrain p s
  | .slkEnableWrite p on => Sys2Proof.Machine.execSlkEnableWrite p on s
  | .queuePost q outTail => Sys2Proof.Machine.execQueuePost q outTail s
  | .queueSend q => Sys2Proof.Machine.execQueueSend q s
  | .inHeadWrite q inHead => Sys2Proof.Machine.execInHeadWrite q inHead s
  | .reachRead m => Sys2Proof.Machine.execReachRead m s
  | .reachWrite m => Sys2Proof.Machine.execReachWrite m s
  | .reachMaskedWrite m => Sys2Proof.Machine.execReachMaskedWrite m s
  | .reachResponseRx m => Sys2Proof.Machine.execReachResponseRx m s
  | .commitMsgRx m => Sys2Proof.Machine.execCommitMsgRx m s
  | .completionRx m => Sys2Proof.Machine.execCompletionRx m s
  | .eventRecordRx m => Sys2Proof.Machine.execEventRecordRx m s
  | .queryRx m => Sys2Proof.Machine.execQueryRx m s
  | .queryAnswerRx m => Sys2Proof.Machine.execQueryAnswerRx m s
  | .responseTimeout q cmdId => Sys2Proof.Machine.execResponseTimeout q cmdId s
  | .rollStart v => Sys2Proof.Machine.execRollStart v s
  | .enumRx m => Sys2Proof.Machine.execEnumRx m s
  | .enumReturnRx m => Sys2Proof.Machine.execEnumReturnRx m s
  | .assignRx m => Sys2Proof.Machine.execAssignRx m s
  | .assignAckRx m => Sys2Proof.Machine.execAssignAckRx m s
  | .changeRx m => Sys2Proof.Machine.execChangeRx m s
  | .rollTimeout p => Sys2Proof.Machine.execRollTimeout p s
  | .rollListenRetry p => Sys2Proof.Machine.execRollListenRetry p s
  | .streamSlotRelease slot => Sys2Proof.Machine.execStreamSlotRelease slot s
  | .digestRx p body => Sys2Proof.Machine.execDigestRx p body s
  | .leasePreframeTimer => Sys2Proof.Machine.execLeasePreframeTimer s
  | .leaseRx m => Sys2Proof.Machine.execLeaseRx m s
  | .leaseExpiry p => Sys2Proof.Machine.execLeaseExpiry p s
  | .leaseDeadlineMiss p => Sys2Proof.Machine.execLeaseDeadlineMiss p s
  | .holderDecideTimeout p => Sys2Proof.Machine.execHolderDecideTimeout p s
  | .shunRx m => Sys2Proof.Machine.execShunRx m s
  | .unshunRx m => Sys2Proof.Machine.execUnshunRx m s
  | .claimRaise p => Sys2Proof.Machine.execClaimRaise p s
  | .claimUnmute p => Sys2Proof.Machine.execClaimUnmute p s
  | .claimUnshun p => Sys2Proof.Machine.execClaimUnshun p s
  | .claimDrop p => Sys2Proof.Machine.execClaimDrop p s
  | .sdiLock k standard pid linkNo => Sys2Proof.Machine.execSdiLock k standard pid linkNo s
  | .sdiUnlock k => Sys2Proof.Machine.execSdiUnlock k s
  | .sourceFrameComplete rx f => Sys2Proof.Machine.execSourceFrameComplete rx f s
  | .st2110PacketRx p k => Sys2Proof.Machine.execSt2110PacketRx p k s
  | .st2110AudioPacketRx p k => Sys2Proof.Machine.execSt2110AudioPacketRx p k s
  | .ethLinkChange p up pcs fec => Sys2Proof.Machine.execEthLinkChange p up pcs fec s
  | .hostPullPost n cmdId => Sys2Proof.Machine.execHostPullPost n cmdId s
  | .hostPullDone n ok poisoned data => Sys2Proof.Machine.execHostPullDone n ok poisoned data s
  | .sourceLossTimeout n => Sys2Proof.Machine.execSourceLossTimeout n s
  | .audioStreamLossTimeout m => Sys2Proof.Machine.execAudioStreamLossTimeout m s
  | .inpReset => Sys2Proof.Machine.execInpReset s
  | .canvasComplete lost entries => Sys2Proof.Machine.execCanvasComplete lost entries s
  | .cmpFetchError layer addr len => Sys2Proof.Machine.execCmpFetchError layer addr len s
  | .loafEccError tile => Sys2Proof.Machine.execLoafEccError tile s
  | .cmpReset => Sys2Proof.Machine.execCmpReset s
  | .scnSheafStart p => Sys2Proof.Machine.execScnSheafStart p s
  | .scnTransportGuard won => Sys2Proof.Machine.execScnTransportGuard won s
  | .scnStarve p => Sys2Proof.Machine.execScnStarve p s
  | .monitorFrameStart => Sys2Proof.Machine.execMonitorFrameStart s
  | .monitorLine line emptyAt => Sys2Proof.Machine.execMonitorLine line emptyAt s
  | .regionHeaderRx stream frame body => Sys2Proof.Machine.execRegionHeaderRx stream frame body s
  | .pixelSheafRx stream frame index body => Sys2Proof.Machine.execPixelSheafRx stream frame index body s
  | .trailerRx stream frame body => Sys2Proof.Machine.execTrailerRx stream frame body s
  | .correctionDone faults => Sys2Proof.Machine.execCorrectionDone faults s
  | .corTableError set addr len => Sys2Proof.Machine.execCorTableError set addr len s
  | .corReset => Sys2Proof.Machine.execCorReset s
  | .furrowEnumReturn l pkt => Sys2Proof.Machine.execFurrowEnumReturn l pkt s
  | .furrowEnumRetry l => Sys2Proof.Machine.execFurrowEnumRetry l s
  | .furrowSyncReturn l ns => Sys2Proof.Machine.execFurrowSyncReturn l ns s
  | .furrowLoopTimeout l => Sys2Proof.Machine.execFurrowLoopTimeout l s
  | .furrowRxLockLoss l => Sys2Proof.Machine.execFurrowRxLockLoss l s
  | .furrowRxLock l => Sys2Proof.Machine.execFurrowRxLock l s
  | .subframeUpload j => Sys2Proof.Machine.execSubframeUpload j s
  | .subframeStart j => Sys2Proof.Machine.execSubframeStart j s
  | .furFetchError addr len => Sys2Proof.Machine.execFurFetchError addr len s
  | .furAccessRead v => Sys2Proof.Machine.execFurAccessRead v s
  | .furAccessWrite v => Sys2Proof.Machine.execFurAccessWrite v s
  | .furrowPacketReturn l pkt => Sys2Proof.Machine.execFurrowPacketReturn l pkt s
  | .furReset => Sys2Proof.Machine.execFurReset s
  | .companionSync l place pkt => Sys2Proof.Machine.execCompanionSync l place pkt s
  | .companionTimedPacket l place pkt => Sys2Proof.Machine.execCompanionTimedPacket l place pkt s
  | .companionLine l place openCh shortCh => Sys2Proof.Machine.execCompanionLine l place openCh shortCh s
  | .companionLineOff l place => Sys2Proof.Machine.execCompanionLineOff l place s
  | .companionData l place pkt => Sys2Proof.Machine.execCompanionData l place pkt s
  | .companionWrite l place pkt => Sys2Proof.Machine.execCompanionWrite l place pkt s
  | .companionRead l place pkt => Sys2Proof.Machine.execCompanionRead l place pkt s
  | .companionEnum l place pkt => Sys2Proof.Machine.execCompanionEnum l place pkt s
  | .companionTest l place openCh shortCh => Sys2Proof.Machine.execCompanionTest l place openCh shortCh s
  | .rowDriverWatchdog l place => Sys2Proof.Machine.execRowDriverWatchdog l place s
  | .companionLockLoss l place => Sys2Proof.Machine.execCompanionLockLoss l place s
  | .lmpMapClear k r part v => Sys2Proof.Machine.execLmpMapClear k r part v s
  | .lmpTableLoad err => Sys2Proof.Machine.execLmpTableLoad err s
  | .lmpReset => Sys2Proof.Machine.execLmpReset s
  | .calSample q codes => Sys2Proof.Machine.execCalSample q codes s
  | .calSolveGo v => Sys2Proof.Machine.execCalSolveGo v s
  | .calSolveAbort => Sys2Proof.Machine.execCalSolveAbort s
  | .calSolveStepDone => Sys2Proof.Machine.execCalSolveStepDone s
  | .calAdcSync => Sys2Proof.Machine.execCalAdcSync s
  | .calReset => Sys2Proof.Machine.execCalReset s
  | .audAnchorLoad => Sys2Proof.Machine.execAudAnchorLoad s
  | .audioGroupLost g => Sys2Proof.Machine.execAudioGroupLost g s
  | .audioGroupBack g => Sys2Proof.Machine.execAudioGroupBack g s
  | .audioGroupMeasured g => Sys2Proof.Machine.execAudioGroupMeasured g s
  | .audioSheafTx stream => Sys2Proof.Machine.execAudioSheafTx stream s
  | .audioSheafRx stream body => Sys2Proof.Machine.execAudioSheafRx stream body s
  | .audioSamplesMissing samples => Sys2Proof.Machine.execAudioSamplesMissing samples s
  | .audReset => Sys2Proof.Machine.execAudReset s
  | .dmcTrain v => Sys2Proof.Machine.execDmcTrain v s
  | .dmcTrainDone point dense fails eyes => Sys2Proof.Machine.execDmcTrainDone point dense fails eyes s
  | .dmcMapWrite v => Sys2Proof.Machine.execDmcMapWrite v s
  | .dramRequest r urgent write addr len data => Sys2Proof.Machine.execDramRequest r urgent write addr len data s
  | .dramIssue g => Sys2Proof.Machine.execDramIssue g s
  | .dramAgeRaise g => Sys2Proof.Machine.execDramAgeRaise g s
  | .refreshDue g => Sys2Proof.Machine.execRefreshDue g s
  | .refreshPayback g => Sys2Proof.Machine.execRefreshPayback g s
  | .refreshPullIn g => Sys2Proof.Machine.execRefreshPullIn g s
  | .deratePoll codes => Sys2Proof.Machine.execDeratePoll codes s
  | .rhThrottleEnd g => Sys2Proof.Machine.execRhThrottleEnd g s
  | .dmcFreqGo v => Sys2Proof.Machine.execDmcFreqGo v s
  | .dmcFreqChange => Sys2Proof.Machine.execDmcFreqChange s
  | .dmcFreqTimeout => Sys2Proof.Machine.execDmcFreqTimeout s
  | .dmcWckTracking => Sys2Proof.Machine.execDmcWckTracking s
  | .dmcReset => Sys2Proof.Machine.execDmcReset s
  | .mecReadDecode g errs => Sys2Proof.Machine.execMecReadDecode g errs s
  | .mecFillDone => Sys2Proof.Machine.execMecFillDone s
  | .mecChForce v => Sys2Proof.Machine.execMecChForce v s
  | .mecGranQuery v => Sys2Proof.Machine.execMecGranQuery v s
  | .mecTrim v => Sys2Proof.Machine.execMecTrim v s
  | .mecTrimDone => Sys2Proof.Machine.execMecTrimDone s
  | .gleanerRead g => Sys2Proof.Machine.execGleanerRead g s
  | .gleanerWriteback => Sys2Proof.Machine.execGleanerWriteback s
  | .gleanerLapSlow => Sys2Proof.Machine.execGleanerLapSlow s
  | .mecReset => Sys2Proof.Machine.execMecReset s
  | .granaryRead off flips => Sys2Proof.Machine.execGranaryRead off flips s
  | .granaryScrub off flips => Sys2Proof.Machine.execGranaryScrub off flips s
  | .hkpSlotEnd codes osc => Sys2Proof.Machine.execHkpSlotEnd codes osc s
  | .shutdownDeferEnd us => Sys2Proof.Machine.execShutdownDeferEnd us s
  | .analogTrip => Sys2Proof.Machine.execAnalogTrip s
  | .ledgerWrite => Sys2Proof.Machine.execLedgerWrite s
  | .ledgerDrain => Sys2Proof.Machine.execLedgerDrain s
  | .ledgerFlushTimeout => Sys2Proof.Machine.execLedgerFlushTimeout s
  | .evtDramRdWrite v => Sys2Proof.Machine.execEvtDramRdWrite v s
  | .evtDramRingSet which v => Sys2Proof.Machine.execEvtDramRingSet which v s
  | .evtDramEnable v => Sys2Proof.Machine.execEvtDramEnable v s
  | .msixSend => Sys2Proof.Machine.execMsixSend s
  | .msixHoldoffEnd v => Sys2Proof.Machine.execMsixHoldoffEnd v s
  | .eventForward => Sys2Proof.Machine.execEventForward s
  | .evtReset => Sys2Proof.Machine.execEvtReset s
  | .bootRomStart mib => Sys2Proof.Machine.execBootRomStart mib s
  | .bootImageLoaded bad => Sys2Proof.Machine.execBootImageLoaded bad s
  | .configLoad bad => Sys2Proof.Machine.execConfigLoad bad s
  | .configWaitDone timedOut => Sys2Proof.Machine.execConfigWaitDone timedOut s
  | .fwErase region offset length id => Sys2Proof.Machine.execFwErase region offset length id s
  | .fwWrite region offset length id => Sys2Proof.Machine.execFwWrite region offset length id s
  | .fwRead region offset length id => Sys2Proof.Machine.execFwRead region offset length id s
  | .fwVerify region id => Sys2Proof.Machine.execFwVerify region id s
  | .fwActivate slot id => Sys2Proof.Machine.execFwActivate slot id s
  | .fwRollback id => Sys2Proof.Machine.execFwRollback id s
  | .fwSelect set id => Sys2Proof.Machine.execFwSelect set id s
  | .fwRevoke key id => Sys2Proof.Machine.execFwRevoke key id s
  | .fwChainStart id => Sys2Proof.Machine.execFwChainStart id s
  | .flashOperationDone ok at' => Sys2Proof.Machine.execFlashOperationDone ok at' s
  | .bootConfirm => Sys2Proof.Machine.execBootConfirm s
  | .trialDeadline => Sys2Proof.Machine.execTrialDeadline s
  | .firmwareRestart => Sys2Proof.Machine.execFirmwareRestart s
  | .pcieLinkUp speed width => Sys2Proof.Machine.execPcieLinkUp speed width s
  | .pcieReset kind => Sys2Proof.Machine.execPcieReset kind s
  | .pcieGranaryWrite off data => Sys2Proof.Machine.execPcieGranaryWrite off data s
  | .pcieBar2Access off n write data => Sys2Proof.Machine.execPcieBar2Access off n write data s
  | .msixUnmask v => Sys2Proof.Machine.execMsixUnmask v s
  | .mgeRequest ip port dport b => Sys2Proof.Machine.execMgeRequest ip port dport b s
  | .mgeMemoryRead ip port dport b => Sys2Proof.Machine.execMgeMemoryRead ip port dport b s
  | .mgeMemoryWrite ip port dport b => Sys2Proof.Machine.execMgeMemoryWrite ip port dport b s
  | .mgeLinkChange up speed => Sys2Proof.Machine.execMgeLinkChange up speed s
  | .monId => Sys2Proof.Machine.execMonId s
  | .monRd off n => Sys2Proof.Machine.execMonRd off n s
  | .monWr off data => Sys2Proof.Machine.execMonWr off data s
  | .monMw off mask v => Sys2Proof.Machine.execMonMw off mask v s
  | .monMrd addr n => Sys2Proof.Machine.execMonMrd addr n s
  | .monMwr addr data => Sys2Proof.Machine.execMonMwr addr data s
  | .monRemote idx op off n data => Sys2Proof.Machine.execMonRemote idx op off n data s
  | .monLog n => Sys2Proof.Machine.execMonLog n s
  | .monLoad chain off len crc => Sys2Proof.Machine.execMonLoad chain off len crc s
  | .monLoadDone data => Sys2Proof.Machine.execMonLoadDone data s
  | .monLoadTimeout => Sys2Proof.Machine.execMonLoadTimeout s
  | .monBootSlot n => Sys2Proof.Machine.execMonBootSlot n s
  | .monBootChain => Sys2Proof.Machine.execMonBootChain s
  | .monBaud code => Sys2Proof.Machine.execMonBaud code s
  | .monHelp => Sys2Proof.Machine.execMonHelp s
  | .tapReset => Sys2Proof.Machine.execTapReset s
  | .tapIdcode => Sys2Proof.Machine.execTapIdcode s
  | .tapSamplePreload captured tdi => Sys2Proof.Machine.execTapSamplePreload captured tdi s
  | .tapExtest captured tdi => Sys2Proof.Machine.execTapExtest captured tdi s
  | .tapClamp => Sys2Proof.Machine.execTapClamp s
  | .tapHighz => Sys2Proof.Machine.execTapHighz s
  | .tapExtestPulse captured tdi => Sys2Proof.Machine.execTapExtestPulse captured tdi s
  | .tapExtestTrain captured tdi => Sys2Proof.Machine.execTapExtestTrain captured tdi s
  | .tapBypass code => Sys2Proof.Machine.execTapBypass code s
  | .companionSymbolLock l place id => Sys2Proof.Machine.execCompanionSymbolLock l place id s
  | .audioPortFrameEdge p periods words => Sys2Proof.Machine.execAudioPortFrameEdge p periods words s
  | .systemSampleInstant => Sys2Proof.Machine.execSystemSampleInstant s
  | .eventForwardTimeout => Sys2Proof.Machine.execEventForwardTimeout s
  | .monSessionTimeout => Sys2Proof.Machine.execMonSessionTimeout s
  | .monUnknownCommand => Sys2Proof.Machine.execMonUnknownCommand s
  | .pcieConfigRequest bme mse msixEn mask d3hot => Sys2Proof.Machine.execPcieConfigRequest bme mse msixEn mask d3hot s
  | .mgeArpOrEchoRequest echo src target b => Sys2Proof.Machine.execMgeArpOrEchoRequest echo src target b s

end Sys2Proof.Machine
end

