-- ==== Sys2Proof/Machine/Step.lean ====
section
/-!
DEFINITION. One step of the block: the command at the front of the queue, or an idle cycle.
-/

namespace Sys2Proof.Machine

/-- The command at the front of the queue runs on the state with the queue's rest; with an empty queue a cycle passes. -/
def step (s : State) : Host.Outcome State Fault Refusal :=
  match s.pending with
  | [] => Sys2Proof.Machine.idleCycle s
  | i :: rest => Sys2Proof.Machine.exec i { s with pending := rest }

/-- The state with the command that a word spells at the front of its queue; as it was where the word spells none. -/
def State.withFetchWord (s : State) (nbits w : Nat) : State :=
  match decodeTableWord nbits w with
  | some i => { s with pending := i :: s.pending }
  | none => s

end Sys2Proof.Machine
end

