-- ==== Sys2Proof/Safety.lean ====
section
/-!
DEFINITION. What holds in every state that a run reaches, in the terms that the statements use.
-/

namespace Sys2Proof.Machine

/-- Memory, the flash and both register sets are in canonical form, so that equal contents are equal data. -/
def State.canonical (s : State) : Prop :=
  Memory.wf s.mem = true ∧ sWf flashDefault 0 s.flash = true ∧ sWf resetReg 0 s.regs = true ∧ sWf resetReg 0 s.act = true

/-- The stores of `t` other than its registers are those of `s`: every byte of memory reads the same, and the flash and the active
register set are the same. -/
def State.sameStores (s t : State) : Prop := (∀ a, t.byte a = s.byte a) ∧ t.flash = s.flash ∧ t.act = s.act

/-- The registers of `t` are those of `s` but for those that `p` names. -/
def State.sameRegs (s t : State) (p : Nat → Prop) : Prop := ∀ o, ¬ p o → t.rd o = s.rd o

/-- R614, R624: the occurrence of event source `n` is pending in EVT_PEND. -/
def State.pends (s : State) (n : Nat) : Prop := s.bit (Reg.EVT_PEND (n / 32)) (n % 32) = true

/-- The register window of EVT, which every occurrence of an event writes. -/
abbrev evtWindow (o : Nat) : Prop := o / 0x10000 = 3

/-- What a write to memory may change among the registers: the books of granules (R566, R578), the count of address errors (R552)
and, with its event, the window of EVT. -/
abbrev memRegs (o : Nat) : Prop := evtWindow o ∨ o = Reg.MEC_GRAN_VALID ∨ o = Reg.MEC_FILLS ∨ o = Reg.DMC_ADDR_ERR

/-- R265: byte `a` of memory lies where samples from sample `x` of line `y` of a plane in buffer `k` of slot `n` are stored. -/
def State.inSamples (s : State) (n : Fin 16) (k plane y x : Nat) (vs : List Nat) (a : Nat) : Prop :=
  s.samplePlace n k plane y x ≤ a ∧
    a < s.samplePlace n k plane y x + (vs.flatMap (storedSample (s.srcLayout n) (s.srcDepth n))).length

/-- R265: byte `a` of memory lies where a picture in buffer `k` of slot `n` is stored. -/
def State.inPicture (s : State) (n : Fin 16) (k : Nat) (x : Samples) (a : Nat) : Prop :=
  if 2 ≤ s.srcLayout n then
    ∃ l ∈ ((x.c0.zip (x.c1.zip x.c2)).map (fun l => quadUp l.1 l.2.1 l.2.2)).zipIdx, s.inSamples n k 0 l.2 0 l.1 a
  else (∃ l ∈ x.c0.zipIdx, s.inSamples n k 0 l.2 0 l.1 a) ∨
    ∃ l ∈ ((x.c1.zip x.c2).map (fun l => pairUp l.1 l.2)).zipIdx, s.inSamples n k 1 l.2 0 l.1 a

/-- R254, R258, R265: byte `a` of memory lies where a sample row of a packet in buffer `k` of slot `n` is stored. -/
def State.inRow (s : State) (n : Fin 16) (k : Nat) (r : SampleRow) (a : Nat) : Prop :=
  ∀ y, y = (if s.bitA (Reg.INP_SRC_FMT n.val) 26 then 2 * r.line + b2n r.second else r.line) →
    if 2 ≤ s.srcLayout n then s.inSamples n k 0 y (4 * r.offset) (quadUp r.c0 r.c1 r.c2) a
    else s.inSamples n k 0 y r.offset r.c0 a ∨
      s.inSamples n k 1 (if s.srcLayout n = 1 then y / 2 else y) (2 * (r.offset / 2)) (pairUp r.c1 r.c2) a

/-- R256, R274: a frame that ends at slot `n` shows the configured format, from links that lie within the skew. -/
def State.frameFits (s : State) (n : Fin 16) (f : SrcFrame) : Bool := !s.formatDiffers n f && !(s.srcKind n == 1 && decide (2 < f.skew))

/-- R256, R273: a frame that fits has CRC errors, and the slot drops such frames. -/
def State.crcDrops (s : State) (n : Fin 16) (f : SrcFrame) : Bool :=
  f.crcLines.toList.any (fun c => c != 0) && s.bitA (Reg.INP_SRC_CTL n.val) 24

/-- R371, R388: where the frame that a tile corrects now is stored: the write buffer as it was started, or, before its first pixel,
where it will start. -/
def State.frameStore (s : State) : Nat :=
  if s.cor.next = 0 then s.storeBase s.writeBuf
  else (s.cor.buf.get s.writeBuf).addr

/-- R388: byte `a` of memory lies in the frame that a tile corrects now. -/
def State.inFrameStore (s : State) (a : Nat) : Prop :=
  s.frameStore ≤ a ∧ a < s.frameStore + 2 * (s.geo.panelW * s.geo.panelH * s.geo.e)

/-- The registers in which a tile shows the checks of its watch regions (R357, R361). -/
abbrev tileWatchRegs (o : Nat) : Prop :=
  ∃ i, o = Reg.SCN_TW_STATUS i ∨ o = Reg.SCN_TW_SIG_T1 i ∨ o = Reg.SCN_TW_SIG_T2 i ∨ o = Reg.SCN_TW_SIG_T3 i ∨ o = Reg.SCN_TW_MISMATCH i

/-- R405, R439: from `s` the access that a write of `v` to FUR_ACC_CTL asks for has been taken, or turned away, in `t`. -/
def State.accessDoes (s : State) (write : Bool) (v : Word) (t : State) : Prop :=
  (∀ code, (s.laneOn (bits v.toNat 13 8) = false ∧ code = Code.REFUSED) ∨
      (s.laneOn (bits v.toNat 13 8) = true ∧ s.laneState (bits v.toNat 13 8) = Lane.lost ∧ code = Code.FAULT) ∨
      (s.laneOn (bits v.toNat 13 8) = true ∧ s.laneState (bits v.toNat 13 8) ≠ Lane.lost ∧ (write && v.toNat.testBit 3) = false ∧
        s.fld (Reg.FUR_LANE_STATUS (bits v.toNat 13 8)) 21 16 ≤ bits v.toNat 21 16 ∧ code = Code.REFUSED) →
    t.bit Reg.FUR_ACC_CTL 31 = false ∧ t.fld Reg.FUR_ACC_CTL 30 27 = code ∧ t.pends Ev.accessDone ∧ t.fur = s.fur ∧
      t.rd Reg.GLB_CMD_COMPLETED = s.rd Reg.GLB_CMD_COMPLETED + 1 ∧ t.rd Reg.GLB_CMD_PENDING = s.rd Reg.GLB_CMD_PENDING) ∧
  (s.laneOn (bits v.toNat 13 8) = true → s.laneState (bits v.toNat 13 8) ≠ Lane.lost →
    ((write && v.toNat.testBit 3) = true ∨ bits v.toNat 21 16 < s.fld (Reg.FUR_LANE_STATUS (bits v.toNat 13 8)) 21 16) →
    t.bit Reg.FUR_ACC_CTL 31 = true ∧ t.rd Reg.GLB_CMD_PENDING = s.rd Reg.GLB_CMD_PENDING + 1 ∧
    ∃ o : FurOp, t.fur.ops = s.fur.ops ++ [o] ∧ o.kind = .access ∧ o.lane = bits v.toNat 13 8 ∧ o.fails = 0 ∧
      o.pkt = (if write then writePkt (v.toNat.testBit 3) (bits v.toNat 21 16) (s.fld Reg.FUR_ACC_ADDR 15 0)
          ((List.range (bits v.toNat 25 24 + 1)).map (fun i => s.rd (Reg.FUR_ACC_DATA i)))
        else readPkt (bits v.toNat 21 16) (s.fld Reg.FUR_ACC_ADDR 15 0) (bits v.toNat 25 24 + 1)) ∧
      t.out = s.out ++ [.furrow (bits v.toNat 13 8) (o.pkt.bytes (s.laneSeq (bits v.toNat 13 8)))]) ∧
  t.rd Reg.GLB_CMD_POSTED = s.rd Reg.GLB_CMD_POSTED + 1 ∧ s.sameStores t ∧
  s.sameRegs t (fun o => evtWindow o ∨ o = Reg.FUR_ACC_CTL ∨ o = Reg.GLB_CMD_POSTED ∨ o = Reg.GLB_CMD_PENDING ∨ o = Reg.GLB_CMD_COMPLETED)

/-- R430, R439: from `s` a lane has entered loop-lost in `t`. -/
def State.loopIsLost (s : State) (l : Nat) (t : State) : Prop :=
  t.laneState l = Lane.lost ∧ t.pends Ev.laneLost ∧ (∀ o ∈ t.fur.ops, o ∈ s.fur.ops ∧ o.lane ≠ l) ∧
    ((∃ o ∈ s.fur.ops, o.kind = .access ∧ o.lane = l) →
      t.bit Reg.FUR_ACC_CTL 31 = false ∧ t.fld Reg.FUR_ACC_CTL 30 27 = Code.FAULT ∧ t.pends Ev.accessDone ∧
        t.rd Reg.GLB_CMD_COMPLETED = s.rd Reg.GLB_CMD_COMPLETED + 1) ∧
    s.sameStores t ∧ s.sameRegs t (fun o => evtWindow o ∨ o = Reg.TMB_TB_FREQ 6 ∨ o = Reg.FUR_LANE_STATUS l ∨ o = Reg.FUR_ACC_CTL ∨
      o = Reg.GLB_CMD_PENDING ∨ o = Reg.GLB_CMD_COMPLETED)

/-- The registers of LMP: its window, and the counts and blanking bits of every group (R465). -/
abbrev lampRegs (o : Nat) : Prop := o / 0x10000 = 0xE ∨ ∃ g, o = Reg.LMP_GCNT g ∨ o = Reg.LMP_BLANKED (g / 32)

/-- What a companion's command leaves as it was: every register, memory, the flash, the active set, LMP and every other companion. -/
def State.onlyComp (s t : State) (l place : Fin 64) : Prop :=
  t.regs = s.regs ∧ s.sameStores t ∧ t.lmp = s.lmp ∧
    ∀ l' place', compKeyOf l' place' ≠ compKeyOf l place → t.comp l' place' = s.comp l' place'

/-- The same but for the miss of a TEST (R447, R448): LMP_TEST_MISSED and its event. -/
def State.onlyCompTest (s t : State) (l place : Fin 64) : Prop :=
  s.sameStores t ∧ s.sameRegs t (fun o => evtWindow o ∨ o = Reg.LMP_TEST_MISSED) ∧
    ∀ l' place', compKeyOf l' place' ≠ compKeyOf l place → t.comp l' place' = s.comp l' place'

/-- R520: the registers of the eight ASRC engines, and the states that AUD shows for its ports. -/
abbrev asrcRegs (o : Nat) : Prop := Reg.AUD_ASRC_STATUS 0 ≤ o ∧ o < Reg.AUD_ASRC_STATUS 8
abbrev audPortRegs (o : Nat) : Prop := ∃ p, p < 16 ∧ o = Reg.AUD_PORT_STATUS p

/-- The registers in which DMC and MEC keep their books: their windows and that of EVT, with the count of poisoned completions (R687) and
the running mode, which a failed group changes (R527). -/
abbrev dramRegs (o : Nat) : Prop :=
  evtWindow o ∨ o / 0x10000 = 0x11 ∨ o / 0x10000 = 0x12 ∨ o = Reg.PCI_POISON_TX ∨ o = Reg.GLB_STATE

/-- The registers in which DMC keeps its books of a group's issued requests (R535, R542, R544, R553), with those of the write itself. -/
abbrev issueRegs (g : Fin 2) (req o : Nat) : Prop :=
  memRegs o ∨ o = Reg.MEC_RMW ∨ o = Reg.DMC_REQ_BYTES req ∨ o = Reg.DMC_GRP_URG_MAX g.val ∨ o = Reg.DMC_GRP_RFM g.val ∨
    o = Reg.DMC_GRP_RH_PEAK g.val ∨ o = Reg.DMC_GRP_OFFENDER g.val ∨ o = Reg.DMC_THROTTLED

/-- R612, R613, R621, R623: from `s` up to `n` undrained entries have been copied to the DRAM ring in `t`, or cannot be. -/
def State.drained (s : State) (n : Nat) (t : State) : Prop :=
  (s.dramRingSize < s.dramRingHeld + n → s.bit Reg.EVT_CTL 2 = false →
    t.evt = s.evt ∧ s.sameStores t ∧ s.sameRegs t (fun o => o = Reg.EVT_STATUS)) ∧
  ((s.dramRingHeld + n ≤ s.dramRingSize ∨ s.bit Reg.EVT_CTL 2 = true) →
    t.rd Reg.EVT_GRING_DRAINED = s.rd Reg.EVT_GRING_DRAINED + BitVec.ofNat 32 n ∧
    t.rd Reg.EVT_DRAM_WR = s.rd Reg.EVT_DRAM_WR + BitVec.ofNat 32 n ∧
    t.rd Reg.EVT_DRAM_RD = (if s.dramRingHeld + n ≤ s.dramRingSize then s.rd Reg.EVT_DRAM_RD else s.rd Reg.EVT_DRAM_RD + 8) ∧
    t.rd Reg.EVT_OVERWRITTEN = (if s.dramRingHeld + n ≤ s.dramRingSize then s.rd Reg.EVT_OVERWRITTEN else s.rd Reg.EVT_OVERWRITTEN + 8) ∧
    t.evt.gring = s.evt.gring ∧
    (∀ a l, a = s.addr Reg.EVT_DRAM_BASE_LO + 32 * ((s.rd Reg.EVT_DRAM_WR).toNat % s.dramRingSize) →
      l = (List.range n).flatMap (fun i => s.ledgerEntry ((s.rd Reg.EVT_GRING_DRAINED).toNat + i)) →
      (l ≠ [] → s.memOk a = true → s.memOk (a + l.length - 1) = true → ∀ i, i < l.length → t.byte (a + i) = l.getD i 0) ∧
      (∀ x, ¬ (a ≤ x ∧ x < a + l.length) → t.byte x = s.byte x)) ∧
    t.flash = s.flash ∧ t.act = s.act ∧ s.sameRegs t memRegs)

/-- R618: from `s` an occurrence that waited to be forwarded has been given up in `t`. -/
def State.forwardGone (s t : State) : Prop :=
  (t.rd Reg.EVT_FWD_DROP).toNat = min 0xFFFFFFFF ((s.rd Reg.EVT_FWD_DROP).toNat + 1) ∧ t.evt.fwdDropRaised = true ∧
    (s.evt.fwdDropRaised = false → t.pends Ev.forwardDrop) ∧
    (s.evt.fwdDropRaised = true → s.sameRegs t (fun o => o = Reg.EVT_FWD_DROP)) ∧
    s.sameStores t ∧ s.sameRegs t evtWindow

/-- R568, R578: what a read, or the background scrub, of a Granary word leaves in `t` that had `flips` wrong bits in `s`: `off` is the word's
place. -/
def State.granaryMeets (s : State) (off flips : Nat) (t : State) : Prop :=
  ((s.live = false ∨ flips = 0 ∨ s.memOk (granaryBase + off) = false) → t = s) ∧
  (s.live = true → s.memOk (granaryBase + off) = true →
    (flips = 1 → t = s.inc Reg.MEC_GRN_CE) ∧
    (flips = 2 → (t.rd Reg.MEC_GRN_UE).toNat = min 0xFFFFFFFF ((s.rd Reg.MEC_GRN_UE).toNat + 1) ∧
      t.rd Reg.MEC_GRN_LAST = BitVec.ofNat 32 off ∧ t.pends Ev.granaryUncorrectable ∧
      (0x800000 ≤ off → off < 0x800000 + s.dramCap / 32768 → t.pends Ev.bitmapEcc ∧
        ∀ i, i < 64 → (off - 0x800000) / 8 * 64 + i < s.granules → t.mec.valid.contains ((off - 0x800000) / 8 * 64 + i) = true) ∧
      s.sameStores t ∧
      s.sameRegs t (fun o => evtWindow o ∨ o = Reg.MEC_GRN_UE ∨ o = Reg.MEC_GRN_LAST ∨ o = Reg.MEC_GRAN_VALID)) ∧
    (3 ≤ flips → (∀ a, ¬ (granaryBase + off ≤ a ∧ a < granaryBase + off + 8) → t.byte a = s.byte a) ∧ t.flash = s.flash ∧ t.act = s.act ∧
      s.sameRegs t (fun o => evtWindow o ∨ o = Reg.MEC_GRN_CE ∨ o = Reg.MEC_GRN_UE ∨ o = Reg.MEC_GRN_LAST ∨ o = Reg.MEC_GRAN_VALID)))

/-- R616, R669: whether the masks and enables let the message of MSI-X vector `v` go out. -/
def State.msixOpen (s : State) (v : Nat) : Bool :=
  s.pci.bme && s.pci.msixEn && !s.pci.msixMask && !s.bit (Reg.PCI_MSIX_VCTL v) 0

/-- R616, R669: what a message of vector `v` does on its way out, from `s` to `t`: it is sent, or its pending bit is set; with a holdoff
time set, its holdoff begins. -/
def State.goesOut (s : State) (v : Nat) (t : State) : Prop :=
  (s.msixOpen v = true → t.out = s.out ++ [.msix v (s.rd64 (Reg.PCI_MSIX_ADDR_LO v)) (s.rd (Reg.PCI_MSIX_DATA v))] ∧ t.regs = s.regs) ∧
  (s.msixOpen v = false → t.out = s.out ∧ t.bit (Reg.PCI_MSIX_PBA (v / 32)) (v % 32) = true ∧
    ∀ j, j < 32 → j ≠ v % 32 → t.bit (Reg.PCI_MSIX_PBA (v / 32)) j = s.bit (Reg.PCI_MSIX_PBA (v / 32)) j) ∧
  t.evt.holdoff.contains v = !decide (s.fld Reg.EVT_IRQ_CTL 15 0 = 0)

/-- R599, R654, R655: from `s` the cause and the deferral are recorded in `t`, unless a record waits to be reported. -/
def State.recorded (s : State) (cause us : Nat) (t : State) : Prop :=
  ((s.bit Reg.AON_RET0 31 && !s.bit Reg.AON_RET0 30) = true → t.rd Reg.AON_RET0 = s.rd Reg.AON_RET0 ∧
    t.rd Reg.AON_RET1 = s.rd Reg.AON_RET1 ∧ t.rd Reg.AON_RET2 = s.rd Reg.AON_RET2 ∧ t.rd Reg.AON_RET3 = s.rd Reg.AON_RET3) ∧
  ((s.bit Reg.AON_RET0 31 && !s.bit Reg.AON_RET0 30) = false →
    t.rd Reg.AON_RET0 = BitVec.ofNat 32 (2 ^ 31 + us % 2 ^ 12 * 2 ^ 16 + cause) ∧ t.rd Reg.AON_RET1 = s.rd Reg.AON_SEC_LO ∧
    t.rd Reg.AON_RET2 = BitVec.ofNat 32 (s.fld Reg.AON_SEC_HI 15 0) ∧ t.rd Reg.AON_RET3 = BitVec.ofNat 32 s.glb.aonTemps)

/-- R80, R597, R654, R695, R697: from `s` a cause is recorded and every domain except AON is reset and held in `t`; what is outside them, and
AON's count, stay. -/
def State.resetBy (s : State) (cause us : Nat) (t : State) : Prop :=
  t.glb.held = true ∧ t.pending = s.pending ∧ t.flash = s.flash ∧ t.glb.fuses = s.glb.fuses ∧ (∀ a, t.byte a = 0) ∧
  (∀ o, o / 0x10000 ≠ 1 → t.rd o = resetReg o) ∧ t.rd Reg.AON_SUBSEC = BitVec.ofNat 32 s.aonSub ∧
  (∀ o, o / 0x10000 = 1 → o ≠ Reg.AON_RET0 → o ≠ Reg.AON_RET1 → o ≠ Reg.AON_RET2 → o ≠ Reg.AON_RET3 → o ≠ Reg.AON_SUBSEC → t.rd o = s.rd o) ∧
  s.recorded cause us t

/-- R597, R599, R655: the same with the thermal pin driven. -/
def State.recordedAndHeld (s : State) (cause us : Nat) (t : State) : Prop := s.resetBy cause us t ∧ t.glb.therm = true

/-- R5, R9, R661: an access on a path reaches the registers. -/
def State.carries (s : State) : Path → Bool
  | .pcie => s.role == 0 && s.pci.link && s.pci.mse
  | .mge => s.role == 0
  | .reach _ => s.role != 3
  | _ => true

/-- R104: no tick falls due within the next `k` TCLK cycles, so that what happens after them is the next event (log entry 4). -/
def State.clear (s : State) (k : Nat) : Prop := s.ticking = false ∨ k ≤ s.cyclesToTick

/-- R662, R687: a request of the host is unsupported: it is counted and answered so, and nothing else happens. -/
def State.unsupported (s t : State) : Prop :=
  (t.rd Reg.PCI_ERR_UR).toNat = min 0xFFFFFFFF ((s.rd Reg.PCI_ERR_UR).toNat + 1) ∧ t.out = s.out ++ [.tlp "UR" 0 []] ∧
    s.sameStores t ∧ s.sameRegs t (fun o => o = Reg.PCI_ERR_UR)

/-- The registers of BOOT/FWU, and those outside it that follow what runs: events, the running mode, the monitor's state and the records of
AON (R641, R649, R654, R656). -/
abbrev bootRegs (o : Nat) : Prop :=
  evtWindow o ∨ o / 0x10000 = 2 ∨ o = Reg.GLB_STATE ∨ o = Reg.DBG_MON_STATUS ∨ o = Reg.AON_RET0 ∨ o = Reg.AON_RET4

/-- R630: the slots, the sets and the data region of the flash hold in `t` what they hold in `s`: below them lies the journal. -/
def State.sameRegions (s t : State) : Prop := ∀ a, 0x1000000 ≤ a → sGet flashDefault t.flash a = sGet flashDefault s.flash a

/-- R645, R658: a configuration set is loaded in `t`. -/
def State.setLoaded (t : State) (chain : Bool) (n : Nat) : Prop :=
  t.boot.load = none ∧ t.bit Reg.GLB_STATE 25 = true ∧ t.bit Reg.BOOT_STATUS 26 = (n == 1) ∧ t.bit Reg.BOOT_STATUS 25 = chain ∧
    t.pends Ev.configLoaded

/-- R651: a fallback from `s` has begun in `t`: the trial is over, the control plane pauses and the previous slot is loaded. -/
def State.fallsBack (s t : State) : Prop :=
  t.boot.held = none ∧ t.boot.trialEnd = none ∧ t.inTrial = false ∧ t.pausedNow = true ∧
    t.boot.job = some (.fallBack (s.boot.before.getD (1 - s.fld Reg.BOOT_STATUS 31 31))) ∧ t.pends Ev.activate

/-- The registers in which update commands keep their books, with those of the time base that a pause leaves in holdover (R46, R646, R649). -/
abbrev updateRegs (o : Nat) : Prop :=
  bootRegs o ∨ o / 0x10000 = 4 ∨ o = Reg.GLB_CMD_POSTED ∨ o = Reg.GLB_CMD_PENDING ∨ o = Reg.GLB_CMD_COMPLETED ∨ o = Reg.GLB_CMD_DISCARDED

/-- R46, R646: the update command `u` has been posted from `s` and, in `t`, has completed with `code`. -/
def State.updateAnswered (s t : State) (u : Update) (code : Nat) : Prop :=
  t.fld Reg.BOOT_CMD_STAT 30 27 = code ∧ t.fld Reg.BOOT_CMD_STAT 7 0 = u.op ∧ t.rd Reg.GLB_CMD_PENDING = s.rd Reg.GLB_CMD_PENDING ∧
    (t.rd Reg.GLB_CMD_COMPLETED).toNat = ((s.rd Reg.GLB_CMD_COMPLETED).toNat + 1) % 2 ^ 32

/-- R46, R646: the update command `u` has been posted from `s` and, in `t`, is held and still pending. -/
def State.updateHeld (s t : State) (u : Update) : Prop :=
  t.boot.held = some u ∧ t.rd Reg.BOOT_CMD_STAT = BitVec.ofNat 32 (2 ^ 31 + u.op) ∧
    (t.rd Reg.GLB_CMD_PENDING).toNat = ((s.rd Reg.GLB_CMD_PENDING).toNat + 1) % 2 ^ 32 ∧ t.rd Reg.GLB_CMD_COMPLETED = s.rd Reg.GLB_CMD_COMPLETED

/-- R649: the device takes an update command at once. -/
def State.takesUpdate (s : State) : Prop := s.live = true ∧ s.pausedNow = false ∧ s.boot.held = none

/-- R46, R646, R649: the command `c` posts the update `u` in every state: what holds whatever its effect is. -/
def State.posts (s : State) (c : Instr) (u : Update) : Prop :=
  (s.live = false → exec c s = .next s) ∧
  (s.live = true → ∃ t, exec c s = .next t ∧ t.rd Reg.BOOT_CMD_OP = BitVec.ofNat 32 (u.op * 2 ^ 24 + u.region * 2 ^ 16 + u.arg) ∧
    t.rd Reg.BOOT_CMD_OFFSET = BitVec.ofNat 32 u.offset ∧ t.rd Reg.BOOT_CMD_LENGTH = BitVec.ofNat 32 u.length ∧
    t.rd Reg.BOOT_CMD_ID = BitVec.ofNat 32 u.id ∧ (t.rd Reg.GLB_CMD_POSTED).toNat = ((s.rd Reg.GLB_CMD_POSTED).toNat + 1) % 2 ^ 32 ∧
    (s.pausedNow = true → t.boot = { s.boot with waiting := s.boot.waiting ++ [u] } ∧
      (t.rd Reg.GLB_CMD_PENDING).toNat = ((s.rd Reg.GLB_CMD_PENDING).toNat + 1) % 2 ^ 32 ∧ s.sameStores t) ∧
    (s.pausedNow = false → s.boot.held.isSome = true → s.updateAnswered t u Code.BUSY ∧ t.boot = s.boot ∧ s.sameStores t) ∧
    (u.op ≠ 9 → ∀ a, t.byte a = s.byte a) ∧ (∀ a, dramBase ≤ a → t.byte a = s.byte a) ∧ s.sameRegions t ∧ t.act = s.act ∧
    s.sameRegs t updateRegs)

/-- R680: what a flash operation that ends leaves to the monitor: out of a pause, the lines that have waited run. -/
def State.afterFlash (s : State) : State := if s.pausedNow then s else s.linesRun

/-- R46, R646: the update command `u`, held in `s`, has completed in `t` with `code`. -/
def State.updateEnds (s t : State) (u : Update) (code : Nat) : Prop :=
  t.boot.held = none ∧ t.boot.job = none ∧ t.fld Reg.BOOT_CMD_STAT 30 27 = code ∧ t.fld Reg.BOOT_CMD_STAT 7 0 = u.op % 256 ∧
    (t.rd Reg.GLB_CMD_PENDING).toNat = ((s.rd Reg.GLB_CMD_PENDING).toNat + 0xFFFFFFFF) % 2 ^ 32 ∧
    (t.rd Reg.GLB_CMD_COMPLETED).toNat = ((s.rd Reg.GLB_CMD_COMPLETED).toNat + 1) % 2 ^ 32

/-- R658, R659: a flash operation has failed between `s` and `t`. -/
def State.flashFails (s t : State) : Prop :=
  (t.rd Reg.BOOT_FLASH_ERR).toNat = min 0xFFFFFFFF ((s.rd Reg.BOOT_FLASH_ERR).toNat + 1) ∧ t.pends Ev.flashError

/-- The registers in which a port and the exchange keep their books: the windows of EVT, SLK and SXQ, the queue descriptors but for
their Q_CTL and inbound base, the hop registers of TMB, the counts of what a write to memory meets, and the copy of TB0's rate that TB6
takes as time runs to a deadline (R72, R150). -/
abbrev linkRegs (o : Nat) : Prop :=
  o / 0x10000 = 3 ∨ o / 0x10000 = 5 ∨ o / 0x10000 = 6 ∨ (0x1000000 ≤ o ∧ o % 64 ≠ 0 ∧ o % 64 ≠ 0x10 ∧ o % 64 ≠ 0x14) ∨ o / 0x100 = 0x40A ∨
    o = Reg.MEC_GRAN_VALID ∨ o = Reg.MEC_FILLS ∨ o = Reg.DMC_ADDR_ERR ∨ o = Reg.TMB_TB_FREQ 6

/-- R188, R189: byte `a` of memory lies in the slot at in_tail of the inbound ring of queue `q`. -/
def State.inSlotAt (s : State) (q a : Nat) : Prop :=
  s.addr (Reg.Q_IN_BASE_LO q) + s.inTail q % s.inSlots q * s.slotBytes q ≤ a ∧
    a < s.addr (Reg.Q_IN_BASE_LO q) + s.inTail q % s.inSlots q * s.slotBytes q + s.slotBytes q

/-- R188: byte `a` of memory lies in the inbound ring of some queue. -/
def State.inRing (s : State) (a : Nat) : Prop :=
  ∃ q, s.addr (Reg.Q_IN_BASE_LO q) ≤ a ∧ a < s.addr (Reg.Q_IN_BASE_LO q) + s.inSlots q * s.slotBytes q

/-- What a command of a port or of the exchange leaves as it was: the registers outside `linkRegs`, the memory outside the inbound
rings, the flash and the active set. -/
def State.linkFrame (s t : State) : Prop :=
  s.sameRegs t linkRegs ∧ (∀ a, ¬ s.inRing a → t.byte a = s.byte a) ∧ t.flash = s.flash ∧ t.act = s.act

/-- R183, R195, R196: between `s` and `t` a reach request has completed with REFUSED, its outcome is kept, and no register that it names has
changed. -/
def State.reachRefused (s : State) (m : Msg) (t : State) : Prop :=
  t.sxq.outcomes.head? = some ⟨m.src, m.cmdId, 1, Code.REFUSED, reachResponse m.body Code.REFUSED []⟩ ∧
    t.rd Reg.GLB_CMD_COMPLETED = s.rd Reg.GLB_CMD_COMPLETED + 1 ∧ s.sameStores t ∧
    s.sameRegs t (fun o => (o = Reg.SXQ_EPOCH_REFUSED ∧ s.epochOk m = false) ∨ o = Reg.GLB_CMD_POSTED ∨ o = Reg.GLB_CMD_PENDING ∨
      o = Reg.GLB_CMD_COMPLETED)

/-- R14, R194, R196: between `s` and `t` a reach has written the word `v` to its register, of row `r` in the register map, and has completed with
OK. -/
def State.reachWrote (s : State) (m : Msg) (r : RegRow) (v : Word) (t : State) : Prop :=
  t.sxq.outcomes.head? = some ⟨m.src, m.cmdId, 1, Code.OK, reachResponse m.body Code.OK []⟩ ∧
    t.rd (reachOff m.body) = ((((s.rd (reachOff m.body) &&& ~~~(BitVec.ofNat 32 r.rw)) ||| (v &&& BitVec.ofNat 32 r.rw)) &&&
      ~~~(v &&& BitVec.ofNat 32 r.w1c)) ||| (v &&& BitVec.ofNat 32 r.w1s)) ∧ s.sameStores t ∧
    s.sameRegs t (fun o => o = reachOff m.body ∨ o = Reg.GLB_CMD_POSTED ∨ o = Reg.GLB_CMD_PENDING ∨ o = Reg.GLB_CMD_COMPLETED)

/-- R672, R674: between `s` and `t` the management port has sent a response to an address and UDP port, with a request's seq and cmd_id
and this body, and keeps it, as the newest of the last 64 responses for that address and port, in place of one with the same seq. -/
def State.replied (s t : State) (ip port seq cmdId : Nat) (body : List Byte) : Prop :=
  ∃ r, t.out = s.out ++ [.udp "response" ip port r] ∧ slice r 0 2 = beBytes 2 0x4357 ∧ slice r 2 2 = leBytes 2 seq ∧ r.getD 4 0 = 2 ∧
    slice r 8 4 = leBytes 4 cmdId ∧ r.drop 12 = body ∧
    t.mge.kept.filter (fun k => k.ip == ip && k.port == port) = { ip := ip, port := port, seq := seq, body := r } ::
      ((s.mge.kept.filter (fun k => k.ip == ip && k.port == port)).filter (fun k => k.seq != seq)).take 63 ∧
    t.mge.kept.filter (fun k => !(k.ip == ip && k.port == port)) = s.mge.kept.filter (fun k => !(k.ip == ip && k.port == port)) ∧
    t.mge.waiting = s.mge.waiting ∧ t.regs = s.regs ∧ s.sameStores t

/-- The registers that a read of device memory may change: the books of addresses outside the population, and of zero reads (R526, R565). -/
abbrev readRegs (o : Nat) : Prop := evtWindow o ∨ o = Reg.DMC_ADDR_ERR ∨ o = Reg.MEC_ZERO_READS

/-- R671 to R674, R689: what a datagram to the management port does: `c` is the command that brings it. -/
def State.datagramDoes (s : State) (c : Instr) (ip port dport : Nat) (b : List Byte) : Prop :=
  (s.mgeTakes dport = false → exec c s = .next s) ∧
  (s.mgeTakes dport = true → datagramBad b = true → ∃ t, exec c s = .next t ∧
    (t.rd Reg.MGE_RX_BAD).toNat = min 0xFFFFFFFF ((s.rd Reg.MGE_RX_BAD).toNat + 1) ∧ t.out = s.out ∧ t.mge = s.mge ∧ s.sameStores t ∧
    s.sameRegs t (fun o => o = Reg.MGE_RX_BAD)) ∧
  (s.mgeTakes dport = true → datagramBad b = false → s.notAllowed ip = true → ∃ t, exec c s = .next t ∧
    (t.rd Reg.MGE_RX_DENY).toNat = min 0xFFFFFFFF ((s.rd Reg.MGE_RX_DENY).toNat + 1) ∧ t.mge = { s.mge with denied := true } ∧
    (s.mge.denied = false → t.pends Ev.mgeDenied) ∧ (∀ k i p r, Output.udp k i p r ∈ t.out → Output.udp k i p r ∈ s.out) ∧ s.sameStores t ∧
    s.sameRegs t (fun o => evtWindow o ∨ o = Reg.MGE_RX_DENY)) ∧
  (s.mgeTakes dport = true → datagramBad b = false → s.notAllowed ip = false →
    (∀ k, s.mge.kept.find? (fun r => r.ip == ip && r.port == port && r.seq == dgSeq b) = some k → ∃ t, exec c s = .next t ∧
      t.out = s.out ++ [.udp "response" ip port k.body] ∧ (t.rd Reg.MGE_REPLAY).toNat = min 0xFFFFFFFF ((s.rd Reg.MGE_REPLAY).toNat + 1) ∧
      t.mge = s.mge ∧ s.sameStores t ∧ s.sameRegs t (fun o => o = Reg.MGE_REPLAY)) ∧
    (s.mge.kept.find? (fun r => r.ip == ip && r.port == port && r.seq == dgSeq b) = none →
      ∀ u body, u = s.inc Reg.MGE_RX_REQ → body = dgBody b →
      (dgRemote b = false → reachOp body ≠ 8 → reachOp body ≠ 9 → ∃ t, exec c s = .next t ∧
        (u.reachRun .mge body true).1.replied t ip port (dgSeq b) (dgCmd b) (u.reachRun .mge body true).2.2) ∧
      (dgRemote b = false → (reachOp body = 8 ∨ reachOp body = 9) → memOpMalformed body = true → ∃ t, exec c s = .next t ∧
        u.replied t ip port (dgSeq b) (dgCmd b) (reachResponse body Code.REFUSED [])) ∧
      (dgRemote b = false → reachOp body = 8 → memOpMalformed body = false → ∃ t v bs bad code, exec c s = .next t ∧
        u.memRead 0 (memOpAddr body) (4 * reachCount body) = (v, bs, bad) ∧ (code = Code.OK ∨ (bad = true ∧ code = Code.FAULT)) ∧
        (memOpAddr body < dramBase → bs = s.rdMem (memOpAddr body) (4 * reachCount body) ∧ bad = false) ∧
        v.replied t ip port (dgSeq b) (dgCmd b) (reachResponse body code (bytesWords (reachCount body) bs)) ∧ s.sameStores t ∧
        s.sameRegs t (fun o => readRegs o ∨ o = Reg.MGE_RX_REQ)) ∧
      (dgRemote b = false → reachOp body = 9 → memOpMalformed body = false → ∃ t, exec c s = .next t ∧
        (u.wrMem 0 (memOpAddr body) (slice body 12 (4 * reachCount body))).replied t ip port (dgSeq b) (dgCmd b) (reachResponse body Code.OK []) ∧
        (s.memOk (memOpAddr body) = true → s.memOk (memOpAddr body + 4 * reachCount body - 1) = true →
          ∀ i, i < 4 * reachCount body → t.byte (memOpAddr body + i) = (slice body 12 (4 * reachCount body)).getD i 0) ∧
        (∀ a, ¬ (memOpAddr body ≤ a ∧ a < memOpAddr body + 4 * reachCount body) → t.byte a = s.byte a) ∧ t.flash = s.flash ∧ t.act = s.act ∧
        s.sameRegs t (fun o => memRegs o ∨ o = Reg.MGE_RX_REQ)) ∧
      (dgRemote b = true → (isMemOp body = true ∨ s.mode ≠ 0) → ∃ t, exec c s = .next t ∧
        u.replied t ip port (dgSeq b) (dgCmd b) (reachResponse body Code.REFUSED [])) ∧
      (dgRemote b = true → isMemOp body = false → s.mode = 0 → s.routeTo (dgDevice b) = none → ∃ t, exec c s = .next t ∧
        (u.inc Reg.SXQ_NOROUTE).replied t ip port (dgSeq b) (dgCmd b) (reachResponse body Code.REFUSED [])) ∧
      (∀ p, dgRemote b = true → isMemOp body = false → s.mode = 0 → s.routeTo (dgDevice b) = some p → ∃ t, exec c s = .next t ∧
        t.out = s.out ∧ t.regs = u.regs ∧ s.sameStores t ∧ t.mge = { s.mge with waiting := s.mge.waiting ++
          [⟨ip, port, dgSeq b, dgCmd b, dgDevice b, body⟩] } ∧
        ∃ o : Outstanding, t.sxq.outstanding = s.sxq.outstanding ++ [o] ∧ o.cmdId = dgCmd b ∧ o.dst = dgDevice b ∧ o.cls = 0 ∧ o.port = p ∧
          o.via = some .mge)))

/-- R677: between `s` and `t` the monitor has printed these lines, the last line of a response with its code, and the prompt, and nothing
else has left the device. -/
def State.prints (s t : State) (lines : List String) (code : Nat) : Prop :=
  t.out = s.out ++ (lines ++ [endText code, "gelle> "]).map Output.uart

/-- R677, R680: between `s` and `t` a line has been refused, and nothing else has happened. -/
def State.lineRefused (s t : State) : Prop := s.prints t [] Code.REFUSED ∧ t.regs = s.regs ∧ t.mon = s.mon ∧ s.sameStores t

/-- R680, R687: after the writes of a line, which left `u`, the line has been counted, with its event, and answered with OK in `t`. -/
def State.writeCounted (u t : State) : Prop :=
  (t.rd Reg.DBG_MON_WRITES).toNat = min 0xFFFFFFFF ((u.rd Reg.DBG_MON_WRITES).toNat + 1) ∧ t.pends Ev.monWrite ∧
    (∃ l, t.out = u.out ++ l ++ [.uart "OK", .uart "gelle> "]) ∧ u.sameStores t ∧
    u.sameRegs t (fun o => evtWindow o ∨ o = Reg.DBG_MON_WRITES)

/-- R635, R642, R652, R678: a boot line has started the image of region `r` in `t`. -/
def State.bootStarted (s t : State) (r source : Nat) : Prop :=
  t.boot.running = true ∧ t.fld Reg.BOOT_STATUS 30 29 = source ∧ t.bit Reg.BOOT_STATUS 31 = (r == 1) ∧ t.mode = s.role ∧
    t.fld Reg.GLB_STATE 29 26 = 0 ∧ t.bit Reg.DBG_MON_STATUS 30 = false ∧ t.pends Ev.bootDone ∧
    ∃ l, t.out = s.out ++ l ++ [.uart "OK", .uart "gelle> "]

/-- R678 to R680: what a line of the monitor that is carried out from `s` leaves in `t`. -/
def State.lineDoes (s t : State) : MonLine → Prop
  | .id => s.prints t ([Reg.GLB_IDENT, Reg.GLB_UID 0, Reg.GLB_UID 1, Reg.GLB_UID 2, Reg.GLB_UID 3, Reg.GLB_STATE, Reg.BOOT_STATUS].map
      (fun o => wordText (s.peek o))) Code.OK ∧ t.regs = s.regs ∧ t.mon = s.mon ∧ s.sameStores t
  | .rd off n =>
    ((n = 0 ∨ 64 < n ∨ off % 4 ≠ 0) → s.lineRefused t) ∧
    (1 ≤ n → n ≤ 64 → off % 4 = 0 → s.prints t (wordLines (hexText 8) off (s.readWords .monitor off n).2) Code.OK ∧
      t.regs = (s.readWords .monitor off n).1.regs ∧ t.mon = s.mon ∧ s.sameStores t)
  | .wr off data =>
    ((s.bit Reg.DBG_MON_CTL 0 = true ∨ data = [] ∨ 16 < data.length ∨ off % 4 ≠ 0) → s.lineRefused t) ∧
    (s.bit Reg.DBG_MON_CTL 0 = false → data ≠ [] → data.length ≤ 16 → off % 4 = 0 → (s.writeWords .monitor off data).writeCounted t)
  | .mw off mask v =>
    ((s.bit Reg.DBG_MON_CTL 0 = true ∨ off % 4 ≠ 0) → s.lineRefused t) ∧
    (s.bit Reg.DBG_MON_CTL 0 = false → off % 4 = 0 → (s.maskedWrite .monitor off mask v).writeCounted t)
  | .mrd addr n =>
    ((n = 0 ∨ 64 < n ∨ addr % 4 ≠ 0) → s.lineRefused t) ∧
    (1 ≤ n → n ≤ 64 → addr % 4 = 0 → ∃ u bs bad code, s.memRead 0 addr (4 * n) = (u, bs, bad) ∧
      u.prints t (wordLines addrText addr (bytesWords n bs)) code ∧ (code = Code.OK ∨ (bad = true ∧ code = Code.FAULT)) ∧
      (addr < dramBase → bs = s.rdMem addr (4 * n) ∧ bad = false ∧ u = s) ∧ s.sameStores t ∧ s.sameRegs t readRegs)
  | .mwr addr data =>
    ((s.bit Reg.DBG_MON_CTL 0 = true ∨ data = [] ∨ 16 < data.length ∨ addr % 4 ≠ 0) → s.lineRefused t) ∧
    (s.bit Reg.DBG_MON_CTL 0 = false → data ≠ [] → data.length ≤ 16 → addr % 4 = 0 →
      (s.wrMem 0 addr (wordsBytes data)).writeCounted t ∧
      (s.memOk addr = true → s.memOk (addr + 4 * data.length - 1) = true →
        ∀ i, i < 4 * data.length → t.byte (addr + i) = (wordsBytes data).getD i 0) ∧
      (∀ a, ¬ (addr ≤ a ∧ a < addr + 4 * data.length) → t.byte a = s.byte a))
  | .remote idx op off n data =>
    ∀ wrong, wrong = (s.mode ≠ 0 ∨ (op = 1 ∧ (n = 0 ∨ 64 < n)) ∨ (op = 2 ∧ (data = [] ∨ 16 < data.length)) ∨ (op = 3 ∧ data.length ≠ 2) ∨
        (op ≠ 1 ∧ op ≠ 2 ∧ op ≠ 3) ∨ off % 4 ≠ 0 ∨ (op ≠ 1 ∧ s.bit Reg.DBG_MON_CTL 0 = true)) →
      (wrong → s.lineRefused t) ∧
      (¬ wrong → s.routeTo idx = none → s.prints t [] Code.REFUSED ∧ t.mon = s.mon ∧ s.sameStores t ∧
        (t.rd Reg.SXQ_NOROUTE).toNat = min 0xFFFFFFFF ((s.rd Reg.SXQ_NOROUTE).toNat + 1) ∧ s.sameRegs t (fun o => o = Reg.SXQ_NOROUTE)) ∧
      (∀ p, ¬ wrong → s.routeTo idx = some p → ∃ id, id < 2 ^ 32 ∧ t.out = s.out ∧ t.regs = s.regs ∧ s.sameStores t ∧
        t.mon = { s.mon with remote := s.mon.remote ++ [⟨id, idx,
          reachRequest op (if op = 1 then n else if op = 2 then data.length else 1) off (if op = 1 then [] else data)⟩] } ∧
        ∃ o : Outstanding, t.sxq.outstanding = s.sxq.outstanding ++ [o] ∧ o.cmdId = id ∧ o.dst = idx ∧ o.cls = 0 ∧ o.port = p ∧
          o.via = some .monitor)
  | .log n =>
    ((n = 0 ∨ 64 < n) → s.lineRefused t) ∧
    (1 ≤ n → n ≤ 64 → ∀ k base, k = min n (s.rd Reg.EVT_LOGGED).toNat → base = (s.rd Reg.EVT_LOGGED).toNat - k →
      s.prints t ((List.range k).map (fun i => bytesText (s.ledgerEntry (base + i)))) Code.OK ∧
      (t.rd Reg.EVT_PEEK_BASE).toNat = base ∧ t.mon = s.mon ∧ s.sameStores t ∧ s.sameRegs t (fun o => o = Reg.EVT_PEEK_BASE))
  | .load chain off len crc =>
    ((s.bit Reg.DBG_MON_CTL 0 = true ∨ s.loadOk chain off len = false) → s.lineRefused t) ∧
    (s.bit Reg.DBG_MON_CTL 0 = false → s.loadOk chain off len = true → t.out = s.out ++ [.uart "RDY"] ∧
      t.mon = { s.mon with load := some { chain := chain, off := off, len := len, crc := crc } } ∧ t.regs = s.regs ∧ s.sameStores t)
  | .bootSlot n =>
    ((s.bit Reg.DBG_MON_CTL 0 = true ∨ s.boot.running = true ∨ 1 < n ∨ s.role = 2) → s.lineRefused t) ∧
    (s.bit Reg.DBG_MON_CTL 0 = false → s.boot.running = false → n ≤ 1 → s.role ≠ 2 →
      (s.checkSlot n true = 0 → s.bootStarted t n 0) ∧
      (s.checkSlot n true ≠ 0 → t.boot = s.boot ∧ t.pends Ev.slotRejected ∧ (∀ a, t.byte a = s.byte a) ∧
        ∃ l, t.out = s.out ++ l ++ [.uart "ERR 4 REFUSED", .uart "gelle> "]) ∧
      (∀ a, dramBase ≤ a → t.byte a = s.byte a) ∧ t.flash = s.flash ∧ t.act = s.act ∧ s.sameRegs t bootRegs)
  | .bootChain =>
    ((s.bit Reg.DBG_MON_CTL 0 = true ∨ s.boot.running = true ∨ s.role ≠ 1) → s.lineRefused t) ∧
    (s.bit Reg.DBG_MON_CTL 0 = false → s.boot.running = false → s.role = 1 →
      (s.checkChain = 0 → s.bootStarted t 5 1) ∧
      (s.checkChain ≠ 0 → t.boot = s.boot ∧ t.pends Ev.slotRejected ∧ (∀ a, t.byte a = s.byte a) ∧
        ∃ l, t.out = s.out ++ l ++ [.uart "ERR 4 REFUSED", .uart "gelle> "]) ∧
      (∀ a, dramBase ≤ a → t.byte a = s.byte a) ∧ t.flash = s.flash ∧ t.act = s.act ∧ s.sameRegs t bootRegs)
  | .baud code =>
    (15 < code → s.lineRefused t) ∧
    (code ≤ 15 → s.prints t [] Code.OK ∧ t.fld Reg.DBG_UART_CTL 3 0 = code ∧ t.fld Reg.DBG_UART_CTL 31 4 = s.fld Reg.DBG_UART_CTL 31 4 ∧
      t.mon = s.mon ∧ s.sameStores t ∧ s.sameRegs t (fun o => o = Reg.DBG_UART_CTL))
  | .help => s.prints t ["id", "rd", "wr", "mw", "mrd", "mwr", "@", "log", "load", "boot", "baud", "help"] Code.OK ∧ t.regs = s.regs ∧
      t.mon = s.mon ∧ s.sameStores t
  | .unknown => s.lineRefused t

/-- R627, R677, R680, R687, R690: what a command that brings line `l` to the monitor does: nothing while the monitor takes no lines; it opens a
session; in a pause the line waits; otherwise it is carried out. -/
def State.lineRuns (s : State) (c : Instr) (l : MonLine) : Prop :=
  (s.monTakes = false → exec c s = .next s) ∧
  (s.monTakes = true → s.bit Reg.DBG_MON_STATUS 31 = false → ∃ u, exec c s = exec c u ∧ u.bit Reg.DBG_MON_STATUS 31 = true ∧
    u.pends Ev.monAttach ∧ u.monTakes = true ∧ u.mon = s.mon ∧ u.boot = s.boot ∧ u.tmb = s.tmb ∧ s.sameStores u ∧
    s.sameRegs u (fun o => evtWindow o ∨ o = Reg.DBG_MON_STATUS)) ∧
  (s.monTakes = true → s.bit Reg.DBG_MON_STATUS 31 = true → s.pausedNow = true →
    exec c s = .next { s with mon := { s.mon with waiting := s.mon.waiting ++ [l], lineAt := s.tmb.tclk } }) ∧
  (s.monTakes = true → s.bit Reg.DBG_MON_STATUS 31 = true → s.pausedNow = false →
    ∃ t, exec c s = .next t ∧ State.lineDoes { s with mon := { s.mon with lineAt := s.tmb.tclk } } t l)

/-- R684 to R686, R690: an instruction that takes the pins has been loaded from `s` in `t`: `outs` is what the test logic puts out. -/
def State.tapTakes (s : State) (code : Nat) (outs : List Output) (t : State) : Prop :=
  (∃ l, t.out = s.out ++ l ++ outs) ∧ t.tapIr = code ∧ t.testMode = true ∧ t.pends Ev.tapTest ∧ s.sameStores t ∧
    s.sameRegs t (fun o => evtWindow o ∨ o = Reg.DBG_TAP_STATUS)

/-- R684: between `s` and `t` the boundary register has been scanned: what TDI brought stands in the update stage. -/
def State.boundaryScanned (s : State) (tdi : BoundaryCells) (t : State) : Prop := t.mon = { s.mon with shift := tdi, update := tdi }

end Sys2Proof.Machine
end

