-- ==== Sys2Proof/Certificates/Slice0/Obligations.lean ====
section
/-!
DEFINITION. The statements for the provers.
-/

open Sys2Proof Sys2Proof.Machine

/-- A step with a command at the front of the queue is exec of that command on the state with the queue's rest (the queue is the
model's own; log entry 1). -/
def Obligations.StepRunsFront : Prop :=
  ∀ (c : Instr) (rest : List Instr) (s : State), s.pending = c :: rest → step s = exec c { s with pending := rest }

/-- With no command waiting a step is one TCLK cycle (log entry 4, DESIGN CHOICE): in reset nothing counts; out of reset and with no
tick to come, the cycle count advances by one; TB7, whose frequency word is zero (R71), advances by 1.25 ns = 5 × 2^40 units and TB6 by its
frequency word, which then takes TB0's (R72). -/
def Obligations.IdleStepIsOneCycle : Prop :=
  ∀ s : State, s.pending = [] →
    (s.live = false → step s = .next s) ∧
    (s.live = true → s.ticking = false →
      ∃ t, step s = .next t ∧ t.tmb.tclk = s.tmb.tclk + 1 ∧ t.tmb.tb[(7 : TbIx)].cnt = (s.tmb.tb[(7 : TbIx)].cnt + 5 * 2 ^ 40) % 2 ^ 74 ∧
        t.tmb.tb[(6 : TbIx)].cnt = (s.tmb.tb[(6 : TbIx)].cnt + (s.tbInc 6).toNat) % 2 ^ 74 ∧
        (s.canonical → t.rd (Reg.TMB_TB_FREQ 6) = s.rd (Reg.TMB_TB_FREQ 0)) ∧ t.pending = [] ∧ (∀ a, t.byte a = s.byte a) ∧
        (∀ o, o / 0x10000 ≠ 3 → o ≠ Reg.TMB_TB_FREQ 6 → t.rd o = s.rd o))

/-- The state after reset (log entries 1, 3 and 6): no command waits, the stores are in canonical form, and every register reads the
value of its register map. -/
def Obligations.ResetCanonical : Prop :=
  State.reset.canonical ∧ State.reset.pending = [] ∧ State.reset.live = false ∧ (∀ a, State.reset.byte a = 0) ∧
    (∀ o, State.reset.rd o = resetReg o) ∧ (∀ o, State.reset.rdA o = resetReg o)

/-- The invariant of the stores: whatever command is at the front of the queue, and in an idle cycle, a step keeps memory, the flash
and both register sets in canonical form, so that equal contents stay equal data. -/
def Obligations.StepKeepsCanonical : Prop :=
  ∀ s t : State, s.canonical → step s = .next t → t.canonical

/-- Every command completes, and exec has its effect on everything but the queue (log entry 1). -/
def Obligations.ExecKeepsQueue : Prop :=
  ∀ (c : Instr) (s : State), ∃ t, exec c s = .next t ∧ t.pending = s.pending

/-- R597, R654, R655, R695, R697: the resets from outside, PORST_N_ASSERT with any pulse and SUPPLY_MONITOR_RESET. (Whether a pulse from 1 to
10 µs resets is a free value, log entry 2.) -/
def Obligations.ResetsFromOutside : Prop :=
  ∀ s : State, s.canonical → s.live = true →
    (∀ lowNs : Nat, lowNs < 1000 → exec (.porstNAssert lowNs) s = .next s) ∧
    (∀ lowNs : Nat, 1000 ≤ lowNs → lowNs < 10000 → ∃ t, exec (.porstNAssert lowNs) s = .next t ∧ t.out = s.out ∧
      (s.resetBy 2 0 t ∨ (t.regs = s.regs ∧ t.glb = s.glb ∧ t.tmb = s.tmb ∧ t.pending = s.pending ∧ s.sameStores t))) ∧
    (∀ lowNs : Nat, 10000 ≤ lowNs → ∃ t, exec (.porstNAssert lowNs) s = .next t ∧ t.out = s.out ∧ s.resetBy 2 0 t) ∧
    (∃ t, exec .supplyMonitorReset s = .next t ∧ t.out = s.out ∧ s.resetBy 1 0 t)

/-- R2, R11, R59, R82, R110, R681: PORST_N_RELEASE, and the loss of VBAT (the seconds count goes on from a free value, log entry 2). -/
def Obligations.ReleaseAndVbat : Prop :=
  (∀ (role src : BitVec 2) (s : State), s.canonical → s.live = false →
    ∃ t, exec (.porstNRelease role src) s = .next t ∧ t.live = true ∧ t.role = role.toNat ∧ t.mode = role.toNat ∧
      t.out = s.out ++ .pin "THERM_N" true ::
        (ports.filter (fun p => portOn role.toNat p)).map (fun p => .training p Train.detect (s.trainSets p Train.detect)) ∧
      t.rd Reg.DBG_TAP_STATUS = 1 ∧ (∀ a, t.byte a = s.byte a) ∧ t.flash = s.flash ∧
      t.glb.fuses = s.glb.fuses) ∧
  (∀ (role src : BitVec 2) (s : State), s.live = true → exec (.porstNRelease role src) s = .next s) ∧
  (∀ s : State, s.canonical → ∃ t, exec .vbatLost s = .next t ∧ t.bit Reg.AON_SEC_HI 31 = false ∧
    (∀ o, o / 0x10000 = 1 → o ≠ Reg.AON_SEC_LO → o ≠ Reg.AON_SEC_HI → o ≠ Reg.AON_SUBSEC → t.rd o = resetReg o) ∧
    s.sameRegs t (fun o => o / 0x10000 = 1) ∧ s.sameStores t ∧ t.glb.aonLatch = none)

/-- R72, R112: TB_FREQ_WRITE. A write of TMB_TBn_FREQ presets both freq and integ; TB6 copies TB0's word in the next cycle; FREQ of TB6 and
TB7 is read-only. -/
def Obligations.TbFreqWritePresets : Prop :=
  ∀ (n : TbIx) (v : Word) (s : State), s.canonical → s.live = true →
    ∃ t, exec (.tbFreqWrite n v) s = .next t ∧ s.sameStores t ∧
      (n.val < 6 → t.rd (Reg.TMB_TB_FREQ n.val) = v ∧ (n.val = 0 → (t.advance 1).rd (Reg.TMB_TB_FREQ 6) = v) ∧
        t.tmb.tb[n].integ = sx 32 v.toNat ∧ t.tmb.tb[n].cnt = s.tmb.tb[n].cnt ∧
        s.sameRegs t (fun o => o = Reg.TMB_TB_FREQ n.val ∨ o = Reg.TMB_TB_SERVO_STATUS n.val)) ∧
      (6 ≤ n.val → t = s)

/-- R72, R89, R111: the entry into holdover, by the timeout, to which time runs unless a tick comes first, and by the write of mode 0b10. -/
def Obligations.ServoHoldover : Prop :=
  ∀ (n : TbIx) (s : State), s.canonical → s.live = true → n.val < 6 →
    (∀ announce : Bool, s.fld (Reg.TMB_TB_SERVO_CTL n.val) 1 0 = 1 →
      (s.clear (s.holdoverLeft n) → ∃ t, exec (.servoHoldoverTimeout n announce) s = .next t ∧ t.servo n = Servo.holdover ∧
        t.tmb.tclk = s.tmb.tclk + s.holdoverLeft n ∧
        (s.servo n ≠ Servo.holdover →
          t.rd (Reg.TMB_TB_FREQ n.val) = BitVec.ofNat 32 (tc 32 s.tmb.tb[n].integ) ∧ t.pends Ev.holdover) ∧
        (announce = true → n.val = 0 → s.servoSource 0 = 1 → t.pends Ev.announceTimeout) ∧ s.sameStores t ∧
        s.sameRegs t (fun o => evtWindow o ∨ o = Reg.TMB_TB_FREQ n.val ∨ o = Reg.TMB_TB_FREQ 6 ∨ o = Reg.TMB_TB_SERVO_STATUS n.val)) ∧
      (¬ s.clear (s.holdoverLeft n) → exec (.servoHoldoverTimeout n announce) s = .next s)) ∧
    (s.bit (Reg.TMB_TB_SERVO_CTL n.val) 8 = false →
      ∃ t, exec (.servoForceHoldover n) s = .next t ∧ t.fld (Reg.TMB_TB_SERVO_CTL n.val) 1 0 = 2 ∧
        (s.fld (Reg.TMB_TB_SERVO_CTL n.val) 1 0 ≠ 2 → t.servo n = Servo.holdover ∧
          (s.servo n ≠ Servo.holdover →
            t.rd (Reg.TMB_TB_FREQ n.val) = BitVec.ofNat 32 (tc 32 s.tmb.tb[n].integ) ∧ t.pends Ev.holdover)) ∧ s.sameStores t ∧
        s.sameRegs t (fun o => evtWindow o ∨ o = Reg.TMB_TB_FREQ n.val ∨ o = Reg.TMB_TB_SERVO_STATUS n.val ∨
          o = Reg.TMB_TB_SERVO_CTL n.val))

/-- R85, R86, R89, R113: SERVO_MEASUREMENT on each of TB0 to TB5: what nothing feeds, the step and the adjustment. (A clamped servo of TB2 to TB5
whose audio group runs then goes into holdover, R500, where freq is integ.) -/
def Obligations.ServoMeasurement : Prop :=
  ∀ (n : TbIx) (e : Int) (taken : Nat) (s : State), s.canonical → s.live = true → n.val < 6 →
    ((s.fld (Reg.TMB_TB_SERVO_CTL n.val) 1 0 ≠ 1 ∨ s.servoSource n = 0 ∨ taken < s.tmb.tb[n].changedAt) →
      exec (.servoMeasurement n e taken) s = .next s) ∧
    (s.fld (Reg.TMB_TB_SERVO_CTL n.val) 1 0 = 1 → s.servoSource n ≠ 0 → s.tmb.tb[n].changedAt ≤ taken →
      ∃ t, exec (.servoMeasurement n e taken) s = .next t ∧ s.sameStores t ∧
        t.rd (Reg.TMB_TB_OFFSET_LO n.val) = BitVec.ofNat 32 (tc 64 e) ∧
        (1000000 * 2 ^ 16 < e.natAbs → s.stepPermitted n = true →
          t.tmb.tb[n].cnt = tc 48 ((s.tmb.tb[n].cnt / 2 ^ 26 : Nat) + e) * 2 ^ 26 + s.tmb.tb[n].cnt % 2 ^ 26 ∧
          t.tmb.tb[n].integ = s.tmb.tb[n].integ ∧ t.pends Ev.step ∧ (s.servo n ≠ Servo.off → t.servo n = Servo.acquisition)) ∧
        (¬ (1000000 * 2 ^ 16 < e.natAbs ∧ s.stepPermitted n = true) →
          t.tmb.tb[n].cnt = s.tmb.tb[n].cnt ∧ (1000000 * 2 ^ 16 < e.natAbs → n.val = 1 → t.pends Ev.tb1Far) ∧
          t.tmb.tb[n].integ = clampI (-s.adjLimit n) (s.adjLimit n) (s.tmb.tb[n].integ +
            asr (e * (s.fld (Reg.TMB_TB_SERVO_GAIN n.val) 15 8 : Nat)) (s.fld (Reg.TMB_TB_SERVO_GAIN n.val) 4 0)) ∧
          (t.servo n ≠ Servo.holdover →
            t.rd (Reg.TMB_TB_FREQ n.val) = BitVec.ofNat 32 (tc 32 (clampI (-s.adjLimit n) (s.adjLimit n) (t.tmb.tb[n].integ +
              asr (e * (s.fld (Reg.TMB_TB_SERVO_GAIN n.val) 31 24 : Nat)) (s.fld (Reg.TMB_TB_SERVO_GAIN n.val) 20 16)))))))

/-- R90, R113: TB_SET on a time base that accepts it, on one that does not, and on TB6 and TB7, which have no servo. -/
def Obligations.TbSet : Prop :=
  ∀ (n : TbIx) (s : State), s.canonical → s.live = true →
    (s.setAccepted n = true → ∃ t, exec (.tbSet n) s = .next t ∧
      t.tmb.tb[n].cnt = ((s.rd (Reg.TMB_TB_SET_HI n.val)).toNat * 2 ^ 16 + s.fld (Reg.TMB_TB_SET_LO n.val) 31 16) * 2 ^ 26 ∧
      t.tmb.tb[n].integ = s.tmb.tb[n].integ ∧ t.pends Ev.step ∧ s.sameStores t) ∧
    (n.val < 6 → s.setAccepted n = false → ∃ t, exec (.tbSet n) s = .next t ∧ t.bit (Reg.TMB_TB_SERVO_STATUS n.val) 27 = true ∧
      t.tmb = s.tmb ∧ s.sameStores t ∧
      s.sameRegs t (fun o => o = Reg.TMB_TB_SERVO_STATUS n.val ∨ o = Reg.TMB_TB_SERVO_CTL n.val)) ∧
    (6 ≤ n.val → exec (.tbSet n) s = .next s)

/-- R80, R81, R657: the always-on seconds count. -/
def Obligations.AonSeconds : Prop :=
  ∀ s : State, s.canonical →
    (s.live = true → ∃ t, exec .aonSecLoadRequest s = .next t ∧ t.bit Reg.AON_SEC_CTL 0 = true ∧ s.sameStores t ∧
      s.sameRegs t (fun o => o = Reg.AON_SEC_CTL)) ∧
    (s.bit Reg.AON_SEC_CTL 0 = false → ∃ t, exec .aonSecondRollover s = .next t ∧ t.rd Reg.AON_SUBSEC = 0 ∧
      (t.rd Reg.AON_SEC_LO).toNat + 2 ^ 32 * t.fld Reg.AON_SEC_HI 15 0 =
        ((s.rd Reg.AON_SEC_LO).toNat + 2 ^ 32 * s.fld Reg.AON_SEC_HI 15 0 + 1) % 2 ^ 48 ∧
      t.bit Reg.AON_SEC_HI 31 = s.bit Reg.AON_SEC_HI 31 ∧ s.sameStores t ∧
      s.sameRegs t (fun o => o = Reg.AON_SUBSEC ∨ o = Reg.AON_SEC_LO ∨ o = Reg.AON_SEC_HI)) ∧
    (s.bit Reg.AON_SEC_CTL 0 = true → ∃ t, exec .aonSecondRollover s = .next t ∧ t.rd Reg.AON_SUBSEC = 0 ∧
      t.rd Reg.AON_SEC_LO = s.rd Reg.AON_SEC_SET_LO ∧
      t.rd Reg.AON_SEC_HI = BitVec.ofNat 32 (2 ^ 31 + s.fld Reg.AON_SEC_SET_HI 15 0) ∧ t.rd Reg.AON_SEC_CTL = 0 ∧
      (s.live = true → t.pends 18) ∧ s.sameStores t ∧
      s.sameRegs t (fun o => evtWindow o ∨ o = Reg.AON_SUBSEC ∨ o = Reg.AON_SEC_LO ∨ o = Reg.AON_SEC_HI ∨ o = Reg.AON_SEC_CTL))

/-- R91 to R93, R111, R116: the two PTP messages, on the port and in the domain of TMB_PTP_CTL. -/
def Obligations.PtpMessages : Prop :=
  ∀ s : State, s.canonical →
    (∀ m : PtpSync, s.ptpTakes m.port m.domain = true →
      ∃ t u : State, exec (.ptpSyncRx m) s = .next t ∧
        t = (if s.servoSource 0 = 1 then
          u.servoFeed 0 (sx 48 (tc 48 (diff48 (((m.sec * 1000000000 + m.ns) * 2 ^ 16 + m.frac) % 2 ^ 48) m.t2 + ptpMean s.tmb.ptp))) m.taken
          else u) ∧
        u.tmb = { s.tmb with ptpMaster := some m.master } ∧ u.rd Reg.TMB_PTP_LAST_SEC_LO = BitVec.ofNat 32 m.sec ∧
        u.rd Reg.TMB_PTP_LAST_SEC_HI = BitVec.ofNat 32 (m.sec / 2 ^ 32 % 2 ^ 16) ∧
        u.rd Reg.TMB_PTP_LAST_T2_LO = BitVec.ofNat 32 (stampOf 0 m.t2) ∧
        (s.tmb.ptpMaster.isSome = true → s.tmb.ptpMaster ≠ some m.master → u.pends Ev.ptpMaster) ∧
        (m.tlv ≠ [] → .toFirmware m.tlv ∈ u.out) ∧ s.sameStores u ∧
        s.sameRegs u (fun o => evtWindow o ∨ o = Reg.TMB_PTP_LAST_SEC_LO ∨ o = Reg.TMB_PTP_LAST_SEC_HI ∨ o = Reg.TMB_PTP_LAST_T2_LO ∨
          o = Reg.TMB_PTP_LAST_T2_LO + 4)) ∧
    (∀ m : PtpSync, s.ptpTakes m.port m.domain = false → exec (.ptpSyncRx m) s = .next s) ∧
    (∀ (port : Fin 2) (domain t1 t2 t3 t4 : Nat),
      (s.ptpTakes port domain = true → ∃ t, exec (.ptpDelayRespRx port domain t1 t2 t3 t4) s = .next t ∧
        t.tmb.ptp = (s.tmb.ptp ++ [sx 48 (tc 48 (diff48 t2 t1 + diff48 t4 t3))]).drop
          (s.tmb.ptp.length + 1 - max 1 (s.fld Reg.TMB_PTP_CTL 19 16)) ∧
        t.rd Reg.TMB_PTP_PATH_DELAY = BitVec.ofNat 32 (tc 32 (asr (ptpMean t.tmb.ptp) 8)) ∧ s.sameStores t ∧
        s.sameRegs t (fun o => o = Reg.TMB_PTP_PATH_DELAY)) ∧
      (s.ptpTakes port domain = false → exec (.ptpDelayRespRx port domain t1 t2 t3 t4) s = .next s))

/-- R94 to R96, R124, R131, R175: the hop-delay exchange on port `p`. -/
def Obligations.HopDelayExchange : Prop :=
  ∀ (p : Port) (s : State), s.canonical → s.live = true →
    (s.active p = true → s.upstreamPort = some p →
      ∃ t, exec .hopDelayInterval s = .next t ∧
        t.out = s.out ++ [.timing p 2 s.tmb.timingSeq[p] 0 (timingBlocks 2 s.tmb.timingSeq[p] 0)] ∧
        t.tmb.hop[p].req = some (s.tmb.timingSeq[p], s.tb48 6) ∧ t.regs = s.regs ∧ s.sameStores t) ∧
    (s.active p = true → ∀ (r : SetRx) (seq turn : Nat), r.ok = true →
      ∃ t x, exec (.delayReqRx p r seq turn) s = .next t ∧
        x = delayRespPayload (s.tb48 6) (s.tb48 6 + min turn (2000 * 2 ^ 16)) seq ∧
        ((s.mode = 0 ∨ s.isThrough p = true) →
          t.out = s.out ++ [.timing p 3 s.tmb.timingSeq[p] x (timingBlocks 3 s.tmb.timingSeq[p] x)]) ∧
        (¬ (s.mode = 0 ∨ s.isThrough p = true) → t.out = s.out) ∧
        (t.rd (Reg.SLK_BLOCK_ERR p.val)).toNat = min 0xFFFFFFFF ((s.rd (Reg.SLK_BLOCK_ERR p.val)).toNat + r.fillers.val) ∧
        s.sameRegs t (fun o => o = Reg.SLK_BLOCK_ERR p.val) ∧ s.sameStores t) ∧
    (s.active p = true → ∀ (r : SetRx) (seq a b c : Nat), r.ok = false →
      ∃ t, exec (.delayReqRx p r seq a) s = .next t ∧ exec (.delayRespRx p r seq b c) s = .next t ∧
        (t.rd (Reg.SLK_BLOCK_ERR p.val)).toNat = min 0xFFFFFFFF ((s.rd (Reg.SLK_BLOCK_ERR p.val)).toNat + r.fillers.val + 1) ∧
        t.tmb = s.tmb ∧ t.out = s.out ∧ s.sameRegs t (fun o => o = Reg.SLK_BLOCK_ERR p.val) ∧ s.sameStores t) ∧
    (s.active p = true → ∀ (r : SetRx) (seq t1 t2 t3 : Nat), r.ok = true → s.tmb.hop[p].req = some (seq, t1) →
      ∃ t, exec (.delayRespRx p r seq t2 t3) s = .next t ∧ t.tmb.hop[p].req = none ∧ s.sameStores t ∧
        (diff48 (s.tb48 6) t1 ≤ 10000 * 2 ^ 16 → diff48 t3 t2 ≤ 2000 * 2 ^ 16 →
          diff48 (s.tb48 6) t1 - diff48 t3 t2 ≤ 5000 * 2 ^ 17 →
          offMean s.tmb.hop[p].results (diff48 (s.tb48 6) t1 - diff48 t3 t2) = false →
          t.tmb.hop[p].results = (s.tmb.hop[p].results ++ [(diff48 (s.tb48 6) t1 - diff48 t3 t2).toNat]).drop
            (s.tmb.hop[p].results.length - 15) ∧ t.tmb.hop[p].invalidRun = 0) ∧
        ((10000 * 2 ^ 16 < diff48 (s.tb48 6) t1 ∨ 2000 * 2 ^ 16 < diff48 t3 t2 ∨
          5000 * 2 ^ 17 < diff48 (s.tb48 6) t1 - diff48 t3 t2 ∨
          offMean s.tmb.hop[p].results (diff48 (s.tb48 6) t1 - diff48 t3 t2) = true) → s.tmb.hop[p].invalidRun < 15 →
          t.tmb.hop[p].results = s.tmb.hop[p].results ∧ t.tmb.hop[p].invalidRun = s.tmb.hop[p].invalidRun + 1)) ∧
    (s.active p = true → ∀ (r : SetRx) (seq t2 t3 : Nat), r.ok = true → r.fillers = 0 →
      (∀ q t1 : Nat, s.tmb.hop[p].req = some (q, t1) → q ≠ seq) → exec (.delayRespRx p r seq t2 t3) s = .next s) ∧
    (s.tmb.hop[p].req.isSome = true → ∃ t, exec (.delayRespTimeout p) s = .next t ∧ t.tmb.hop[p].req = none ∧
        t.fld (Reg.TMB_HOP_STATUS p.val) 15 0 = min 65535 (s.fld (Reg.TMB_HOP_STATUS p.val) 15 0 + 1) ∧ s.sameStores t ∧
        (s.tmb.hop[p].invalidRun < 15 → t.tmb.hop[p].invalidRun = s.tmb.hop[p].invalidRun + 1 ∧
          t.tmb.hop[p].results = s.tmb.hop[p].results ∧ s.sameRegs t (fun o => o = Reg.TMB_HOP_STATUS p.val)) ∧
        (15 ≤ s.tmb.hop[p].invalidRun → t.tmb.hop[p].results = [] ∧ t.bit (Reg.TMB_HOP_STATUS p.val) 31 = false ∧ t.pends Ev.hopRange))

/-- R97 to R101, R106, R116, R124, R130: the SYNC block, as sender and tile send it downstream and as a device takes it, and SYNC_IN (when
sync_in_present changes: log entry 65, DESIGN CHOICE). -/
def Obligations.SyncBlocksAndSyncIn : Prop :=
  ∀ s : State, s.canonical → s.live = true →
    (∃ t, exec .syncInterval s = .next t ∧ t.regs = s.regs ∧ s.sameStores t ∧
      t.out = s.out ++ (s.downstream.filter (fun p => s.active p)).map (fun p =>
        .timing p 1 s.tmb.timingSeq[p] (syncPayload s.syncNow) (timingBlocks 1 s.tmb.timingSeq[p] (syncPayload s.syncNow)))) ∧
    (∀ (p : Port) (r : SetRx) (b : SyncBlock), s.active p = true → s.upstreamPort = some p → ¬ (s.mode = 0 ∧ s.kind p = 0) → r.ok = true →
      ∃ t, exec (.syncRx p r b) s = .next t ∧ t.tmb.hops = min 127 (b.hops + 1) ∧ s.sameStores t ∧
        (∀ n : TbIx, n.val < 2 → s.bit (Reg.TMB_HOP_STATUS p.val) 31 = true → s.servoSource n = 2 →
          s.fld (Reg.TMB_TB_SERVO_CTL n.val) 1 0 = 1 → s.tmb.tb[n].changedAt ≤ s.tmb.tclk →
          t.rd (Reg.TMB_TB_OFFSET_LO n.val) = BitVec.ofNat 32 (tc 64 (s.chainOffset p n (if n.val = 0 then b.tb0 else b.tb1)))) ∧
        (s.bit (Reg.TMB_HOP_STATUS p.val) 31 = false → t.tmb.tb = s.tmb.tb) ∧
        ((s.servoSource 1 ≠ 2 ∨ b.frameValid = false ∨ ((s.frameValid || s.tmb.armed) = true ∧ s.framesAgree b = true)) →
          t.tmb.nextTick = s.tmb.nextTick ∧ t.tmb.armed = s.tmb.armed ∧ t.rd Reg.GLB_FRAME = s.rd Reg.GLB_FRAME) ∧
        (s.servoSource 1 = 2 → b.frameValid = true →
          (((s.frameValid || s.tmb.armed) = true ∧ s.framesAgree b = false) ∨
            ((s.frameValid || s.tmb.armed) = false ∧ s.servo 1 = Servo.locked)) →
          t.tmb.nextTick = tickValue b.nextTickNs b.nextTickRem (periodDen b.rate) ∧ t.tmb.rate = b.rate ∧
          ((s.frameValid || s.tmb.armed) = true → t.pends Ev.frameMismatch) ∧
          (s.frameValid = true → t.rd Reg.GLB_FRAME = BitVec.ofNat 32 (b.nextFrame + 2 ^ 32 - 1)) ∧
          (s.frameValid = false → t.tmb.armed = true ∧ t.tmb.firstFrame = b.nextFrame))) ∧
    (∀ (p : Port) (r : SetRx) (b : SyncBlock), s.active p = true → r.ok = false →
      ∃ t, exec (.syncRx p r b) s = .next t ∧ t.tmb = s.tmb ∧
        (t.rd (Reg.SLK_BLOCK_ERR p.val)).toNat = min 0xFFFFFFFF ((s.rd (Reg.SLK_BLOCK_ERR p.val)).toNat + r.fillers.val + 1) ∧
        s.sameRegs t (fun o => o = Reg.SLK_BLOCK_ERR p.val) ∧ s.sameStores t) ∧
    (∃ t, exec .syncInEdge s = .next t ∧ t.rd Reg.TMB_SYNCIN_STAMP_LO = BitVec.ofNat 32 (s.stamp 1) ∧ t.tmb.syncInTb0 = s.stamp 0 ∧
      t.bit Reg.TMB_FRAME_STATUS 29 = true ∧ t.tmb.syncInLost = false ∧ (s.tmb.syncInLost = true → t.pends Ev.syncInBack) ∧ s.sameStores t ∧
      (s.servoSource 1 = 3 → s.fld (Reg.TMB_TB_SERVO_CTL 1) 1 0 = 1 → s.tmb.tb[(1 : TbIx)].changedAt ≤ s.tmb.tclk →
        t.rd (Reg.TMB_TB_OFFSET_LO 1) = BitVec.ofNat 32 (tc 64 s.syncInOffset)) ∧
      (s.servoSource 1 ≠ 3 → s.sameRegs t (fun o => evtWindow o ∨ o = Reg.TMB_SYNCIN_STAMP_LO ∨ o = Reg.TMB_SYNCIN_STAMP_LO + 4 ∨
        o = Reg.TMB_FRAME_STATUS))) ∧
    (s.mode = 0 → s.servoSource 1 = 3 → s.tmb.syncInLost = false →
      ∃ t, exec .syncInLost s = .next t ∧ t.tmb.syncInLost = true ∧ t.bit Reg.TMB_FRAME_STATUS 29 = false ∧
        t.servo 1 = (if s.fld (Reg.TMB_TB_SERVO_CTL 1) 1 0 = 1 then Servo.holdover else s.servo 1) ∧ t.pends Ev.syncInLost ∧ s.sameStores t)

/-- R72, R78, R102, R103, R105, R733 (the first audio edge: log entry 14, DESIGN CHOICE). -/
def Obligations.AlignAndFeeds : Prop :=
  ∀ s : State, s.canonical → s.live = true →
    (s.goAccepted = true → ∃ t, exec .frameAlignGo s = .next t ∧ t.tmb.armed = true ∧
      t.tmb.firstFrame = (s.rd Reg.TMB_FRAME_ALIGN_NUM).toNat ∧
      t.tmb.nextTick = tickValue (s.rd Reg.TMB_FRAME_ALIGN_NS).toNat (s.fld Reg.TMB_FRAME_ALIGN_REM 3 0) (periodDen s.rateNow) ∧
      t.bit Reg.TMB_FRAME_ALIGN_CTL 0 = true ∧ t.bit Reg.TMB_FRAME_STATUS 28 = false ∧ s.sameStores t ∧
      s.sameRegs t (fun o => o = Reg.TMB_FRAME_ALIGN_CTL ∨ o = Reg.TMB_FRAME_STATUS)) ∧
    (s.goAccepted = false → ∃ t, exec .frameAlignGo s = .next t ∧ t.bit Reg.TMB_FRAME_STATUS 28 = true ∧
      t.tmb = s.tmb ∧ s.sameStores t ∧ s.sameRegs t (fun o => o = Reg.TMB_FRAME_STATUS)) ∧
    (s.mode = 0 → s.servoSource 1 = 4 → ∃ t, exec .tb1OffsetFeed s = .next t ∧
      exec (.servoMeasurement 1 (sx 48 (tc 48 (diff48 (s.tb48 0) (s.tb48 1) + sx 32 (s.rdA Reg.TMB_FRAME_OFFSET).toNat * 2 ^ 16)))
        s.tmb.tclk) s = .next t) ∧
    (∀ (n : TbIx) (fs : Nat), 2 ≤ n.val → n.val ≤ 5 → s.servoSource n = 5 →
      audioRate (s.fld (Reg.TMB_TB_AUDIO n.val) 18 16) = some fs →
      (s.tmb.edge[n] = none ∨ (∃ e, s.tmb.edge[n] = some e ∧ e.den ≠ fs) →
        ∃ t, exec (.audioEdgeFeed n) s = .next t ∧ t.tmb.edge[n] = some { num := s.tb48 n * fs, den := fs } ∧ t.regs = s.regs ∧
          s.sameStores t) ∧
      (∀ e num, s.tmb.edge[n] = some e → e.den = fs →
        num = (e.num + max 1 (s.fld (Reg.TMB_TB_AUDIO n.val) 15 0) * 1000000000 * 2 ^ 16) % (2 ^ 48 * fs) →
        ∃ t u, exec (.audioEdgeFeed n) s = .next t ∧ u = s.modTmb (fun g => { g with edge := s.tmb.edge.set n (some { num := num, den := fs }) }) ∧
          exec (.servoMeasurement n (diff48 (num / fs) (s.tb48 n)) s.tmb.tclk) u = .next t)) ∧
    (∀ n : TbIx, s.tmb.tb[n].cnt < 2 ^ 74 → s.clear (s.cyclesToWrap n) → ∃ u, exec (.tbWrap n) s = .next u ∧
      u.tmb.tclk = s.tmb.tclk + s.cyclesToWrap n ∧
      (n.val ≠ 6 → u.tmb.tb[n].cnt = (s.tmb.tb[n].cnt + s.cyclesToWrap n * (s.tbInc n).toNat) % 2 ^ 74) ∧ u.pends Ev.wrap ∧
      (∀ a, u.byte a = s.byte a) ∧ s.sameRegs u (fun o => evtWindow o ∨ o = Reg.TMB_TB_FREQ 6))

/-- R14, R16, R28, R29, R670: REGISTER_WRITE. The windows named are those whose registers have no write effect of their own. -/
def Obligations.RegisterWrites : Prop :=
  (∀ (path : Path) (o : Nat) (v : Word) (r : RegRow) (s : State), s.canonical → s.live = true → s.carries path = true → o % 4 = 0 → o < viewBase →
    s.readable o = true → regRow? o = some r → o / 0x10000 ∈ [0xA, 0xB, 0xC, 0x10, 0x13, 0x14, 0x15] →
    ∃ t, exec (.registerWrite path o 4 v) s = .next t ∧
      t.rd o = ((((s.rd o &&& ~~~(BitVec.ofNat 32 r.rw)) ||| (v &&& BitVec.ofNat 32 r.rw)) &&& ~~~(v &&& BitVec.ofNat 32 r.w1c)) |||
        (v &&& BitVec.ofNat 32 r.w1s)) ∧
      s.sameRegs t (fun o' => o' = o) ∧ (∀ a, t.byte a = s.byte a) ∧ t.flash = s.flash ∧ (s.glb.bothSets = false → t.act = s.act)) ∧
  (∀ (path : Path) (o width : Nat) (v : Word) (s : State), s.live = true → s.carries path = true →
    (width ≠ 4 ∨ o % 4 ≠ 0 ∨ viewBase ≤ o ∨ s.readable o = false) → exec (.registerWrite path o width v) s = .next s) ∧
  (∀ (path : Path) (o width : Nat) (v : Word) (s : State), s.carries path = false → ¬ (path = .pcie ∧ s.role = 0 ∧ s.pci.link = true) →
    exec (.registerWrite path o width v) s = .next s) ∧
  (∀ (o : Nat) (v : Word) (s : State), s.canonical → s.live = true → s.role = 0 → s.pci.link = true → s.pci.mse = false → o % 4 = 0 →
    ∃ t, exec (.registerWrite .pcie o 4 v) s = .next t ∧ t.out = s.out ++ [.tlp "UR" 0 []] ∧
      t.rd Reg.PCI_ERR_UR = BitVec.ofNat 32 (min 0xFFFFFFFF ((s.rd Reg.PCI_ERR_UR).toNat + 1)) ∧
      s.sameRegs t (fun o' => o' = Reg.PCI_ERR_UR) ∧ s.sameStores t) ∧
  (∀ (cs : List Instr) (s : State), ∃ l, s.arrive cs = { s with pending := s.pending ++ l } ∧ l.Perm cs ∧
    l.Pairwise (fun c d => ∀ r q, accessRank c = some r → accessRank d = some q → r ≤ q) ∧
    ∀ o w v, accessRank (.registerWrite .pcie o w v) = some 0 ∧ accessRank (.registerWrite .mge o w v) = some 1 ∧
      (∀ n, accessRank (.registerWrite (.reach n) o w v) = some 3) ∧ accessRank (.registerWrite .monitor o w v) = some 4)

/-- R14, R17, R52, R53, R84: RC_READ and COUNTER_LOW_READ of `width` bytes from the byte at an offset: the bytes returned are those covered, the
register that is read is cleared whole or latches its high part, and events of the same cycle are applied after the clear, each to its
field. -/
def Obligations.ReadsWithEffects : Prop :=
  ∀ (path : Path) (off width word : Nat) (s : State), s.canonical → s.live = true → s.carries path = true →
    word = (viewOf (off / 4 * 4)).1 → s.readable word = true →
    (∀ events : List (Nat × Nat), readClears word = true →
      ∃ t u, exec (.rcRead path off width events) s = .next t ∧ t = events.foldl (fun s e => s.rcEvent word e) u ∧
        u.out = s.out ++ [.read path (BitVec.ofNat 32 ((s.peek (off / 4 * 4)).toNat / 2 ^ (8 * (off % 4)) % 2 ^ (8 * width)))] ∧
        u.rd word = BitVec.ofNat 32 ((s.rd word).toNat &&& rcKeep word) ∧ s.sameRegs t (fun o => o = word) ∧ s.sameStores t ∧ t.glb = s.glb ∧
        (∀ k, rcFields word = [(31, 0, false)] → rcKeep word = 0 → events = [(0, k)] → t.rd word = BitVec.ofNat 32 (min 0xFFFFFFFF k)) ∧
        (∀ k, word = Reg.GLB_COMMIT_COUNTS → events = [(16, k)] → t.fld word 31 16 = min 65535 k ∧ t.fld word 15 0 = 0)) ∧
    (latchesHigh word = true →
      ∃ t, exec (.counterLowRead path off width) s = .next t ∧
        t.out = s.out ++ [.read path (BitVec.ofNat 32 ((s.peek (off / 4 * 4)).toNat / 2 ^ (8 * (off % 4)) % 2 ^ (8 * width)))] ∧
        (∀ h : Fin 4, holdIx path = some h → t.glb.hold[h] = s.shown (word + 4) false ∧ (∀ i : Fin 4, i ≠ h → t.glb.hold[i] = s.glb.hold[i])) ∧
        (holdIx path = none → t.glb = s.glb) ∧ t.regs = s.regs ∧ s.sameStores t) ∧
    (word = Reg.AON_SEC_LO →
      ∃ t, exec (.counterLowRead path off width) s = .next t ∧
        t.out = s.out ++ [.read path (BitVec.ofNat 32 ((s.rd word).toNat / 2 ^ (8 * (off % 4)) % 2 ^ (8 * width)))] ∧
        t.glb.aonLatch = some (s.rd Reg.AON_SEC_HI, BitVec.ofNat 32 s.aonSub) ∧ t.glb.hold = s.glb.hold ∧ t.regs = s.regs ∧ s.sameStores t)

/-- R57 (with R54 and R66 for the start that is taken): SNAP_START, a write of GLB_SNAP_CTL with bit 8 set. -/
def Obligations.SnapStart : Prop :=
  ∀ (v : Word) (s : State), s.canonical → s.live = true → v.toNat.testBit 8 = true →
    ∃ t, exec (.snapStart v) s = .next t ∧ s.sameRegs t (fun o => o = Reg.GLB_SNAP_CTL) ∧ s.sameStores t ∧
      (s.bit Reg.GLB_SNAP_CTL 31 = true →
        t.bit Reg.GLB_SNAP_CTL 29 = true ∧ t.bit Reg.GLB_SNAP_CTL 31 = true ∧ t.fld Reg.GLB_SNAP_CTL 6 0 = s.fld Reg.GLB_SNAP_CTL 6 0 ∧
        t.bit Reg.GLB_SNAP_CTL 16 = s.bit Reg.GLB_SNAP_CTL 16 ∧ t.glb = s.glb) ∧
      (s.bit Reg.GLB_SNAP_CTL 31 = false → (bits v.toNat 6 0 = 0 ∨ 64 < bits v.toNat 6 0) →
        t.bit Reg.GLB_SNAP_CTL 30 = true ∧ t.bit Reg.GLB_SNAP_CTL 31 = false ∧ t.glb = s.glb) ∧
      (s.bit Reg.GLB_SNAP_CTL 31 = false → 1 ≤ bits v.toNat 6 0 → bits v.toNat 6 0 ≤ 64 →
        t.bit Reg.GLB_SNAP_CTL 31 = true ∧ t.fld Reg.GLB_SNAP_CTL 6 0 = bits v.toNat 6 0 ∧
        t.bit Reg.GLB_SNAP_CTL 16 = v.toNat.testBit 16 ∧ t.glb = { s.glb with snapArmed := true })

/-- R54, R55, R56: SNAP_CAPTURE of a capture started with at_tick = 0; a capture is started with a count of at most 64 (R57). -/
def Obligations.SnapCaptures : Prop :=
  ∀ s : State, s.canonical → s.live = true → s.glb.snapArmed = true → s.bit Reg.GLB_SNAP_CTL 16 = false →
    s.fld Reg.GLB_SNAP_CTL 6 0 ≤ 64 →
    ∃ t, exec .snapCapture s = .next t ∧
      t.rd Reg.GLB_SNAP_STAMP_LO = BitVec.ofNat 32 (s.stamp 0) ∧ t.rd Reg.GLB_SNAP_STAMP_HI = BitVec.ofNat 32 (s.stamp 0 / 2 ^ 32) ∧
      t.bit Reg.GLB_SNAP_CTL 31 = false ∧
      (∀ i, i < s.fld Reg.GLB_SNAP_CTL 6 0 →
        t.rd (Reg.GLB_SNAP_DATA i) = s.peek (s.fld (Reg.GLB_SNAP_LIST i) 27 0) ∧
        (isReg (viewOf (s.fld (Reg.GLB_SNAP_LIST i) 27 0)).1 = false → t.bit Reg.GLB_SNAP_CTL 30 = true)) ∧
      s.sameRegs t (fun o => o = Reg.GLB_SNAP_CTL ∨ o = Reg.GLB_SNAP_STAMP_LO ∨ o = Reg.GLB_SNAP_STAMP_HI ∨
        ∃ i, i < 64 ∧ o = Reg.GLB_SNAP_DATA i) ∧
      s.sameStores t ∧ t.glb = { s.glb with snapArmed := false }

/-- R121, R122, R124, R126 to R129, R133, R134: LANE_BLOCK_LOCK, MARKER_TX, SKIP_TX, MARKER_RX, SKIP_RX and CODE_WORD_RX. -/
def Obligations.SlkLanesAndUnits : Prop :=
  ∀ (p : Port) (s : State), s.canonical → s.live = true →
    (∀ lane : Fin 4, s.train p ≠ Train.disabled → ∃ t, exec (.laneBlockLock p lane) s = .next t ∧
      t.bit (Reg.SLK_STATUS p.val) lane.val = true ∧ s.sameRegs t (fun o => o = Reg.SLK_STATUS p.val) ∧ s.sameStores t) ∧
    (∀ left idle : Nat, Train.deskew ≤ s.train p → ∃ t, exec (.markerTx p left idle) s = .next t ∧
      t.out = s.out ++ [.marker p ((List.range 4).map (fun k => markerBlock k s.slk[p].markerCount (nextUnitOf left idle)))] ∧
      t.slk[p].markerCount = (s.slk[p].markerCount + 1) % 256 ∧ t.regs = s.regs ∧ s.sameStores t) ∧
    (Train.deskew ≤ s.train p → exec (.skipTx p) s = .next (s.emit (.skip p))) ∧
    (∀ (block : List Byte) (skew : Nat) (change : Elastic), s.train p ≠ Train.disabled → ∃ t, exec (.markerRx p block skew change) s = .next t ∧
      t.slk[p].elastic = (match change with | .keep => s.slk[p].elastic | .delete => s.slk[p].elastic - 1 | .duplicate => s.slk[p].elastic + 1) ∧
      (blockOk block = true → t.fld (Reg.SLK_STATUS p.val) 15 8 = skew % 256 ∧
        (markerNext block ≠ 0xFFFF → t.slk[p].unitLost = false ∧ (s.slk[p].unitLost = true → t.slk[p].rxLeft = markerNext block)) ∧
        (markerNext block = 0xFFFF → t.slk[p].unitLost = s.slk[p].unitLost) ∧
        s.sameRegs t (fun o => o = Reg.SLK_STATUS p.val)) ∧
      (blockOk block = false → (t.rd (Reg.SLK_BLOCK_ERR p.val)).toNat = min 0xFFFFFFFF ((s.rd (Reg.SLK_BLOCK_ERR p.val)).toNat + 1) ∧
        t.slk[p].unitLost = s.slk[p].unitLost ∧ s.sameRegs t (fun o => o = Reg.SLK_BLOCK_ERR p.val)) ∧ s.sameStores t) ∧
    (∀ (change : Elastic) (ok : Bool), s.train p ≠ Train.disabled → ∃ t, exec (.skipRx p change ok) s = .next t ∧
      t.rd (Reg.SLK_BLOCK_ERR p.val) = (if ok then s.rd (Reg.SLK_BLOCK_ERR p.val) else
        BitVec.ofNat 32 (min 0xFFFFFFFF ((s.rd (Reg.SLK_BLOCK_ERR p.val)).toNat + 1))) ∧
      t.slk[p].elastic = (match change with | .keep => s.slk[p].elastic | .delete => s.slk[p].elastic - 1 | .duplicate => s.slk[p].elastic + 1) ∧
      s.sameRegs t (fun o => o = Reg.SLK_BLOCK_ERR p.val) ∧ s.sameStores t) ∧
    (Train.fecLock ≤ s.train p → s.train p ≤ Train.active →
      (∀ (bad n : Nat) (units : List (List Byte)), n ≤ 16 → units.all boundaryOk = true →
        ∃ t, exec (.codeWordRx p bad n units) s = .next t ∧
        t.rd64 (Reg.SLK_FEC_CORR_LO p.val) = (s.rd64 (Reg.SLK_FEC_CORR_LO p.val) + n) % 2 ^ 64 ∧
        (t.rd (Reg.SLK_BLOCK_ERR p.val)).toNat = min 0xFFFFFFFF ((s.rd (Reg.SLK_BLOCK_ERR p.val)).toNat + bad) ∧
        t.slk[p] = (if s.slk[p].unitLost then s.slk[p] else units.foldl SlkPort.takeUnit s.slk[p]) ∧
        s.sameRegs t (fun o => o = Reg.SLK_FEC_CORR_LO p.val ∨ o = Reg.SLK_FEC_CORR_HI p.val ∨ o = Reg.SLK_BLOCK_ERR p.val) ∧ s.sameStores t) ∧
      (∀ (bad n : Nat) (u : List Byte) (rest : List (List Byte)), n ≤ 16 → s.slk[p].unitLost = false → s.slk[p].rxLeft = 0 → boundaryOk u = false →
        ∃ t, exec (.codeWordRx p bad n (u :: rest)) s = .next t ∧ t.slk[p].unitLost = true ∧ t.pends Ev.unitSyncLoss ∧
          (t.rd (Reg.SLK_UNIT_SYNC_LOSS p.val)).toNat = min 0xFFFFFFFF ((s.rd (Reg.SLK_UNIT_SYNC_LOSS p.val)).toNat + 1) ∧
          s.linkFrame t) ∧
      (∀ (bad n : Nat) (units : List (List Byte)), 16 < n → ∃ t, exec (.codeWordRx p bad n units) s = .next t ∧ s.linkFrame t ∧ s.sameStores t ∧
        (t.rd (Reg.SLK_FEC_UNCORR p.val)).toNat = min 0xFFFFFFFF ((s.rd (Reg.SLK_FEC_UNCORR p.val)).toNat + 1) ∧
        ((s.recentUncorr p).length < 3 → t.slk[p].unitLost = true ∧ t.train p = s.train p)))

/-- R121, R122, R124, R145, R159 to R163, R166 to R170, R734: TRAIN_STATE_ADVANCE, TRAIN_TIMEOUT, CONFIG_RETRY, LANE_BLOCK_LOCK_LOSS, TS1_RX,
SLK_RETRAIN, SLK_ENABLE_WRITE and CENSUS_PREFRAME_TIMER. -/
def Obligations.SlkTraining : Prop :=
  ∀ (p : Port) (s : State), s.canonical → s.live = true →
    (∀ i : TrainInfo, i.sets.toList.all blockOk = true → s.setsServe p i.sets = true →
      (s.train p = Train.detect → s.fld (Reg.SLK_STATUS p.val) 3 0 = 15 → ∃ t, exec (.trainStateAdvance p i) s = .next t ∧
        t.train p = Train.eq ∧ s.sameRegs t (fun o => o = Reg.SLK_STATUS p.val) ∧ s.sameStores t) ∧
      (s.train p = Train.eq → ∃ t, exec (.trainStateAdvance p i) s = .next t ∧ t.train p = Train.deskew ∧
        (∀ k : Fin 4, t.rd (Reg.SLK_RX_EQ p.val k.val) = i.rxEq[k]) ∧ s.linkFrame t) ∧
      (s.train p = Train.deskew → i.skewNs ≤ 20 → ∃ t, exec (.trainStateAdvance p i) s = .next t ∧ t.train p = Train.config ∧
        t.fld (Reg.SLK_STATUS p.val) 15 8 = i.skewNs ∧ t.bit (Reg.SLK_STATUS p.val) 28 = lanesReversed i.sets ∧
        t.fld (Reg.SLK_STATUS p.val) 27 24 = i.polarity.toNat ∧
        t.out = s.out ++ [.training p Train.config ((List.range 4).map (fun k => ts2Block k p.val s.role s.uid))] ∧
        s.sameRegs t (fun o => o = Reg.SLK_STATUS p.val) ∧ s.sameStores t) ∧
      (s.train p = Train.config → bits (peerVersionOf i.sets) 7 4 = bits linkVersion 7 4 → ∃ t, exec (.trainStateAdvance p i) s = .next t ∧
        t.train p = Train.fecLock ∧ t.slk[p].incompatible = false ∧ t.slk[p].peerSets = i.sets ∧
        s.sameRegs t (fun o => o = Reg.SLK_STATUS p.val) ∧ s.sameStores t) ∧
      (s.train p = Train.config → bits (peerVersionOf i.sets) 7 4 ≠ bits linkVersion 7 4 → ∃ t, exec (.trainStateAdvance p i) s = .next t ∧
        t.slk[p].incompatible = true ∧ t.regs = s.regs ∧ s.sameStores t)) ∧
    (∀ i : TrainInfo, s.train p = Train.fecLock → ∃ t, exec (.trainStateAdvance p i) s = .next t ∧ t.train p = Train.active ∧
      (∀ k, k < 4 → t.rd (Reg.SLK_PEER_UID p.val k) = BitVec.ofNat 32 (peerUidOf s.slk[p].peerSets / 2 ^ (32 * k))) ∧ s.linkFrame t) ∧
    (∀ i : TrainInfo, i.sets.toList.all blockOk = false → Train.detect ≤ s.train p → s.train p ≤ Train.config →
      ∃ t, exec (.trainStateAdvance p i) s = .next t ∧ t.slk = s.slk ∧
        (t.rd (Reg.SLK_BLOCK_ERR p.val)).toNat =
          min 0xFFFFFFFF ((s.rd (Reg.SLK_BLOCK_ERR p.val)).toNat + (i.sets.toList.filter (fun b => !blockOk b)).length) ∧
        s.sameRegs t (fun o => o = Reg.SLK_BLOCK_ERR p.val) ∧ s.sameStores t) ∧
    (Train.eq ≤ s.train p → s.train p ≤ Train.fecLock → ∃ t, exec (.trainTimeout p) s = .next t ∧ t.train p = Train.detect ∧
      t.rd (Reg.SLK_TRAIN_FAIL p.val) = BitVec.ofNat 32 (min 0xFFFFFFFF ((s.rd (Reg.SLK_TRAIN_FAIL p.val)).toNat + 1)) ∧
      t.pends Ev.trainFail ∧ s.sameRegs t (fun o => evtWindow o ∨ o = Reg.SLK_STATUS p.val ∨ o = Reg.SLK_TRAIN_FAIL p.val) ∧ s.sameStores t) ∧
    (s.slk[p].incompatible = true → s.train p ≠ Train.active → s.train p ≠ Train.disabled → ∃ t, exec (.configRetry p) s = .next t ∧
      t.train p = Train.config ∧ s.sameRegs t (fun o => o = Reg.SLK_STATUS p.val) ∧ s.sameStores t) ∧
    (s.active p = true →
      (∀ block : List Byte, blockOk block = true → ∃ t, exec (.ts1Rx p block) s = .next t ∧ s.linkFrame t ∧
        (t.train p = if s.bit (Reg.SLK_CTL p.val) 9 then Train.detect else Train.deskew)) ∧
      (∃ t, exec (.slkRetrain p) s = .next t ∧ s.linkFrame t ∧ (t.train p = if s.bit (Reg.SLK_CTL p.val) 9 then Train.detect else Train.deskew)) ∧
      (∀ (lane : Fin 4) (bad : Nat), ∃ t, exec (.laneBlockLockLoss p lane bad) s = .next t ∧ s.linkFrame t ∧
        (t.train p = if s.bit (Reg.SLK_CTL p.val) 9 then Train.detect else Train.deskew))) ∧
    (s.active p = false → s.train p ≠ Train.disabled → ∀ (lane : Fin 4) (bad : Nat), ∃ t, exec (.laneBlockLockLoss p lane bad) s = .next t ∧
      t.bit (Reg.SLK_STATUS p.val) lane.val = false ∧
      (t.rd (Reg.SLK_BLOCK_ERR p.val)).toNat = min 0xFFFFFFFF ((s.rd (Reg.SLK_BLOCK_ERR p.val)).toNat + bad) ∧
      s.sameRegs t (fun o => o = Reg.SLK_STATUS p.val ∨ o = Reg.SLK_BLOCK_ERR p.val) ∧ s.sameStores t) ∧
    (∀ block : List Byte,
      (s.train p ≠ Train.disabled → blockOk block = false → ∃ t, exec (.ts1Rx p block) s = .next t ∧ t.slk = s.slk ∧
        (t.rd (Reg.SLK_BLOCK_ERR p.val)).toNat = min 0xFFFFFFFF ((s.rd (Reg.SLK_BLOCK_ERR p.val)).toNat + 1) ∧
        s.sameRegs t (fun o => o = Reg.SLK_BLOCK_ERR p.val) ∧ s.sameStores t) ∧
      (s.train p = Train.eq → blockOk block = true → s.bit (Reg.SLK_TX_EQ p.val) 31 = false → ∃ t, exec (.ts1Rx p block) s = .next t ∧
        t.slk[p].eqPost = nibbleStep (ts1Request block % 16) s.slk[p].eqPost ∧
        t.slk[p].eqPre = nibbleStep (ts1Request block / 16) s.slk[p].eqPre ∧ t.regs = s.regs ∧ s.sameStores t)) ∧
    (s.active p = false → exec (.slkRetrain p) s = .next s) ∧
    (portOn s.role p = true →
      (∃ t, exec (.slkEnableWrite p true) s = .next t ∧ t.bit (Reg.SLK_CTL p.val) 0 = true ∧
        t.train p = (if s.train p = Train.disabled then Train.detect else s.train p) ∧
        s.sameRegs t (fun o => o = Reg.SLK_CTL p.val ∨ o = Reg.SLK_STATUS p.val) ∧ s.sameStores t) ∧
      (∃ t, exec (.slkEnableWrite p false) s = .next t ∧ t.train p = Train.disabled ∧ s.linkFrame t)) ∧
    (s.frameValid = false → ∃ t, exec .censusPreframeTimer s = .next t ∧
      (∀ q : Port, t.slk[q].censusDue = (s.slk[q].censusDue || s.active q)) ∧ t.regs = s.regs ∧ s.sameStores t)

/-- R133 to R158: SHEAF_START, SHEAF_WITHDRAW, SHEAF_RX, LCU_RX, LCU_FLUSH_TIMEOUT, CENSUS_RX and RETX_DEADLINE on an ACTIVE port. -/
def Obligations.SlkSheaves : Prop :=
  ∀ (p : Port) (s : State), s.canonical → s.live = true → s.active p = true →
    (s.slk[p].censusDue = true → ∃ t, exec (.sheafStart p) s = .next t ∧
      t.out = s.out ++ [.sheaf p (s.census p).header (s.census p).padded 0] ∧ t.slk[p].censusDue = false ∧
      t.regs = s.regs ∧ s.sameStores t) ∧
    (∀ u : Unacked, s.slk[p].censusDue = false → (s.dueNow p 2 = some u ∨ (s.dueNow p 2 = none ∧ s.dueNow p 3 = some u)) →
      ∃ t, exec (.sheafStart p) s = .next t ∧
        t.out = s.out ++ [.sheaf p { u.sheaf with retx := true }.header u.sheaf.padded u.sheaf.code] ∧
        t.credC p u.sheaf.vc = (s.credC p u.sheaf.vc + u.sheaf.bushels) % 2 ^ 16 ∧
        (t.rd (Reg.SLK_RETX_COUNT p.val)).toNat = min 0xFFFFFFFF ((s.rd (Reg.SLK_RETX_COUNT p.val)).toNat + 1) ∧
        s.sameRegs t (fun o => o = Reg.SLK_RETX_COUNT p.val ∨ o = Reg.SLK_CREDIT_VC p.val u.sheaf.vc) ∧ s.sameStores t) ∧
    (s.slk[p].censusDue = false → s.dueNow p 2 = none → s.dueNow p 3 = none → s.chooseVc p = none → exec (.sheafStart p) s = .next s) ∧
    (∀ (vc : Nat) (w : Waiting), s.slk[p].censusDue = false → s.chooseVc p = some vc → s.ready p vc = some w →
      (s.dueNow p 2 = none → s.dueNow p 3 = none → ∃ t l, exec (.sheafStart p) s = .next t ∧ s.linkFrame t ∧
        t.out = s.out ++ .sheaf p (s.numbered p w.sheaf).header w.sheaf.padded w.sheaf.code :: l) ∧
      (w.buffer = none → ∃ t l, exec (.sheafWithdraw p true) s = .next t ∧ s.linkFrame t ∧
        t.out = s.out ++ .sheaf p (s.numbered p w.sheaf).header w.sheaf.padded w.sheaf.code :: l) ∧
      (w.buffer = none → ∃ t l, exec (.sheafWithdraw p false) s = .next t ∧ s.linkFrame t ∧
        t.out = s.out ++ .sheaf p (s.numbered p w.sheaf.toHusk).header [] w.sheaf.code :: l ∧
        t.rd (Reg.SLK_HUSK_TX p.val) = BitVec.ofNat 32 (min 0xFFFFFFFF ((s.rd (Reg.SLK_HUSK_TX p.val)).toNat + 1))) ∧
      (w.buffer ≠ none → ∀ left : Bool, exec (.sheafWithdraw p left) s = .next s)) ∧
    (∀ hdr payload : List Byte, s.slk[p].unitLost = false → parseSheaf hdr payload = none → ∃ t, exec (.sheafRx p hdr payload) s = .next t ∧
      t.slk[p].unitLost = true ∧ (t.rd (Reg.SLK_HDR_CRC_ERR p.val)).toNat =
        min 0xFFFFFFFF ((s.rd (Reg.SLK_HDR_CRC_ERR p.val)).toNat + if leAt hdr 0 1 = 0x5A then 1 else 0) ∧
      s.linkFrame t) ∧
    (∀ (hdr payload : List Byte) (h : Sheaf), s.slk[p].unitLost = false → parseSheaf hdr payload = some h → h.linkLocal = false →
      (512 < s.rxO p h.vc + h.bushels → ∃ t, exec (.sheafRx p hdr payload) s = .next t ∧ s.linkFrame t ∧
        t.train p = if s.bit (Reg.SLK_CTL p.val) 9 then Train.detect else Train.deskew) ∧
      (s.rxO p h.vc + h.bushels ≤ 512 → h.vc = 0 → h.husk = false → s.bit (Reg.RED_P_STATE p.val) 27 = false →
        (h.crc = crc32c h.payload → s.fate p h = .forward → s.active (s.otherThrough p) = true →
          ∃ t, exec (.sheafRx p hdr payload) s = .next t ∧ s.linkFrame t ∧
          t.slk[s.otherThrough p].txq[(0 : Fin 4)] =
            s.slk[s.otherThrough p].txq[(0 : Fin 4)] ++ [{ sheaf := { h with hop := (h.hop + 1) % 256 }, buffer := some p }]) ∧
        (s.fate p h = .discard → ∃ t, exec (.sheafRx p hdr payload) s = .next t ∧ s.linkFrame t ∧
          t.rxF p 0 = (s.rxF p 0 + h.bushels) % 2 ^ 16 ∧
          (t.rd (Reg.SLK_PAY_CRC_ERR p.val)).toNat =
            min 0xFFFFFFFF ((s.rd (Reg.SLK_PAY_CRC_ERR p.val)).toNat + if h.crc = crc32c h.payload then 0 else 1))) ∧
      (s.rxO p h.vc + h.bushels ≤ 512 → h.vc = 2 → h.crc = crc32c h.payload → (s.fate p h = .discard ∨ s.fate p h = .noRoute) →
        ∃ t, exec (.sheafRx p hdr payload) s = .next t ∧ s.linkFrame t ∧
          (h.linkSeq = s.slk[p].rxSeq2 → t.slk[p].rxSeq2 = (s.slk[p].rxSeq2 + 1) % 2 ^ 16 ∧ t.slk[p].ack2 = true) ∧
          (h.linkSeq ≠ s.slk[p].rxSeq2 → t.slk[p].rxSeq2 = s.slk[p].rxSeq2 ∧ t.slk[p].ack2 = s.slk[p].ack2))) ∧
    (∀ unit : List Byte, s.slk[p].unitLost = false → leAt unit 0 1 = 0x3C → leAt unit 14 2 = crc16 (slice unit 0 14) →
      ∃ t, exec (.lcuRx p unit) s = .next t ∧
      (∀ vc, vc < 4 → t.credSeen p vc = leAt unit (6 + 2 * vc) 2 % 2 ^ 16 ∧ t.credC p vc = s.credC p vc) ∧ s.linkFrame t ∧
      (leAt unit 1 1 % 2 = 1 → t.slk[p].store2 = acked (leAt unit 2 2) s.slk[p].store2) ∧
      (leAt unit 1 1 / 2 % 2 = 1 → t.slk[p].store3 = acked (leAt unit 4 2) s.slk[p].store3)) ∧
    (s.lcuUnreported p = true → ∃ t o, exec (.lcuFlushTimeout p) s = .next t ∧ t.out = s.out ++ [.lcu p o] ∧
      t.regs = s.regs ∧ s.sameStores t) ∧
    (∀ body : List Byte, s.slk[p].unitLost = false → body.length = 16 → ∃ t, exec (.censusRx p body) s = .next t ∧ s.linkFrame t ∧
      t.fld (Reg.SLK_CENSUS_STATUS p.val) 31 16 = (s.fld (Reg.SLK_CENSUS_STATUS p.val) 31 16 + 1) % 2 ^ 16 ∧
      (s.censusBad p body = 0 → t.slk[p].censusRun = 0) ∧
      (s.censusBad p body ≠ 0 → t.pends Ev.censusMismatch ∧ t.slk[p].censusRun = s.slk[p].censusRun + 1 ∧
        (t.rd (Reg.SLK_CENSUS_FAIL p.val)).toNat = min 0xFFFFFFFF ((s.rd (Reg.SLK_CENSUS_FAIL p.val)).toNat + 1) ∧
        (1 ≤ s.slk[p].censusRun → t.train p = if s.bit (Reg.SLK_CTL p.val) 9 then Train.detect else Train.deskew))) ∧
    (∀ bulk : Bool, (s.slk[p].store (if bulk then 3 else 2) = [] → exec (.retxDeadline p bulk) s = .next s) ∧
      (∀ u l v, s.slk[p].store (if bulk then 3 else 2) = u :: l → v = s.advance (s.cyclesPast u.deadline) → s.clear (s.cyclesPast u.deadline) →
        (u.due = true → exec (.retxDeadline p bulk) s = .next v) ∧
        (u.due = false → 7 ≤ u.misses → ∃ t, exec (.retxDeadline p bulk) s = .next t ∧ s.linkFrame t ∧
          t.train p = if s.bit (Reg.SLK_CTL p.val) 9 then Train.detect else Train.deskew) ∧
        (u.due = false → u.misses < 7 → (∀ x, x ∈ u :: l → x.sheaf.vc = if bulk then 3 else 2) →
          ((u :: l).map (fun x => x.sheaf.linkSeq)).Nodup →
          ((u :: l).map (fun x => x.sheaf.bushels)).sum ≤ s.creditLeft p (if bulk then 3 else 2) →
          ∃ t, exec (.retxDeadline p bulk) s = .next t ∧
          t.out = v.out ++ (u :: l).map (fun x => .sheaf p { x.sheaf with retx := true }.header x.sheaf.padded x.sheaf.code) ∧
          v.sameRegs t (fun o => o = Reg.SLK_RETX_COUNT p.val ∨ o = Reg.SLK_CREDIT_VC p.val (if bulk then 3 else 2)) ∧ s.sameStores t)) ∧
      (∀ u l, s.slk[p].store (if bulk then 3 else 2) = u :: l → ¬ s.clear (s.cyclesPast u.deadline) →
        exec (.retxDeadline p bulk) s = .next s))

/-- R186, R188 to R192, R197, R211, R213: QUEUE_POST, IN_HEAD_WRITE, QUEUE_SEND and RESPONSE_TIMEOUT. -/
def Obligations.SxqQueues : Prop :=
  (∀ (q : QueueIx) (v : BitVec 16) (s : State), s.canonical → s.live = true → s.mode ≠ 3 → (regRow? (Reg.Q_CTL q.toNat)).isSome = true →
    (∃ t, exec (.queuePost q v) s = .next t ∧ t.outTail q.toNat = v.toNat ∧ t.outHead q.toNat = s.outHead q.toNat ∧
      t.rd (Reg.Q_POSTED q.toNat) = BitVec.ofNat 32 ((s.rd (Reg.Q_POSTED q.toNat)).toNat + subMod 16 v.toNat (s.outTail q.toNat)) ∧
      t.rd (Reg.Q_PENDING q.toNat) = BitVec.ofNat 32 ((s.rd (Reg.Q_PENDING q.toNat)).toNat + subMod 16 v.toNat (s.outTail q.toNat)) ∧
      t.sxq.order = s.sxq.order ++ List.replicate (subMod 16 v.toNat (s.outTail q.toNat)) q ∧
      s.sameRegs t (fun o => o = Reg.Q_OUT_IDX q.toNat ∨ o = Reg.Q_POSTED q.toNat ∨ o = Reg.Q_PENDING q.toNat) ∧ s.sameStores t) ∧
    (∃ t, exec (.inHeadWrite q v) s = .next t ∧ t.inHead q.toNat = v.toNat ∧ t.inTail q.toNat = s.inTail q.toNat ∧
      (0 < t.inFree q.toNat → t.bit (Reg.Q_STAT q.toNat) 31 = false) ∧
      s.sameRegs t (fun o => o = Reg.Q_IN_IDX q.toNat ∨ o = Reg.Q_STAT q.toNat) ∧ s.sameStores t)) ∧
  (∀ (q : QueueIx) (s : State), s.canonical → s.serviced q = true →
    (∃ t, exec (.queueSend q) s = .next t ∧ s.linkFrame t) ∧
    (expectsResponse (qCls q.toNat) = true → s.inFree q.toNat = 0 → s.bit (Reg.Q_STAT q.toNat) 31 = false →
      ∃ t, exec (.queueSend q) s = .next t ∧ t.bit (Reg.Q_STAT q.toNat) 31 = true ∧ t.pends Ev.stalled ∧ t.slk = s.slk ∧ t.sxq = s.sxq ∧
        s.sameRegs t (fun o => evtWindow o ∨ o = Reg.Q_STAT q.toNat) ∧ s.sameStores t) ∧
    (expectsResponse (qCls q.toNat) = false → s.slotBytes q.toNat - 16 < (s.outMsg q.toNat).bodyLen →
      ∃ t, exec (.queueSend q) s = .next t ∧ t.outHead q.toNat = (s.outHead q.toNat + 1) % 2 ^ 16 ∧
        t.fld (Reg.Q_STAT q.toNat) 27 24 = Code.REFUSED ∧ t.slk = s.slk ∧ s.sameStores t) ∧
    (s.mode = 0 → (s.routeTo (qDev q.toNat)).isSome = true → (s.outMsg q.toNat).bodyLen ≤ s.slotBytes q.toNat - 16 →
      reservedCls (qCls q.toNat) = false → reservedCls (qCls (s.outMsg q.toNat).peer) = false →
      (expectsResponse (qCls q.toNat) = true → 0 < s.inFree q.toNat → ∃ t o, exec (.queueSend q) s = .next t ∧
        t.outHead q.toNat = (s.outHead q.toNat + 1) % 2 ^ 16 ∧ t.sxq.outstanding = s.sxq.outstanding ++ [o] ∧
        o.cmdId = (s.outMsg q.toNat).cmdId ∧ o.dst = qDev q.toNat ∧ o.cls = qCls q.toNat ∧ o.q = q ∧ o.via = none ∧ s.sameStores t) ∧
      (expectsResponse (qCls q.toNat) = false → ∃ t, exec (.queueSend q) s = .next t ∧
        t.outHead q.toNat = (s.outHead q.toNat + 1) % 2 ^ 16 ∧ t.fld (Reg.Q_STAT q.toNat) 27 24 = Code.OK ∧
        t.rd (Reg.Q_COMPLETED q.toNat) = s.rd (Reg.Q_COMPLETED q.toNat) + 1 ∧ s.sameStores t))) ∧
  (∀ (q : QueueIx) (id : Nat) (s : State), s.canonical → s.sender = true →
    (s.sxq.outstanding.find? (fun o => o.q == q && o.cmdId == id) = none → exec (.responseTimeout q id) s = .next s) ∧
    (∀ o : Outstanding, s.sxq.outstanding.find? (fun o => o.q == q && o.cmdId == id) = some o → (s.routeTo o.dst = none ∨ s.takesResponse o = false) →
      exec (.responseTimeout q id) s = .next s) ∧
    (∀ (o : Outstanding) (p : Port), s.sxq.outstanding.find? (fun o => o.q == q && o.cmdId == id) = some o → s.routeTo o.dst = some p →
      s.takesResponse o = true → ∃ t, exec (.responseTimeout q id) s = .next t ∧
        t.rd Reg.SXQ_QUERY_COUNT = BitVec.ofNat 32 (min 0xFFFFFFFF ((s.rd Reg.SXQ_QUERY_COUNT).toNat + 1)) ∧
        (o.queried = false → t.pends Ev.querySent) ∧ s.sameRegs t (fun x => evtWindow x ∨ x = Reg.SXQ_QUERY_COUNT) ∧ s.sameStores t))

/-- R183, R185, R191, R193, R196, R197, R213, R618, R729, R730: REACH_RESPONSE_RX, COMPLETION_RX, QUERY_ANSWER_RX, EVENT_RECORD_RX, QUERY_RX and
COMMIT_MSG_RX. -/
def Obligations.SxqAnswers : Prop :=
  (∀ (m : Msg) (s : State), s.canonical → s.live = true → s.mode ≠ 3 →
    (s.outstandingFor m.src m.cmdId = none → exec (.reachResponseRx m) s = .next s ∧
      (s.glb.subtree = [] → exec (.completionRx m) s = .next s)) ∧
    (∀ o, s.outstandingFor m.src m.cmdId = some o →
      ((o.cls ≠ 0 ∨ s.takesResponse o = false) → exec (.reachResponseRx m) s = .next s) ∧
      ((o.cls = 0 ∨ s.takesResponse o = false) → exec (.completionRx m) s = .next s) ∧
      (o.cls = 0 → s.takesResponse o = true →
        ∃ t, exec (.reachResponseRx m) s = .next t ∧ t.sxq.outstanding = dropFirst o s.sxq.outstanding ∧ s.linkFrame t) ∧
      (o.cls ≠ 0 → s.takesResponse o = true →
        ∃ t, exec (.completionRx m) s = .next t ∧ t.sxq.outstanding = dropFirst o s.sxq.outstanding ∧ s.linkFrame t))) ∧
  (∀ (m : Msg) (s : State), s.canonical → s.sender = true →
    (s.outstandingFor m.src m.cmdId = none → exec (.queryAnswerRx m) s = .next s) ∧
    (∀ o, s.outstandingFor m.src m.cmdId = some o →
      (leAt m.body 0 1 ≤ 2 → s.takesResponse o = true →
        ∃ t, exec (.queryAnswerRx m) s = .next t ∧ t.sxq.outstanding = dropFirst o s.sxq.outstanding ∧ s.linkFrame t) ∧
      ((2 < leAt m.body 0 1 ∨ s.takesResponse o = false) → exec (.queryAnswerRx m) s = .next s)) ∧
    ((s.queueOn (m.src % 1024 * 64 + 4) && decide (0 < s.inFree (m.src % 1024 * 64 + 4))) = true →
      ∃ t, exec (.eventRecordRx m) s = .next t ∧ BitVec.ofNat 16 (m.src % 1024 * 64 + 4) ∉ t.sxq.recordLost ∧
        t.inTail (m.src % 1024 * 64 + 4) = (s.inTail (m.src % 1024 * 64 + 4) + 1) % 2 ^ 16 ∧ s.linkFrame t) ∧
    ((s.queueOn (m.src % 1024 * 64 + 4) && decide (0 < s.inFree (m.src % 1024 * 64 + 4))) = false →
      ∃ t, exec (.eventRecordRx m) s = .next t ∧ BitVec.ofNat 16 (m.src % 1024 * 64 + 4) ∈ t.sxq.recordLost ∧
        t.fld (Reg.Q_IN_DROP (m.src % 1024 * 64 + 4)) 15 0 = min (2 ^ 16 - 1) (s.fld (Reg.Q_IN_DROP (m.src % 1024 * 64 + 4)) 15 0 + 1) ∧
        t.pends Ev.inRingDrop ∧ s.sameStores t)) ∧
  (∀ (m : Msg) (s : State), s.live = true → s.mode ≠ 3 →
    (leAt m.body 0 16 ≠ 0 → leAt m.body 0 16 ≠ s.uid → exec (.queryRx m) s =
      .next (s.sendOn m.port m.src 7 m.cmdId Code.OK (leBytes 1 2 ++ zeros 3))) ∧
    ((leAt m.body 0 16 = 0 ∨ leAt m.body 0 16 = s.uid) →
      (∀ o, s.sxq.outcomes.find? (fun o => o.src == m.src && o.cmdId == m.cmdId) = some o → exec (.queryRx m) s =
        .next (s.sendOn m.port m.src 7 m.cmdId Code.OK (leBytes 1 0 ++ leBytes 1 o.cls ++ leBytes 1 (o.code % 16) ++ leBytes 1 0 ++ o.body))) ∧
      (s.sxq.outcomes.find? (fun o => o.src == m.src && o.cmdId == m.cmdId) = none →
        ∃ t, exec (.queryRx m) s = .next t ∧ t.isFenced m = true ∧ t.regs = s.regs ∧ s.sameStores t))) ∧
  (∀ (m : Msg) (s : State), s.canonical → s.rollHears m.port = true →
    (s.epochOk m = false → ∃ t, exec (.commitMsgRx m) s = .next t ∧
      t.rd Reg.SXQ_EPOCH_REFUSED = BitVec.ofNat 32 (min 0xFFFFFFFF ((s.rd Reg.SXQ_EPOCH_REFUSED).toNat + 1)) ∧
      t.glb.commit = s.glb.commit ∧ s.sameStores t ∧
      s.sameRegs t (fun o => o = Reg.SXQ_EPOCH_REFUSED ∨ o = Reg.GLB_CMD_POSTED ∨ o = Reg.GLB_CMD_PENDING ∨ o = Reg.GLB_CMD_COMPLETED)) ∧
    (s.epochOk m = true → s.isFenced m = false → s.mode = 1 → s.holderIdx = some m.src → s.glb.commit = none → (leAt m.body 4 4).testBit 16 = false →
      (s.frameValid = false ∨ s.inWindow (leAt m.body 0 4 % 2 ^ 32) s.guardLocal 0 = true) →
      ∃ t c, exec (.commitMsgRx m) s = .next t ∧ t.glb.commit = some c ∧ c.id = bits (leAt m.body 4 4) 15 0 ∧ c.target = leAt m.body 0 4 % 2 ^ 32 ∧
        c.subtree = false ∧ c.cmd = some (m.cmdId, m.port, m.src) ∧ t.fld Reg.GLB_COMMIT_STATUS 31 28 = 1 ∧ t.bit Reg.GLB_STATE 24 = true ∧
        s.sameStores t))

/-- R183, R193 to R196, R210: REACH_READ, REACH_WRITE and REACH_MASKED_WRITE, which the words of their bodies tell apart: a refused request of
each, and an executed one of a single word. -/
def Obligations.ReachRequests : Prop :=
  (∀ (m : Msg) (s : State), s.canonical → s.rollHears m.port = true →
    (s.epochOk m = false ∨ s.isFenced m = true ∨ reachMalformed m.body = true ∨ writeBarred m.body (s.claimHeldBy m.src) = true) →
    (reachOp m.body ≠ 2 → reachOp m.body ≠ 3 → ∃ t, exec (.reachRead m) s = .next t ∧ s.reachRefused m t) ∧
    (reachOp m.body = 2 → ∃ t, exec (.reachWrite m) s = .next t ∧ s.reachRefused m t) ∧
    (reachOp m.body = 3 → ∃ t, exec (.reachMaskedWrite m) s = .next t ∧ s.reachRefused m t)) ∧
  (∀ (m : Msg) (s : State), s.canonical → s.rollHears m.port = true → s.epochOk m = true → s.isFenced m = false →
    reachMalformed m.body = false → reachOp m.body = 1 → reachCount m.body = 1 → reachOff m.body < viewBase →
    (s.mode = 2 ∧ reachOff m.body / 0x10000 ∈ [7, 8, 9, 0xA, 0xB, 0xC] ∨
      s.mode ≠ 2 ∧ s.readable (reachOff m.body) = true ∧ reachOff m.body / 0x10000 ∈ [5, 9, 0xA, 0xB, 0xC, 0xD, 0x13, 0x14, 0x15] ∧
        readClears (reachOff m.body) = false ∧ latchesHigh (reachOff m.body) = false ∧ latchesHigh (reachOff m.body - 4) = false) →
    ∃ t, exec (.reachRead m) s = .next t ∧
      t.sxq.outcomes.head? = some ⟨m.src, m.cmdId, 1, Code.OK, reachResponse m.body Code.OK [if s.mode = 2 then 0 else s.rd (reachOff m.body)]⟩ ∧
      s.sameStores t ∧ t.glb.hold = s.glb.hold ∧
      s.sameRegs t (fun o => o = Reg.GLB_CMD_POSTED ∨ o = Reg.GLB_CMD_PENDING ∨ o = Reg.GLB_CMD_COMPLETED)) ∧
  (∀ (m : Msg) (r : RegRow) (s : State), s.canonical → s.rollHears m.port = true → s.mode < 2 → s.epochOk m = true → s.isFenced m = false →
    reachMalformed m.body = false → reachCount m.body = 1 → reachOff m.body < viewBase → s.readable (reachOff m.body) = true →
    regRow? (reachOff m.body) = some r → reachOff m.body / 0x10000 ∈ [0xA, 0xB, 0xC, 0x13, 0x14, 0x15] →
    (r.sh = true → s.claimHeldBy m.src = true) → s.glb.bothSets = false →
    (reachOp m.body = 2 → ∃ t, exec (.reachWrite m) s = .next t ∧ s.reachWrote m r (BitVec.ofNat 32 (leAt m.body 8 4)) t) ∧
    (reachOp m.body = 3 → ∃ t, exec (.reachMaskedWrite m) s = .next t ∧
      s.reachWrote m r ((s.rd (reachOff m.body) &&& ~~~(BitVec.ofNat 32 (leAt m.body 8 4)) &&& BitVec.ofNat 32 r.rw) |||
        (BitVec.ofNat 32 (leAt m.body 12 4) &&& BitVec.ofNat 32 (leAt m.body 8 4))) t))

/-- R32 to R35, R38, R39, R41, R62 to R65, R725, R728: COMMIT_POST of a local commit, of a subtree commit that is accepted before frames start, and
of a commit that is refused or finds the device busy. -/
def Obligations.CommitsPosted : Prop :=
  ∀ (path : Path) (v : Word) (s : State), s.canonical → s.live = true →
    ((s.glb.commit.isSome = true ∨ (v.toNat.testBit 8 = true ∧ s.bit Reg.BOOT_STATUS 27 = true)) →
      ∃ t, exec (.commitPost path v) s = .next t ∧ t.bit Reg.GLB_COMMIT_CTL 1 = true ∧ t.glb = s.glb ∧ s.sameStores t ∧
        s.sameRegs t (fun o => o = Reg.GLB_COMMIT_CTL)) ∧
    (s.glb.commit = none → v.toNat.testBit 8 = false → s.mode < 2 →
      (s.mode = 1 → pathOrigin path = none ∨ s.holderIdx = pathOrigin path) → s.frameValid = true →
      (s.inWindow (s.rd Reg.GLB_COMMIT_TARGET).toNat s.guardLocal 0 = true ∨
        s.inWindow ((s.rd Reg.GLB_COMMIT_TARGET).toNat + 1) s.guardLocal 0 = true) →
      ∃ t c, exec (.commitPost path v) s = .next t ∧ t.glb.commit = some c ∧ c.id = bits v.toNat 31 16 ∧
        c.target = (s.rd Reg.GLB_COMMIT_TARGET).toNat ∧ c.subtree = false ∧ c.early = false ∧
        c.late = !s.inWindow (s.rd Reg.GLB_COMMIT_TARGET).toNat s.guardLocal 0 ∧
        t.rd Reg.GLB_COMMIT_STATUS = BitVec.ofNat 32 (2 ^ 28 + bits v.toNat 31 16) ∧ t.bit Reg.GLB_STATE 24 = true ∧ s.sameStores t ∧
        s.sameRegs t (fun o => o = Reg.GLB_COMMIT_CTL ∨ o = Reg.GLB_CMD_POSTED ∨ o = Reg.GLB_CMD_PENDING ∨ o = Reg.GLB_STATE ∨
          o = Reg.GLB_COMMIT_STATUS)) ∧
    (s.glb.commit = none → v.toNat.testBit 8 = true → s.bit Reg.BOOT_STATUS 27 = false → s.mode = 0 → s.frameValid = false →
      ∃ t c x, exec (.commitPost path v) s = .next t ∧ t.glb.commit = some c ∧ c.subtree = true ∧ c.early = true ∧
        c.target = (s.rd Reg.GLB_COMMIT_TARGET).toNat ∧ t.glb.subtree = s.glb.subtree ++ [x] ∧ x.id = bits v.toNat 31 16 ∧
        x.asked = (s.rd Reg.GLB_COMMIT_TARGET).toNat ∧ x.devices = 1 + s.subtreeEntries.length ∧
        x.waiting = s.subtreeDevices.map (fun d => d.2) ∧ x.ownDone = false ∧
        t.rd Reg.GLB_COMMIT_STATUS = BitVec.ofNat 32 (2 ^ 28 + 2 ^ 16 + bits v.toNat 31 16) ∧ s.sameStores t) ∧
    (s.glb.commit = none → v.toNat.testBit 8 = true → s.bit Reg.BOOT_STATUS 27 = false → s.mode = 1 →
      (pathOrigin path = none ∨ s.holderIdx = pathOrigin path) →
      ∃ t, exec (.commitPost path v) s = .next t ∧ t.glb.commit = none ∧
        t.rd Reg.GLB_COMMIT_STATUS = BitVec.ofNat 32 (3 * 2 ^ 28 + Code.REFUSED * 2 ^ 24 + 2 ^ 16 + bits v.toNat 31 16) ∧
        t.fld Reg.GLB_COMMIT_COUNTS 15 0 = min 0xFFFF (s.fld Reg.GLB_COMMIT_COUNTS 15 0 + 1) ∧ t.evt = s.evt ∧ s.sameStores t) ∧
    (s.glb.commit = none → v.toNat.testBit 8 = false →
      (2 ≤ s.mode ∨ (s.mode = 0 ∧ s.frameValid = true ∧ s.inWindow (s.rd Reg.GLB_COMMIT_TARGET).toNat s.guardLocal 0 = false ∧
        s.inWindow ((s.rd Reg.GLB_COMMIT_TARGET).toNat + 1) s.guardLocal 0 = false)) →
      ∃ t, exec (.commitPost path v) s = .next t ∧ t.glb.commit = none ∧
        t.rd Reg.GLB_COMMIT_STATUS = BitVec.ofNat 32 (3 * 2 ^ 28 + Code.REFUSED * 2 ^ 24 + bits v.toNat 31 16) ∧
        t.fld Reg.GLB_COMMIT_COUNTS 15 0 = min 0xFFFF (s.fld Reg.GLB_COMMIT_COUNTS 15 0 + 1) ∧ t.pends Ev.commit ∧ s.sameStores t ∧
        s.sameRegs t (fun o => o = Reg.GLB_COMMIT_CTL ∨ o = Reg.GLB_CMD_POSTED ∨ o = Reg.GLB_CMD_PENDING ∨ o = Reg.GLB_STATE ∨
          o = Reg.GLB_COMMIT_STATUS ∨ o = Reg.GLB_COMMIT_COUNTS ∨ o = Reg.GLB_CMD_COMPLETED ∨ evtWindow o))

/-- R24 to R26, R30, R36, R104, R105, R107: TICK: time runs to the tick and the update cycle runs. What the cycle does in a device whose blocks do
not run (fallow mode), how it begins (`State.frameBegins`, for frame `f`) and its step that applies a commit (`State.commitTick`). -/
def Obligations.FrameTick : Prop :=
  (∀ s : State, s.ticking = false → exec .tick s = .next s) ∧
  (∀ s : State, s.ticking = true → ∃ t u : State, exec .tick s = .next t ∧ t = u.updateCycle ∧ u.tmb.tclk = s.tmb.tclk + s.cyclesToTick ∧
    s.sameStores u ∧ s.sameRegs u (fun o => evtWindow o ∨ o = Reg.TMB_TB_FREQ 6)) ∧
  (∀ (s : State) (f x : Nat), s.canonical → x = s.tmb.nextTick / 9 * 2 ^ 16 + s.tmb.nextTick % 9 * 2 ^ 16 / 9 →
    (s.frameBegins f).rd Reg.TMB_TICK_LO = BitVec.ofNat 32 (stampOf 1 x) ∧
    (s.frameBegins f).rd Reg.TMB_TICK_HI = BitVec.ofNat 32 (stampOf 1 x / 2 ^ 32) ∧ (s.frameBegins f).rd Reg.GLB_FRAME = BitVec.ofNat 32 f ∧
    (s.frameBegins f).frameValid = true ∧ (s.frameValid = false → (s.frameBegins f).tmb.armed = false ∧ (s.frameBegins f).pends Ev.frameValid)) ∧
  (∀ s : State, s.canonical → s.live = true → s.mode = 2 → s.frameValid = true → s.glb.commit = none → s.glb.snapArmed = false →
    (∀ p : Port, s.sxq.roll[p].publish = false) → s.dmc.publish = false →
    ∃ t, exec .tick s = .next t ∧ t.tmb.tclk = s.tmb.tclk + s.cyclesToTick ∧ t.rd Reg.GLB_FRAME = s.rd Reg.GLB_FRAME + 1 ∧
      t.tmb.nextTick = (s.tmb.nextTick + period9 s.rateNow) % (9 * 2 ^ 32) ∧ s.sameStores t ∧
      s.sameRegs t (fun o => evtWindow o ∨ o = Reg.GLB_FRAME ∨ o = Reg.TMB_TICK_LO ∨ o = Reg.TMB_TICK_HI ∨ o = Reg.TMB_TB_FREQ 6)) ∧
  (∀ (s : State) (c : Commit) (f : Nat), s.canonical → s.glb.commit = some c →
    ((c.reloadLate = true ∨ f = (c.target + b2n c.late) % 2 ^ 32) → c.subtree = false →
      (s.commitTick f).2 = true ∧ (∀ o, shadowed o = true → (s.commitTick f).1.rdA o = s.rd o) ∧ (s.commitTick f).1.glb.commit = none ∧
        (s.commitTick f).1.rd Reg.GLB_COMMIT_APPLIED = BitVec.ofNat 32 f ∧ (∀ a, (s.commitTick f).1.byte a = s.byte a) ∧
        (s.commitTick f).1.flash = s.flash) ∧
    ((c.reloadLate = false ∧ f ≠ (c.target + b2n c.late) % 2 ^ 32) → s.commitTick f = (s, false)))

/-- R200 to R206, R216: ROLL_START, ROLL_LISTEN_RETRY, ROLL_TIMEOUT, ENUM_RETURN_RX and ASSIGN_ACK_RX at a sender. -/
def Obligations.RollAtSender : Prop :=
  (∀ (v : Word) (s : State), s.canonical → s.sender = true →
    (v.toNat.testBit 0 = false → ∃ t, exec (.rollStart v) s = .next t ∧ t.rd Reg.SXQ_ROLL_CTL = v &&& 0xFFFF01F0 ∧ t.sxq = s.sxq ∧ s.sameStores t ∧
      s.sameRegs t (fun o => o = Reg.SXQ_ROLL_CTL)) ∧
    (∀ p, v.toNat.testBit 0 = true → s.rollPorts v = [p] → s.kind p = 1 → s.bit Reg.BOOT_STATUS 27 = false →
      ∃ t, exec (.rollStart v) s = .next t ∧ t.sxq.roll[p].running = true ∧ t.sxq.roll[p].listen = false ∧ t.pends Ev.rollStart ∧
        t.fld (Reg.SXQ_PORT_STATE p.val) 31 24 = (s.fld (Reg.SXQ_PORT_STATE p.val) 31 24 + 1) % 256 ∧ s.sameStores t ∧
        s.sameRegs t (fun o => o / 0x10000 = 3 ∨ o / 0x10000 = 6))) ∧
  (∀ (p : Port) (s : State), s.canonical → s.sender = true → s.sxq.roll[p].running = true →
    (s.sxq.roll[p].retry = true → s.kind p = 1 → s.bit Reg.BOOT_STATUS 27 = false →
      ∃ t, exec (.rollListenRetry p) s = .next t ∧ t.sxq.roll[p].running = true ∧ t.sxq.roll[p].retry = false ∧ t.pends Ev.rollStart ∧
        t.fld (Reg.SXQ_PORT_STATE p.val) 31 24 = (s.fld (Reg.SXQ_PORT_STATE p.val) 31 24 + 1) % 256 ∧ s.sameStores t ∧
        s.sameRegs t (fun o => o / 0x10000 = 3 ∨ o / 0x10000 = 6)) ∧
    (∃ t, exec (.rollTimeout p) s = .next t ∧ t.sxq.roll[p].running = false ∧ t.sxq.roll[p].publish = true ∧
      t.sxq.roll[p].lastCode = Code.PARTIAL ∧ t.sxq.roll[p].held = [] ∧
      t.sxq.roll[p].entries = (if s.sxq.roll[p].gotReturn then s.sxq.roll[p].entries else []) ∧ t.regs = s.regs ∧ s.sameStores t)) ∧
  (∀ (p : Port) (s : State), s.sxq.roll[p].running = false → exec (.rollTimeout p) s = .next s ∧ exec (.rollListenRetry p) s = .next s) ∧
  (∀ (m : Msg) (s : State), s.canonical → s.sender = true →
    ((rollOrigin m.body ≠ s.uid ∨ s.sxq.roll[m.port].running = false ∨
        rollEpoch m.body ≠ s.fld (Reg.SXQ_PORT_STATE m.port.val) 31 24) →
      exec (.enumReturnRx m) s = .next s ∧ exec (.assignAckRx m) s = .next s) ∧
    (rollOrigin m.body = s.uid → s.sxq.roll[m.port].running = true → rollEpoch m.body = s.fld (Reg.SXQ_PORT_STATE m.port.val) 31 24 →
      (∃ t, exec (.enumReturnRx m) s = .next t ∧ t.sxq.roll[m.port].publish = true ∧ t.sxq.roll[m.port].gotReturn = true ∧
        t.sxq.roll[m.port].flags = rollFlags m.body ∧ t.sxq.roll[m.port].entries = rollEntries m.body ∧ ((rollFlags m.body).testBit 0 = true → t.pends Ev.chainTooLong) ∧
        s.sameStores t ∧ s.sameRegs t (fun o => evtWindow o ∨ (o = Reg.SXQ_PORT_STATE m.port.val ∧ s.sxq.roll[m.port].listen = true))) ∧
      (∃ t, exec (.assignAckRx m) s = .next t ∧ t.sxq.roll[m.port].running = false ∧ t.sxq.roll[m.port].publish = true ∧
        t.sxq.roll[m.port].gotAck = true ∧ t.regs = s.regs ∧ s.sameStores t ∧
        (t.sxq.roll[m.port].lastCode = Code.OK ↔
          (s.sxq.roll[m.port].flags.testBit 0 = false ∧
            (∀ e ∈ tileEntries s.sxq.roll[m.port].assigned s.sxq.roll[m.port].flags, entryValid e = true) ∧
            rollCount m.body = (tileEntries s.sxq.roll[m.port].assigned s.sxq.roll[m.port].flags).length)))))

/-- R136, R181, R200, R202, R204, R209: ENUM_RX, ENUM_RETURN_RX, ASSIGN_RX, ASSIGN_ACK_RX and CHANGE_RX at a tile and CHANGE_RX at a sender; R48, R548:
PREFRAME_PUBLICATION_POINT; R41, R42: SUBTREE_COMMIT_DEADLINE. -/
def Obligations.RollAtTile : Prop :=
  (∀ (m : Msg) (s : State), s.canonical → s.rollHears m.port = true → s.mode ≠ 0 →
    ((rollOrigin m.body = s.uid ∨ s.epochNewer (rollOrigin m.body) (rollEpoch m.body) = false) → exec (.enumRx m) s = .next s) ∧
    (rollOrigin m.body ≠ s.uid → s.epochNewer (rollOrigin m.body) (rollEpoch m.body) = true →
      ∃ t, exec (.enumRx m) s = .next t ∧ t.sxq.seen.head? = some (rollOrigin m.body, rollEpoch m.body, m.port, rollOriginIdx m.body) ∧ t.regs = s.regs ∧
        s.sameStores t) ∧
    exec (.enumReturnRx m) s = .next
      (if s.epochCurrent (rollOrigin m.body) (rollEpoch m.body) then s.passRoll m else s) ∧
    exec (.assignAckRx m) s = .next (s.passRoll m) ∧ exec (.changeRx m) s = .next (s.passRoll m) ∧
    (s.active (s.otherThrough m.port) = false → s.passRoll m = s.inc Reg.SXQ_END_DROP) ∧
    (s.active (s.otherThrough m.port) = true → (s.passRoll m).regs = s.regs ∧ s.sameStores (s.passRoll m) ∧
      ∃ l, (s.passRoll m).slk[s.otherThrough m.port].txq[(2 : Fin 4)] = s.slk[s.otherThrough m.port].txq[(2 : Fin 4)] ++ l ∧ l ≠ [] ∧
        ∀ w ∈ l, w.sheaf.srcQ = m.src * 64 + m.srcCls ∧ w.sheaf.dstQ = m.dst * 64 + m.cls ∧ w.sheaf.epoch = m.epoch ∧
          w.sheaf.hop = (m.hop + 1) % 256) ∧
    (s.epochCurrent (rollOrigin m.body) (rollEpoch m.body) = false → exec (.assignRx m) s = .next s) ∧
    (∀ e, s.epochCurrent (rollOrigin m.body) (rollEpoch m.body) = true →
      (tileEntries (rollEntries m.body) (rollFlags m.body)).find? (fun e => entryUid e == s.uid) = some e →
      ∃ t, exec (.assignRx m) s = .next t ∧
        t.rd Reg.GLB_DEVIDX = BitVec.ofNat 32 (b2n (entryValid e) * 2 ^ 31 + rollEpoch m.body % 256 * 2 ^ 16 + entryIndex e) ∧
        s.sameStores t ∧ s.sameRegs t (fun o => o = Reg.GLB_DEVIDX))) ∧
  (∀ (m : Msg) (s : State), s.sender = true → (s.bit Reg.SXQ_ROLL_CTL 8 = false ∨ s.bit Reg.GLB_STATE 25 = false) →
    exec (.changeRx m) s = .next s) ∧
  (∀ (m : Msg) (s : State), s.canonical → s.sender = true → s.bit Reg.SXQ_ROLL_CTL 8 = true → s.bit Reg.GLB_STATE 25 = true →
    s.kind m.port = 1 → s.bit Reg.BOOT_STATUS 27 = false →
    ∃ t, exec (.changeRx m) s = .next t ∧ t.sxq.roll[m.port].running = true ∧ t.pends Ev.rollStart ∧
      t.fld (Reg.SXQ_PORT_STATE m.port.val) 31 24 = (s.fld (Reg.SXQ_PORT_STATE m.port.val) 31 24 + 1) % 256 ∧ s.sameStores t ∧
      s.sameRegs t (fun o => o / 0x10000 = 3 ∨ o / 0x10000 = 6)) ∧
  (∀ s : State, s.canonical →
    ((s.live = false ∨ s.frameValid = true ∨ ((∀ p : Port, s.sxq.roll[p].publish = false) ∧ s.dmc.publish = false)) →
      exec .preframePublicationPoint s = .next s) ∧
    (s.live = true → s.frameValid = false → (∀ p : Port, s.sxq.roll[p].publish = false) → s.dmc.publish = true →
      ∃ t, exec .preframePublicationPoint s = .next t ∧ t.dmc.publish = false ∧ t.bit Reg.DMC_TRAIN_STATUS 24 = true ∧ s.sameStores t ∧
        s.sameRegs t (fun o => o = Reg.DMC_TRAIN_STATUS)) ∧
    (s.live = true → s.frameValid = false → (∃ p : Port, s.sxq.roll[p].publish = true) →
      ∃ t, exec .preframePublicationPoint s = .next t ∧ (∀ p : Port, t.sxq.roll[p].publish = false) ∧ t.dmc.publish = false ∧
        t.bit Reg.SXQ_ROLL_STATUS 24 = true ∧ s.sameStores t ∧
        s.sameRegs t (fun o => o / 0x10000 = 3 ∨ o / 0x10000 = 6 ∨ o = Reg.DMC_TRAIN_STATUS))) ∧
  (∀ s : State, s.canonical → s.sender = true →
    (s.glb.subtree.find? (fun t => t.ownDone) = none → exec .subtreeCommitDeadline s = .next s) ∧
    (∀ c, s.glb.subtree.find? (fun t => t.ownDone) = some c →
      ∃ t, exec .subtreeCommitDeadline s = .next t ∧ t.glb.subtree = dropFirst c s.glb.subtree ∧ t.pends Ev.commit ∧ s.sameStores t ∧
        s.sameRegs t (fun o => evtWindow o ∨ o = Reg.GLB_COMMIT_STATUS ∨ o = Reg.GLB_COMMIT_COUNTS ∨ o = Reg.GLB_OVERRUN ∨
          o = Reg.GLB_CMD_COMPLETED ∨ o = Reg.GLB_CMD_DISCARDED ∨ o = Reg.GLB_CMD_PENDING)))

/-- R183, R233 to R239, R243 to R249: the four claim commands, HOLDER_DECIDE_TIMEOUT, LEASE_DEADLINE_MISS, LEASE_EXPIRY and LEASE_RX. -/
def Obligations.ClaimsAndLeases : Prop :=
  (∀ (p : Port) (s : State), s.canonical → (s.sender = false ∨ s.kind p ≠ 2) →
    exec (.claimRaise p) s = .next s ∧ exec (.claimDrop p) s = .next s ∧ exec (.claimUnmute p) s = .next s ∧
      exec (.claimUnshun p) s = .next s) ∧
  (∀ (p : Port) (s : State), s.canonical → s.sender = true → s.kind p = 2 →
    (∃ t, exec (.claimRaise p) s = .next t ∧ t.bit (Reg.RED_P_STATE p.val) 28 = false ∧
      t.rd (Reg.RED_P_CLAIM p.val) = (if (s.rd (Reg.RED_P_PEER_CLAIM p.val)).toNat = 0xFFFFFFFF then 0xFFFFFFFF
        else s.rd (Reg.RED_P_PEER_CLAIM p.val) + 1) ∧
      ((s.rd (Reg.RED_P_PEER_CLAIM p.val)).toNat = 0xFFFFFFFF → t.pends Ev.claimSaturated) ∧ s.sameStores t ∧
      s.sameRegs t (fun o => evtWindow o ∨ o = Reg.RED_P_CLAIM p.val ∨ o = Reg.RED_P_STATE p.val)) ∧
    exec (.claimDrop p) s = .next (s.setBit (Reg.RED_P_STATE p.val) 28 true) ∧
    (∃ t, exec (.claimUnmute p) s = .next t ∧ t.regs = s.regs ∧ s.sameStores t ∧ (t.sendLease p).bit (Reg.RED_P_STATE p.val) 29 = false ∧
      (s.bit (Reg.RED_P_STATE p.val) 29 = true → (t.sendLease p).pends Ev.unmute)) ∧
    (∃ t, exec (.claimUnshun p) s = .next t ∧ t.regs = s.regs ∧ s.sameStores t ∧ (t.sendLease p).bit (Reg.RED_P_STATE p.val) 27 = false) ∧
    (s.red.port[p].decided = false → s.bit Reg.SXQ_ROLL_CTL 8 = false →
      ∃ t, exec (.holderDecideTimeout p) s = .next t ∧ t.red.port[p].decided = true ∧ t.bit (Reg.RED_P_STATE p.val) 31 = true ∧
        s.sameStores t ∧ s.sameRegs t (fun o => o = Reg.RED_P_STATE p.val)) ∧
    (s.red.port[p].decided = true → exec (.holderDecideTimeout p) s = .next s) ∧
    (s.red.port[p].decided = true → s.leaseMissing p = true → s.clear s.missLeft →
      ∃ t, exec (.leaseDeadlineMiss p) s = .next t ∧ t.red.port[p].lease = none ∧ t.pends Ev.leaseMiss ∧
        t.bit (Reg.RED_P_STATE p.val) 30 = false ∧
        t.rd (Reg.RED_P_LEASE_MISS p.val) = BitVec.ofNat 32 (min 0xFFFFFFFF ((s.rd (Reg.RED_P_LEASE_MISS p.val)).toNat + 1)) ∧
        s.sameStores t ∧
        ((s.bit (Reg.RED_P_STATE p.val) 31 || !s.bit Reg.RED_CTL 2) = true →
          s.sameRegs t (fun o => evtWindow o ∨ o = Reg.RED_P_LEASE_MISS p.val ∨ o = Reg.RED_P_STATE p.val ∨ o = Reg.TMB_TB_FREQ 6)) ∧
        ((s.bit (Reg.RED_P_STATE p.val) 31 || !s.bit Reg.RED_CTL 2) = false →
          t.bit (Reg.RED_P_STATE p.val) 31 = true ∧ t.pends Ev.takeover ∧
          s.sameRegs t (fun o => evtWindow o ∨ o = Reg.RED_P_LEASE_MISS p.val ∨ o = Reg.RED_P_STATE p.val ∨ o = Reg.RED_P_CLAIM p.val ∨
            o = Reg.RED_P_TAKEOVERS p.val ∨ o = Reg.TMB_TB_FREQ 6))) ∧
    ((s.red.port[p].decided = false ∨ s.leaseMissing p = false ∨ ¬ s.clear s.missLeft) → exec (.leaseDeadlineMiss p) s = .next s)) ∧
  (∀ (p : Port) (s : State), s.red.port[p].lease = none → exec (.leaseExpiry p) s = .next s) ∧
  (∀ (p : Port) (l : Lease) (s : State), s.canonical → s.live = true → s.red.port[p].lease = some l →
    ((s.leaseValid l s.red.port[p].leaseAt = false ∨ s.clear (s.leaseLeft l s.red.port[p].leaseAt)) →
      ∃ t, exec (.leaseExpiry p) s = .next t ∧ t.red.port[p].lease = none ∧ t.bit (Reg.RED_P_STATE p.val) 30 = false ∧ s.sameStores t ∧
      s.sameRegs t (fun o => evtWindow o ∨ o = Reg.TMB_TB_FREQ 6 ∨ o = Reg.RED_P_STATE p.val ∨ (s.mode ≠ 0 ∧ ∃ q : Port, o = Reg.RED_P_STATE q.val))) ∧
    (s.leaseValid l s.red.port[p].leaseAt = true → ¬ s.clear (s.leaseLeft l s.red.port[p].leaseAt) → exec (.leaseExpiry p) s = .next s)) ∧
  (∀ (m : Msg) (s : State), s.canonical →
    ((s.hearsBroadcast m && leAt m.body 0 1 == 0x10) = false → exec (.leaseRx m) s = .next s) ∧
    ((s.hearsBroadcast m && leAt m.body 0 1 == 0x10) = true → s.epochOk m = false →
      exec (.leaseRx m) s = .next (s.inc Reg.SXQ_EPOCH_REFUSED)) ∧
    ((s.hearsBroadcast m && leAt m.body 0 1 == 0x10) = true → s.epochOk m = true → s.leaseValid (leaseOf m) s.tmb.tclk = false →
      exec (.leaseRx m) s = .next s) ∧
    (s.sender = true → leAt m.body 0 1 = 0x10 → s.leaseValid (leaseOf m) s.tmb.tclk = true → s.kind m.port = 2 → (leaseOf m).uid ≠ s.uid →
      (leaseOf m).drop = false → s.bit Reg.SXQ_ROLL_CTL 8 = false →
      ∃ t, exec (.leaseRx m) s = .next t ∧ t.red.port[m.port].lease = some (leaseOf m) ∧ t.red.port[m.port].decided = true ∧
        t.rd (Reg.RED_P_PEER_CLAIM m.port.val) = BitVec.ofNat 32 (leaseOf m).claim ∧ t.bit (Reg.RED_P_STATE m.port.val) 30 = true ∧
        t.bit (Reg.RED_P_STATE m.port.val) 31 = (s.toldLease m.port).above (leaseOf m) ∧ s.sameStores t ∧
        s.sameRegs t (fun o => evtWindow o ∨ o = Reg.RED_P_STATE m.port.val ∨ o = Reg.RED_P_PEER_CLAIM m.port.val ∨
          ∃ k, k < 4 ∧ o = Reg.RED_P_PEER_UID m.port.val k)) ∧
    (s.hearsBroadcast m = true → s.mode ≠ 0 → leAt m.body 0 1 = 0x10 → s.epochOk m = true → s.leaseValid (leaseOf m) s.tmb.tclk = true →
      ∃ t, exec (.leaseRx m) s = .next t ∧ t.red.port[m.port].lease = some (leaseOf m) ∧ t.red.port[m.port].leaseAt = s.tmb.tclk ∧
        t.rd (Reg.RED_P_PEER_CLAIM m.port.val) = BitVec.ofNat 32 (leaseOf m).claim ∧ t.bit (Reg.RED_P_STATE m.port.val) 30 = true ∧
        t.bit (Reg.RED_P_STATE m.port.val) 28 = (leaseOf m).drop ∧ s.sameStores t))

/-- R221, R229, R233, R241: DIGEST_RX, STREAM_SLOT_RELEASE, LEASE_PREFRAME_TIMER, SHUN_RX and UNSHUN_RX. -/
def Obligations.DigestsAndShunning : Prop :=
  (∀ (p : Port) (b : List Byte) (s : State),
    ((s.sender && s.kind p == 2 && b.length == 288) = false → exec (.digestRx p b) s = .next s) ∧
    ((s.sender && s.kind p == 2 && b.length == 288) = true →
      ∃ t, exec (.digestRx p b) s = .next t ∧ t.red.port[p].peer = (leAt b 0 4, b) :: s.red.port[p].peer.take 3 ∧
        (∀ q : Port, q ≠ p → t.red.port[q] = s.red.port[q]) ∧ t.regs = s.regs ∧ s.sameStores t)) ∧
  (∀ (i : Fin 16) (s : State),
    ((s.tile && decide (17 ≤ s.red.slots[i].quiet)) = false → exec (.streamSlotRelease i) s = .next s) ∧
    ((s.tile && decide (17 ≤ s.red.slots[i].quiet)) = true →
      ∃ t, exec (.streamSlotRelease i) s = .next t ∧ t.red.slots[i] = StreamSlot.free ∧
        (∀ j : Fin 16, j ≠ i → t.red.slots[j] = s.red.slots[j]) ∧ t.regs = s.regs ∧ s.sameStores t)) ∧
  (∀ s : State, s.canonical →
    ((s.sender && !s.frameValid) = false → exec .leasePreframeTimer s = .next s) ∧
    ((s.sender && !s.frameValid) = true →
      ∃ t, exec .leasePreframeTimer s = .next t ∧ s.sameStores t ∧ s.sameRegs t (fun o => evtWindow o ∨ ∃ p : Port, o = Reg.RED_P_STATE p.val) ∧
        (∀ p : Port, (s.kind p = 1 ∨ s.kind p = 2) →
          t.red.port[p].told = some ((s.rd (Reg.RED_P_CLAIM p.val)).toNat, s.bit (Reg.RED_P_STATE p.val) 28)) ∧
        ((∀ p : Port, s.kind p ≠ 2 ∧ s.red.port[p].unmute = false ∧ s.red.port[p].unshun = false) → t.regs = s.regs))) ∧
  (∀ (m : Msg) (s : State), s.canonical →
    (((s.tile && s.hearsBroadcast m) = false ∨ (s.epochOk m = true ∧ s.fromHolder m = false)) →
      exec (.shunRx m) s = .next s ∧ exec (.unshunRx m) s = .next s) ∧
    ((s.tile && s.hearsBroadcast m) = true → s.epochOk m = false →
      (leAt m.body 0 1 = 0x11 → exec (.shunRx m) s = .next (s.inc Reg.SXQ_EPOCH_REFUSED)) ∧
      (leAt m.body 0 1 = 0x12 → exec (.unshunRx m) s = .next (s.inc Reg.SXQ_EPOCH_REFUSED))) ∧
    ((s.tile && s.hearsBroadcast m && s.epochOk m && s.fromHolder m) = true →
      (leAt m.body 0 1 = 0x11 → ∃ t, exec (.shunRx m) s = .next t ∧
        (∀ p ∈ s.portsOf (leAt m.body 28 16), t.bit (Reg.RED_P_STATE p.val) 27 = true ∧ t.red.port[p].shunned = some (leAt m.body 28 16)) ∧
        s.sameStores t ∧ s.sameRegs t (fun o => evtWindow o ∨ ∃ p ∈ s.portsOf (leAt m.body 28 16), o = Reg.RED_P_STATE p.val)) ∧
      (leAt m.body 0 1 = 0x12 → ∃ t, exec (.unshunRx m) s = .next t ∧
        (∀ p : Port, s.red.port[p].shunned = some (leAt m.body 28 16) →
          t.bit (Reg.RED_P_STATE p.val) 27 = false ∧ t.red.port[p].shunned = none) ∧ s.sameStores t ∧
        s.sameRegs t (fun o => evtWindow o ∨ ∃ p : Port, s.red.port[p].shunned = some (leAt m.body 28 16) ∧ o = Reg.RED_P_STATE p.val))))

/-- R257, R261 to R264, R274, R280, R281, R284, R670: the commands of INP's receivers and of its host pulls. (That a pull in a slot which
captures no more is discarded is log entry 67.) -/
def Obligations.InputReceivers : Prop :=
  (∀ (k : Fin 4) (std linkNo : Nat) (pid : Option Word) (s : State), s.canonical → s.sender = true →
    (∃ t, exec (.sdiLock k std pid linkNo) s = .next t ∧ t.pends Ev.sdiLock ∧
      t.rd (Reg.INP_SDI_STATUS k.val) = BitVec.ofNat 32 (2 ^ 31 + std % 8 * 2 ^ 28 + b2n pid.isSome * 2 ^ 27 + linkNo % 4 * 2 ^ 24) ∧
      t.rd (Reg.INP_SDI_PID k.val) = pid.getD (s.rd (Reg.INP_SDI_PID k.val)) ∧ s.sameStores t ∧
      s.sameRegs t (fun o => evtWindow o ∨ o = Reg.INP_SDI_STATUS k.val ∨ o = Reg.INP_SDI_PID k.val)) ∧
    (∃ t, exec (.sdiUnlock k) s = .next t ∧ t.rd (Reg.INP_SDI_STATUS k.val) = 0 ∧ t.pends Ev.sdiUnlock ∧
      (∀ n : Fin 16, s.captures n = true → (s.receivers n).testBit k.val = true → (s.srcState n = Src.running ∨ s.src[n].heldOver = true) →
        t.srcState n = Src.lost ∧ t.fld (Reg.INP_SRC_STATUS n.val) 28 25 = 1) ∧
      s.sameStores t ∧
      s.sameRegs t (fun o => evtWindow o ∨ o = Reg.INP_SDI_STATUS k.val ∨ ∃ n : Fin 16, s.captures n = true ∧ (s.receivers n).testBit k.val = true ∧
        o = Reg.INP_SRC_STATUS n.val))) ∧
  (∀ (p : Fin 2) (up pcs fec : Bool) (s : State), s.canonical → s.sender = true →
    ∃ t, exec (.ethLinkChange p up pcs fec) s = .next t ∧
      t.rd (Reg.INP_ETH_STATUS p.val) = BitVec.ofNat 32 (b2n up * 2 ^ 31 + b2n pcs * 2 ^ 30 + b2n fec * 2 ^ 29) ∧
      (pcs = true → s.bit (Reg.INP_ETH_STATUS p.val) 30 = false → t.pends Ev.ethUp) ∧
      (pcs = false → s.bit (Reg.INP_ETH_STATUS p.val) 30 = true → t.pends Ev.ethDown) ∧ s.sameStores t ∧
      s.sameRegs t (fun o => (evtWindow o ∧ pcs ≠ s.bit (Reg.INP_ETH_STATUS p.val) 30) ∨ o = Reg.INP_ETH_STATUS p.val)) ∧
  (∀ (m : Fin 16) (s : State), s.canonical →
    ((s.sender && s.bitA (Reg.INP_AUD_CTL m.val) 31) = false → exec (.audioStreamLossTimeout m) s = .next s) ∧
    ((s.sender && s.bitA (Reg.INP_AUD_CTL m.val) 31) = true →
      ∃ t, exec (.audioStreamLossTimeout m) s = .next t ∧ t.bit (Reg.INP_AUD_STATUS m.val) 31 = false ∧ t.pends Ev.audioStreamLoss ∧
        s.sameStores t ∧ s.sameRegs t (fun o => evtWindow o ∨ o = Reg.INP_AUD_STATUS m.val))) ∧
  (∀ (n : Fin 16) (s : State), s.canonical →
    ((s.captures n && (s.srcState n == Src.running || s.src[n].heldOver)) = false → exec (.sourceLossTimeout n) s = .next s) ∧
    (¬ s.clear (s.lossLeft n) → exec (.sourceLossTimeout n) s = .next s) ∧
    ((s.captures n && (s.srcState n == Src.running || s.src[n].heldOver)) = true → s.clear (s.lossLeft n) →
      ∃ t, exec (.sourceLossTimeout n) s = .next t ∧ t.srcState n = Src.lost ∧ t.fld (Reg.INP_SRC_STATUS n.val) 28 25 = 2 ∧
        t.fld (Reg.INP_SRC_STATUS n.val) 15 0 = min 0xFFFF (s.fld (Reg.INP_SRC_STATUS n.val) 15 0 + 1) ∧ t.pends Ev.sourceLost ∧
        t.tmb.tclk = s.tmb.tclk + s.lossLeft n ∧ t.src[n].heldOver = false ∧
        s.sameStores t ∧ s.sameRegs t (fun o => evtWindow o ∨ o = Reg.TMB_TB_FREQ 6 ∨ o = Reg.INP_SRC_STATUS n.val))) ∧
  (∀ (n : Fin 16) (v : Word) (s : State), s.canonical → s.sender = true →
    ((s.src[n].pull.isSome = true ∨ s.pci.bme = false ∨ (s.captures n && s.srcKind n == 3) = false) →
      ∃ t, exec (.hostPullPost n v) s = .next t ∧ t.pends Ev.hostPullDone ∧ t.src = s.src ∧
        t.rd (Reg.INP_SRC_HOST_STAT n.val) = BitVec.ofNat 32
          ((if s.src[n].pull.isSome then Code.BUSY else if s.pci.bme then Code.REFUSED else Code.FAULT) * 2 ^ 28 +
            b2n s.src[n].pull.isSome * 2 ^ 27) ∧ s.sameStores t ∧
        s.sameRegs t (fun o => evtWindow o ∨ o = Reg.INP_SRC_HOST_POST n.val ∨ o = Reg.INP_SRC_HOST_STAT n.val ∨ o = Reg.GLB_CMD_POSTED ∨
          o = Reg.GLB_CMD_PENDING ∨ o = Reg.GLB_CMD_COMPLETED)) ∧
    (s.src[n].pull = none → s.pci.bme = true → (s.captures n && s.srcKind n == 3) = true →
      ∃ t, exec (.hostPullPost n v) s = .next t ∧ t.src[n].pull = some v.toNat ∧ t.src[n].buf = some s.src[n].writing ∧
        t.bit (Reg.INP_SRC_HOST_STAT n.val) 27 = true ∧
        t.out = s.out ++ [.tlp "MRd" (s.rd64 (Reg.INP_SRC_HOST_ADDR_LO n.val)) []] ∧ s.sameStores t ∧
        s.sameRegs t (fun o => o = Reg.INP_SRC_HOST_POST n.val ∨ o = Reg.INP_SRC_HOST_STAT n.val ∨ o = Reg.GLB_CMD_POSTED ∨
          o = Reg.GLB_CMD_PENDING))) ∧
  (∀ (n : Fin 16) (ok poisoned : Bool) (data : List Byte) (s : State), s.canonical → s.sender = true →
    (s.src[n].pull = none → exec (.hostPullDone n ok poisoned data) s = .next s) ∧
    (∀ id, s.src[n].pull = some id → s.captures n = false →
      ∃ t, exec (.hostPullDone n ok poisoned data) s = .next t ∧ t.src[n].pull = none ∧ t.pends Ev.hostPullDone ∧
        t.rd (Reg.INP_SRC_HOST_STAT n.val) = BitVec.ofNat 32 (Code.DISCARDED * 2 ^ 28) ∧ t.src[n].newest = s.src[n].newest ∧ s.sameStores t ∧
        s.sameRegs t (fun o => evtWindow o ∨ o = Reg.INP_SRC_HOST_STAT n.val ∨ o = Reg.GLB_CMD_PENDING ∨ o = Reg.GLB_CMD_DISCARDED ∨
          (o = Reg.PCI_POISON_RX ∧ poisoned = true))) ∧
    (∀ id, s.src[n].pull = some id → s.captures n = true → (ok = false ∨ poisoned = true) →
      ∃ t, exec (.hostPullDone n ok poisoned data) s = .next t ∧ t.src[n].pull = none ∧ t.pends Ev.hostPullDone ∧
        t.rd (Reg.INP_SRC_HOST_STAT n.val) = BitVec.ofNat 32 (Code.FAULT * 2 ^ 28) ∧ t.bit Reg.GLB_OVERRUN 0 = true ∧
        (t.rd (Reg.INP_SRC_ERR n.val)).toNat = min 0xFFFFFFFF ((s.rd (Reg.INP_SRC_ERR n.val)).toNat + 1) ∧ s.sameStores t ∧
        s.sameRegs t (fun o => evtWindow o ∨ o = Reg.INP_SRC_HOST_STAT n.val ∨ o = Reg.INP_SRC_ERR n.val ∨ o = Reg.GLB_CMD_PENDING ∨
          o = Reg.GLB_CMD_COMPLETED ∨ o = Reg.GLB_OVERRUN ∨ (o = Reg.PCI_POISON_RX ∧ poisoned = true))) ∧
    (∀ id, s.src[n].pull = some id → s.captures n = true → ok = true → poisoned = false →
      ∃ t, exec (.hostPullDone n ok poisoned data) s = .next t ∧ t.src[n].pull = none ∧ t.pends Ev.hostPullDone ∧
        t.rd (Reg.INP_SRC_HOST_STAT n.val) = BitVec.ofNat 32 (Code.OK * 2 ^ 28) ∧ t.src[n].newest = some s.src[n].writing ∧
        t.src[n].newestSeq = s.src[n].seq + 1 ∧ t.src[n].seq = s.src[n].seq + 1 ∧
        (t.rd (Reg.INP_SRC_FRAMES n.val)).toNat = min 0xFFFFFFFF ((s.rd (Reg.INP_SRC_FRAMES n.val)).toNat + 1) ∧
        (∀ a, ¬ (s.srcBuffer n s.src[n].writing ≤ a ∧
            a < s.srcBuffer n s.src[n].writing + min data.length (frameBytes (s.srcLayout n) (s.srcPitch n) (s.srcHeight n))) →
          t.byte a = s.byte a) ∧ t.flash = s.flash ∧ t.act = s.act ∧
        s.sameRegs t (fun o => memRegs o ∨ o = Reg.INP_SRC_HOST_STAT n.val ∨ o = Reg.INP_SRC_STATUS n.val ∨ o = Reg.INP_SRC_FRAMES n.val ∨
          o = Reg.INP_SRC_LAST_LO n.val ∨ o = Reg.INP_SRC_LAST_HI n.val ∨ o = Reg.GLB_CMD_PENDING ∨ o = Reg.GLB_CMD_COMPLETED)))

/-- R252, R254 to R261, R269, R274, R279, R281: the commands that bring INP frames and packets, and its reset. -/
def Obligations.InputFrames : Prop :=
  (∀ (rx : Fin 4) (f : SrcFrame) (s : State), s.canonical →
    (s.sender = false → exec (.sourceFrameComplete rx f) s = .next s) ∧
    (s.sender = true → ∃ t, exec (.sourceFrameComplete rx f) s = .next t ∧
      (∀ k : Fin 4, (t.rd (Reg.INP_SDI_CRC_ERR k.val)).toNat = min 0xFFFFFFFF ((s.rd (Reg.INP_SDI_CRC_ERR k.val)).toNat + f.crcLines[k])) ∧
      (∀ n : Fin 16, n ∉ s.slotsOf rx → t.src[n] = s.src[n]) ∧
      (∀ n ∈ s.slotsOf rx,
        t.rd (Reg.INP_SRC_DETECT n.val) = BitVec.ofNat 32 (f.width % 2 ^ 16 * 2 ^ 16 + f.height % 2 ^ 16) ∧
        (t.rd (Reg.INP_SRC_ERR n.val)).toNat =
          min 0xFFFFFFFF ((s.rd (Reg.INP_SRC_ERR n.val)).toNat + b2n (f.crcLines.toList.any (fun c => c != 0))) ∧
        (s.frameFits n f = false → t.src[n].newest = s.src[n].newest ∧ t.src[n].good = 0 ∧
          (s.srcState n = Src.running → t.srcState n = Src.lost ∧ t.pends Ev.sourceLost ∧
            t.fld (Reg.INP_SRC_STATUS n.val) 28 25 = (if s.srcKind n = 1 ∧ 2 < f.skew then 4 else 3))) ∧
        (s.frameFits n f = true → s.crcDrops n f = true → t.src[n].newest = s.src[n].newest ∧ t.src[n].good = 0 ∧
          t.bit Reg.GLB_OVERRUN 0 = true) ∧
        (s.frameFits n f = true → s.crcDrops n f = false → t.src[n].newest = some s.src[n].writing ∧
          t.src[n].newestSeq = s.src[n].seq + 1 ∧ t.src[n].seq = s.src[n].seq + 1 ∧ t.src[n].newestAt = s.tb48 1 ∧
          (t.rd (Reg.INP_SRC_FRAMES n.val)).toNat = min 0xFFFFFFFF ((s.rd (Reg.INP_SRC_FRAMES n.val)).toNat + 1))) ∧
      (∀ a, (∀ n ∈ s.slotsOf rx, s.frameFits n f = true → s.crcDrops n f = false → ¬ s.inPicture n s.src[n].writing (s.picture n f) a) →
        t.byte a = s.byte a) ∧ t.flash = s.flash ∧ t.act = s.act ∧
      s.sameRegs t (fun o => (∃ k : Fin 4, o = Reg.INP_SDI_CRC_ERR k.val) ∨ ∃ n ∈ s.slotsOf rx, memRegs o ∨ o = Reg.GLB_OVERRUN ∨
        o = Reg.INP_SRC_ERR n.val ∨ o = Reg.INP_SRC_DETECT n.val ∨ o = Reg.INP_SRC_STATUS n.val ∨ o = Reg.INP_SRC_FRAMES n.val ∨
        o = Reg.INP_SRC_LAST_LO n.val ∨ o = Reg.INP_SRC_LAST_HI n.val))) ∧
  (∀ (p : Fin 2) (k : VideoPacket) (s : State), s.canonical →
    ((s.sender && s.bit (Reg.INP_ETH_CTL p.val) 0) = false → exec (.st2110PacketRx p k) s = .next s) ∧
    ((s.sender && s.bit (Reg.INP_ETH_CTL p.val) 0) = true → ∃ t, exec (.st2110PacketRx p k) s = .next t ∧
      (t.rd (Reg.INP_ETH_RX_FRAMES p.val)).toNat = min 0xFFFFFFFF ((s.rd (Reg.INP_ETH_RX_FRAMES p.val)).toNat + 1) ∧
      (t.rd (Reg.INP_ETH_RX_DROP p.val)).toNat = min 0xFFFFFFFF ((s.rd (Reg.INP_ETH_RX_DROP p.val)).toNat + b2n (k.full || k.badFcs)) ∧
      (t.rd (Reg.INP_ETH_FEC_UNCORR p.val)).toNat = min 0xFFFFFFFF ((s.rd (Reg.INP_ETH_FEC_UNCORR p.val)).toNat + k.fecUncorr) ∧
      ((k.badFcs = true ∨ s.videoSlot p k = none) → t.src = s.src ∧ s.sameStores t ∧
        s.sameRegs t (fun o => o = Reg.INP_ETH_RX_FRAMES p.val ∨ o = Reg.INP_ETH_RX_DROP p.val ∨ o = Reg.INP_ETH_FEC_UNCORR p.val)) ∧
      (∀ n : Fin 16, k.badFcs = false → s.videoSlot p k = some n → k.full = true → t.src[n].packets.broken = true ∧
        t.src[n].newest = s.src[n].newest ∧
        (s.src[n].packets.broken = false → t.bit Reg.GLB_OVERRUN 0 = true ∧
          (t.rd (Reg.INP_SRC_ERR n.val)).toNat = min 0xFFFFFFFF ((s.rd (Reg.INP_SRC_ERR n.val)).toNat + 1)) ∧ s.sameStores t ∧
        s.sameRegs t (fun o => evtWindow o ∨ o = Reg.GLB_OVERRUN ∨ o = Reg.INP_SRC_ERR n.val ∨ o = Reg.INP_ETH_RX_FRAMES p.val ∨
          o = Reg.INP_ETH_RX_DROP p.val ∨ o = Reg.INP_ETH_FEC_UNCORR p.val)) ∧
      (∀ n : Fin 16, k.badFcs = false → s.videoSlot p k = some n → k.full = false →
        (s.src[n].packets.ts = none ∨ s.src[n].packets.ts = some k.ts) →
        (∀ q, s.src[n].packets.seq = some q → k.seq = (q + 1) % 2 ^ 32) →
        t.src[n].packets.seq = some k.seq ∧
        (k.marker = false → t.src[n].packets.ts = some k.ts ∧ t.src[n].packets.broken = s.src[n].packets.broken ∧
          t.src[n].newest = s.src[n].newest ∧ t.src[n].buf = some s.src[n].writing) ∧
        (k.marker = true → t.src[n].packets.ts = none ∧ t.src[n].packets.broken = false ∧
          (s.src[n].packets.broken = true → t.src[n].newest = s.src[n].newest) ∧
          (∀ f : SrcFrame, f.width = (k.rows.map (fun r => r.offset + r.c0.length)).foldl max s.src[n].packets.width →
            f.scan = (s.src[n].packets.second || k.rows.any (fun r => r.second)) →
            f.height = (if f.scan then 2 else 1) * (k.rows.map (fun r => r.line + 1)).foldl max s.src[n].packets.height →
            f.rate = k.rate → f.depth = none → s.src[n].packets.broken = false →
            (s.formatDiffers n f = false → t.src[n].newest = some s.src[n].writing ∧ t.src[n].newestSeq = s.src[n].seq + 1) ∧
            (s.formatDiffers n f = true → t.src[n].newest = s.src[n].newest ∧
              (s.srcState n = Src.running → t.srcState n = Src.lost ∧ t.fld (Reg.INP_SRC_STATUS n.val) 28 25 = 3)))) ∧
        (∀ a, (∀ r ∈ k.rows, ¬ s.inRow n s.src[n].writing r a) → t.byte a = s.byte a) ∧
        t.flash = s.flash ∧ t.act = s.act ∧
        s.sameRegs t (fun o => memRegs o ∨ o = Reg.INP_ETH_RX_FRAMES p.val ∨ o = Reg.INP_ETH_FEC_UNCORR p.val ∨
          (k.marker = true ∧ (o = Reg.INP_SRC_DETECT n.val ∨ o = Reg.INP_SRC_STATUS n.val ∨ o = Reg.INP_SRC_FRAMES n.val ∨
            o = Reg.INP_SRC_LAST_LO n.val ∨ o = Reg.INP_SRC_LAST_HI n.val)))))) ∧
  (∀ (p : Fin 2) (k : AudioPacket) (s : State), s.canonical →
    ((s.sender && s.bit (Reg.INP_ETH_CTL p.val) 0) = false → exec (.st2110AudioPacketRx p k) s = .next s) ∧
    ((s.sender && s.bit (Reg.INP_ETH_CTL p.val) 0) = true →
      (s.audSlot p k = none → ∃ t, exec (.st2110AudioPacketRx p k) s = .next t ∧
        (t.rd (Reg.INP_ETH_RX_FRAMES p.val)).toNat = min 0xFFFFFFFF ((s.rd (Reg.INP_ETH_RX_FRAMES p.val)).toNat + 1) ∧
        t.aud = s.aud ∧ s.sameStores t ∧ s.sameRegs t (fun o => o = Reg.INP_ETH_RX_FRAMES p.val)) ∧
      (∀ m, s.audSlot p k = some m → ∃ t, exec (.st2110AudioPacketRx p k) s = .next t ∧ t.bit (Reg.INP_AUD_STATUS m) 31 = true ∧
        t.fld (Reg.INP_AUD_STATUS m) 15 0 = min 0xFFFF (s.fld (Reg.INP_AUD_STATUS m) 15 0 + k.skipped) ∧
        (t.rd (Reg.INP_ETH_RX_FRAMES p.val)).toNat = min 0xFFFFFFFF ((s.rd (Reg.INP_ETH_RX_FRAMES p.val)).toNat + 1) ∧
        (s.bitA Reg.AUD_CTL 0 = false → t.aud = s.aud) ∧ s.sameStores t ∧
        s.sameRegs t (fun o => o = Reg.INP_ETH_RX_FRAMES p.val ∨ o = Reg.INP_AUD_STATUS m ∨ (s.bitA Reg.AUD_CTL 0 = true ∧ o = Reg.AUD_RX_LATE))))) ∧
  (∀ s : State, s.canonical →
    (s.sender = false → exec .inpReset s = .next s) ∧
    (s.sender = true → ∃ t, exec .inpReset s = .next t ∧
      (∀ n : Fin 16, t.src[n].pull = none ∧ t.src[n].packets = Packets.none ∧ t.src[n].buf = none ∧ t.src[n].newest = s.src[n].newest ∧
        (s.srcState n = Src.running → t.srcState n = Src.acquiring ∧ t.fld (Reg.INP_SRC_STATUS n.val) 28 25 = 7 ∧ t.src[n].heldOver = true) ∧
        (∀ id, s.src[n].pull = some id → t.rd (Reg.INP_SRC_HOST_STAT n.val) = BitVec.ofNat 32 (Code.DISCARDED * 2 ^ 28) ∧
          t.pends Ev.hostPullDone)) ∧
      s.sameStores t ∧
      s.sameRegs t (fun o => evtWindow o ∨ o = Reg.GLB_OVERRUN ∨ o = Reg.GLB_CMD_PENDING ∨ o = Reg.GLB_CMD_DISCARDED ∨
        ∃ n : Fin 16, o = Reg.INP_SRC_STATUS n.val ∨ o = Reg.INP_SRC_HOST_STAT n.val ∨ o = Reg.INP_SRC_ERR n.val)))

/-- R305, R310 to R313, R315, R317, R322, R326, R327: CANVAS_COMPLETE, CMP_FETCH_ERROR, LOAF_ECC_ERROR and CMP_RESET. -/
def Obligations.CanvasCommands : Prop :=
  (∀ (lost entries : Nat) (s : State), s.canonical →
    ((s.sender && s.bit Reg.CMP_STATUS 30) = false → exec (.canvasComplete lost entries) s = .next s) ∧
    ((s.sender && s.bit Reg.CMP_STATUS 30) = true →
      ∃ t, exec (.canvasComplete lost entries) s = .next t ∧ t.bit Reg.CMP_STATUS 31 = true ∧ t.bit Reg.CMP_STATUS 30 = false ∧
        t.rd Reg.CMP_CYCLES_LAST = BitVec.ofNat 32 (min 0xFFFFFFFF (s.canvasCycles + lost)) ∧
        t.rd Reg.CMP_COV_SKIPPED = BitVec.ofNat 32 (min 0xFFFFFFFF s.skippedPixels) ∧
        t.rd Reg.CMP_LAST_FRAME = BitVec.ofNat 32 s.cmp.frame ∧ t.cmp.done = true ∧
        t.cmp.latest = some ⟨s.canvasBuf (s.fld Reg.CMP_STATUS 29 29), (s.rdA Reg.CMP_CANVAS_PITCH).toNat, s.window⟩ ∧
        t.cmp.scan = s.cmp.scan ∧ t.cmp.loaf.use = s.cmp.loaf.use ∧
        t.cmp.loaf.entries.map (·.tile) = s.cmp.loaf.entries.map (·.tile) ++ s.cmp.loaf.nextTiles entries ∧
        (∀ e ∈ t.cmp.loaf.entries, e ∈ s.cmp.loaf.entries ∨ (e.rect = s.loafTiles.getD e.tile ⟨0, 0, 0, 0⟩ ∧ e.accs.length = e.rect.pixels.length)) ∧
        (t.rd Reg.CMP_LOAF_MISS).toNat = min 0xFFFFFFFF ((s.rd Reg.CMP_LOAF_MISS).toNat +
          (if s.cmp.loaf.begun && s.bitA Reg.CMP_LOAF_CTL 31 then s.cmp.loaf.needed - s.cmp.loaf.cap else 0)) ∧
        (∀ a, (∀ j, j < s.window.h →
            ¬ (s.canvasBuf (s.fld Reg.CMP_STATUS 29 29) + j * (s.rdA Reg.CMP_CANVAS_PITCH).toNat ≤ a ∧
              a < s.canvasBuf (s.fld Reg.CMP_STATUS 29 29) + j * (s.rdA Reg.CMP_CANVAS_PITCH).toNat + 6 * s.window.w)) →
          t.byte a = s.byte a) ∧ t.flash = s.flash ∧ t.act = s.act ∧
        s.sameRegs t (fun o => memRegs o ∨ o = Reg.CMP_STATUS ∨ o = Reg.CMP_CYCLES_LAST ∨ o = Reg.CMP_CYCLES_PEAK ∨
          o = Reg.CMP_COV_SKIPPED ∨ o = Reg.CMP_LAST_FRAME ∨ o = Reg.CMP_LOAF_MISS))) ∧
  (∀ (layer : Fin 64) (addr len : Nat) (s : State), s.canonical →
    ((s.sender && s.bit Reg.CMP_STATUS 30) = false → exec (.cmpFetchError layer addr len) s = .next s) ∧
    ((s.sender && s.bit Reg.CMP_STATUS 30) = true →
      ∃ t, exec (.cmpFetchError layer addr len) s = .next t ∧ t.cmp.zeroed = (layer.val, addr, len) :: s.cmp.zeroed ∧
        (t.rd Reg.CMP_FETCH_ERR).toNat = min 0xFFFFFFFF ((s.rd Reg.CMP_FETCH_ERR).toNat + 1) ∧ t.pends Ev.cmpFetchError ∧
        s.sameStores t ∧ s.sameRegs t (fun o => evtWindow o ∨ o = Reg.CMP_FETCH_ERR))) ∧
  (∀ (tile : Nat) (s : State), s.canonical →
    ((s.sender && s.cmp.loaf.has tile) = false → exec (.loafEccError tile) s = .next s) ∧
    ((s.sender && s.cmp.loaf.has tile) = true →
      ∃ t, exec (.loafEccError tile) s = .next t ∧ t.cmp.loaf.entries = s.cmp.loaf.entries.filter (fun e => e.tile != tile) ∧
        t.cmp.loaf.use = s.cmp.loaf.use.filter (· != tile) ∧
        (t.rd Reg.CMP_LOAF_ECC).toNat = min 0xFFFFFFFF ((s.rd Reg.CMP_LOAF_ECC).toNat + 1) ∧ t.pends Ev.loafEcc ∧
        s.sameStores t ∧ s.sameRegs t (fun o => evtWindow o ∨ o = Reg.CMP_LOAF_ECC))) ∧
  (∀ s : State, s.canonical →
    (s.sender = false → exec .cmpReset s = .next s) ∧
    (s.sender = true → ∃ t, exec .cmpReset s = .next t ∧ t.cmp.loaf.entries = [] ∧ t.cmp.loaf.use = [] ∧ t.cmp.loaf.restart = true ∧
      s.sameStores t ∧ (s.bit Reg.CMP_STATUS 30 = false → t.regs = s.regs) ∧
      (s.bit Reg.CMP_STATUS 30 = true → t.bit Reg.CMP_STATUS 30 = false ∧ t.bit Reg.GLB_OVERRUN 1 = true ∧ t.cmp.dropped = true ∧
        (t.rd Reg.CMP_ABANDONED).toNat = min 0xFFFFFFFF ((s.rd Reg.CMP_ABANDONED).toNat + 1) ∧ t.pends Ev.canvasAbandoned) ∧
      s.sameRegs t (fun o => evtWindow o ∨ o = Reg.CMP_STATUS ∨ o = Reg.CMP_ABANDONED ∨ o = Reg.GLB_OVERRUN ∨
        o = Reg.CMP_CYCLES_LAST ∨ o = Reg.CMP_CYCLES_PEAK)))

/-- R338, R343, R344, R346, R347, R349 to R352, R361: the commands of scan-out and the monitor. -/
def Obligations.ScanOut : Prop :=
  (∀ (p : Port) (s : State), s.canonical →
    (s.sender = false → exec (.scnStarve p) s = .next s) ∧
    (s.sender = true → ∃ t, exec (.scnStarve p) s = .next t ∧
      (t.rd (Reg.SCN_PORT_STARVE p.val)).toNat = min 0xFFFFFFFF ((s.rd (Reg.SCN_PORT_STARVE p.val)).toNat + 1) ∧ s.sameStores t ∧
      s.sameRegs t (fun o => o = Reg.SCN_PORT_STARVE p.val))) ∧
  (∀ s : State, s.canonical →
    (s.sender = false ∨ s.fldA Reg.SCN_MON_CTL 27 24 = 0 ∨ (∃ m, s.monRatio = some m ∧ s.frame % m ≠ 0) →
      exec .monitorFrameStart s = .next s) ∧
    (s.sender = true → s.fldA Reg.SCN_MON_CTL 27 24 ≠ 0 → (∀ m, s.monRatio = some m → s.frame % m = 0) →
      ∃ t, exec .monitorFrameStart s = .next t ∧ t.scn.monRaised = false ∧ t.bit Reg.SCN_MON_STATUS 31 = s.monRatio.isSome ∧
        s.sameStores t ∧ s.sameRegs t (fun o => o = Reg.SCN_MON_STATUS))) ∧
  (∀ (line : Nat) (emptyAt : Option Nat) (s : State), s.canonical →
    ((s.sender && s.fldA Reg.SCN_MON_CTL 27 24 != 0) = false → exec (.monitorLine line emptyAt) s = .next s) ∧
    ((s.sender && s.fldA Reg.SCN_MON_CTL 27 24 != 0) = true →
      (emptyAt = none → ∃ t, exec (.monitorLine line emptyAt) s = .next t ∧
        t.out = s.out ++ [.monLine line ((List.range (monRaster (s.fldA Reg.SCN_MON_CTL 27 24)).1).map (s.monPixel line none))] ∧
        t.regs = s.regs ∧ s.sameStores t) ∧
      (∀ k, emptyAt = some k → ∃ t, exec (.monitorLine line emptyAt) s = .next t ∧ t.scn.monRaised = true ∧
        (t.rd Reg.SCN_MON_UNDERFLOW).toNat = min 0xFFFFFFFF ((s.rd Reg.SCN_MON_UNDERFLOW).toNat + 1) ∧
        (s.scn.monRaised = false → t.pends Ev.monUnderflow) ∧ s.sameStores t ∧
        s.sameRegs t (fun o => (evtWindow o ∧ s.scn.monRaised = false) ∨ o = Reg.SCN_MON_UNDERFLOW)))) ∧
  (∀ (p : Port) (s : State), s.canonical →
    ((s.sender && s.scn.running) = false ∨ (s.scn.port[p].todo = [] ∧ s.scn.port[p].digest = false) → exec (.scnSheafStart p) s = .next s) ∧
    ((s.sender && s.scn.running) = true → ∃ t, exec (.scnSheafStart p) s = .next t ∧ s.sameStores t ∧
      s.sameRegs t (fun o => linkRegs o ∨ o = Reg.SCN_STATUS ∨ o = Reg.SCN_LAST_FRAME ∨
        ∃ w, w < 64 ∧ (o = Reg.SCN_WR_SIG w ∨ o = Reg.SCN_WR_SIG_FRAME w ∨ o = Reg.SCN_WR_MISMATCH w))) ∧
    (∀ r l, (s.sender && s.scn.running) = true → s.scn.port[p].todo = r :: l → s.scn.port[p].idx + 1 < s.sheavesOf r →
      s.scn.port[p].idx ≠ s.dataSheaves r → s.mutedOn p = false → s.active p = false →
      ∃ t, exec (.scnSheafStart p) s = .next t ∧ t.scn.port[p] = ⟨r :: l, s.scn.port[p].idx + 1, s.scn.port[p].digest⟩ ∧
        (t.rd (Reg.SLK_DROP_VC0 p.val)).toNat = min 0xFFFFFFFF ((s.rd (Reg.SLK_DROP_VC0 p.val)).toNat + 1))) ∧
  (∀ (won : BitVec 4) (s : State), s.canonical →
    ((s.sender && s.scn.running) = false → exec (.scnTransportGuard won) s = .next s) ∧
    ((s.sender && s.scn.running) = true → ∃ t, exec (.scnTransportGuard won) s = .next t ∧
      t.tmb.tclk = s.tmb.tclk + s.guardLeft ∧
      (∀ p : Port, t.scn.port[p].todo = [] ∧ t.scn.port[p].digest = false) ∧ t.scn.running = false ∧
      t.rd Reg.SCN_LAST_FRAME = BitVec.ofNat 32 s.scn.frame ∧ t.bit Reg.SCN_STATUS 30 = true ∧
      (won = 0 → ∀ p : Port,
        (t.rd (Reg.SCN_PORT_DISCARD p.val)).toNat = min 0xFFFFFFFF ((s.rd (Reg.SCN_PORT_DISCARD p.val)).toNat + s.unsent p) ∧
        (s.unsent p ≠ 0 → t.bit Reg.GLB_OVERRUN 2 = true ∧ t.pends Ev.portDiscard)) ∧ s.sameStores t ∧
      s.sameRegs t (fun o => linkRegs o ∨ o = Reg.SCN_STATUS ∨ o = Reg.SCN_LAST_FRAME ∨ o = Reg.GLB_OVERRUN ∨
        ∃ p : Port, o = Reg.SCN_PORT_DISCARD p.val)))

/-- R341, R357, R368 to R372, R378, R388, R395: the commands of reception and correction. -/
def Obligations.TileReception : Prop :=
  (∀ (stream frame index : Nat) (body : List Byte) (s : State), s.canonical →
    (s.corOn = false → exec (.regionHeaderRx stream frame body) s = .next s ∧ exec (.pixelSheafRx stream frame index body) s = .next s ∧
      exec (.trailerRx stream frame body) s = .next s) ∧
    (s.corOn = true → frame ≠ s.corFrame → ∃ t, exec (.regionHeaderRx stream frame body) s = .next t ∧
      exec (.pixelSheafRx stream frame index body) s = .next t ∧ exec (.trailerRx stream frame body) s = .next t ∧
      (t.rd Reg.COR_RX_OUTSIDE).toNat = min 0xFFFFFFFF ((s.rd Reg.COR_RX_OUTSIDE).toNat + 1) ∧ t.cor = s.cor ∧ s.sameStores t ∧
      s.sameRegs t (fun o => o = Reg.COR_RX_OUTSIDE)) ∧
    (s.corOn = true → frame = s.corFrame → s.rxStream stream true = false → ∃ t, exec (.regionHeaderRx stream frame body) s = .next t ∧
      exec (.pixelSheafRx stream frame index body) s = .next t ∧ exec (.trailerRx stream frame body) s = .next t ∧
      (t.rd Reg.COR_RX_FOREIGN).toNat = min 0xFFFFFFFF ((s.rd Reg.COR_RX_FOREIGN).toNat + 1) ∧ t.cor = s.cor ∧ s.sameStores t ∧
      s.sameRegs t (fun o => o = Reg.COR_RX_FOREIGN)) ∧
    (s.corOn = true → frame = s.corFrame → s.rxStream stream true = true →
      ∃ t, exec (.regionHeaderRx stream frame body) s = .next t ∧ t.cor.header = true ∧ t.cor.stream = some stream ∧
        t.cor.watches = watchList body ∧ t.bit Reg.COR_STATUS 28 = true ∧
        ((leAt body 4 2 + 1 ≠ s.geo.w ∨ leAt body 6 2 + 1 ≠ s.geo.h) → t.cor.bad = true ∧ t.pends Ev.headerMismatch ∧
          (t.rd Reg.COR_HDR_MISMATCH).toNat = min 0xFFFFFFFF ((s.rd Reg.COR_HDR_MISMATCH).toNat + 1)) ∧
        (∀ a, ¬ s.inFrameStore a → t.byte a = s.byte a) ∧ t.flash = s.flash ∧ t.act = s.act ∧
        s.sameRegs t (fun o => memRegs o ∨ o = Reg.COR_STATUS ∨ o = Reg.COR_HDR_MISMATCH ∨ o = Reg.COR_RX_FOREIGN ∨
          ∃ i, i < 64 ∧ o = Reg.SCN_TW_STATUS i)) ∧
    (s.corOn = true → frame = s.corFrame → s.bitA Reg.COR_RX_CTL 31 = true → s.cor.stream = none →
      ∃ t, exec (.pixelSheafRx stream frame index body) s = .next t ∧ t.cor.early = s.cor.early ++ [(stream, some index, body)] ∧
        t.regs = s.regs ∧ s.sameStores t) ∧
    (s.corOn = true → frame = s.corFrame → s.bitA Reg.COR_RX_CTL 31 = true → s.cor.stream = none →
      ∃ t, exec (.trailerRx stream frame body) s = .next t ∧ t.cor.early = s.cor.early ++ [(stream, none, body)] ∧
        t.regs = s.regs ∧ s.sameStores t) ∧
    (s.corOn = true → frame = s.corFrame → s.rxStream stream false = true →
      ∃ t, exec (.pixelSheafRx stream frame index body) s = .next t ∧ index ∈ t.cor.got ∧
        (∀ a, ¬ s.inFrameStore a → t.byte a = s.byte a) ∧ t.flash = s.flash ∧ t.act = s.act ∧
        s.sameRegs t (fun o => memRegs o ∨ o = Reg.COR_STATUS)) ∧
    (s.corOn = true → frame = s.corFrame → s.rxStream stream false = true →
      ∃ t, exec (.trailerRx stream frame body) s = .next t ∧
        t.cor.trailer = some ((List.range (leAt body 4 1)).map (fun i => (leAt body (8 + 8 * i) 1, leAt body (12 + 8 * i) 4))) ∧
        s.sameStores t ∧ s.sameRegs t (fun o => evtWindow o ∨ o = Reg.COR_STATUS ∨ tileWatchRegs o))) ∧
  (∀ (faults : List (Nat × Nat)) (s : State), s.canonical →
    ((s.corOn && s.frameIn && !s.cor.done) = false → exec (.correctionDone faults) s = .next s) ∧
    ((s.corOn && s.frameIn && !s.cor.done) = true → ∃ t, exec (.correctionDone faults) s = .next t ∧ t.cor.done = true ∧
      (∀ a, ¬ s.inFrameStore a → t.byte a = s.byte a) ∧ t.flash = s.flash ∧ t.act = s.act ∧
      t.rd Reg.SCN_TILE_STATUS = BitVec.ofNat 32 s.corFrame ∧
      s.sameRegs t (fun o => memRegs o ∨ o = Reg.SCN_TILE_STATUS ∨ o = Reg.COR_STATUS ∨ tileWatchRegs o))) ∧
  (∀ (set : Option (Fin 8)) (addr len : Nat) (s : State), s.canonical →
    ((s.corOn && !s.cor.done) = false → exec (.corTableError set addr len) s = .next s) ∧
    ((s.corOn && !s.cor.done) = true → ∃ t, exec (.corTableError set addr len) s = .next t ∧ t.cor.zeroed = (set, addr, len) :: s.cor.zeroed ∧
      (t.rd Reg.COR_TABLE_ERR).toNat = min 0xFFFFFFFF ((s.rd Reg.COR_TABLE_ERR).toNat + 1) ∧ t.pends Ev.tableError ∧
      (∀ a, ¬ ((s.cor.buf.get s.writeBuf).addr ≤ a ∧ a < (s.cor.buf.get s.writeBuf).addr + 2 * (s.cor.next * s.geo.e)) → t.byte a = s.byte a) ∧
      t.flash = s.flash ∧ t.act = s.act ∧ s.sameRegs t (fun o => memRegs o ∨ o = Reg.COR_TABLE_ERR))) ∧
  (∀ s : State, s.canonical →
    (s.tile = false → exec .corReset s = .next s) ∧
    (s.tile = true → ∃ t, exec .corReset s = .next t ∧ t.cor.bad = true ∧ t.cor.header = false ∧ t.cor.stream = none ∧ t.cor.next = 0 ∧
      t.cor.buf = s.cor.buf ∧ t.bit Reg.COR_STATUS 28 = false ∧ t.bit Reg.COR_STATUS 22 = true ∧ t.bit Reg.COR_TEMP_STATUS 31 = false ∧
      s.sameStores t ∧ s.sameRegs t (fun o => o = Reg.COR_STATUS ∨ o = Reg.COR_TEMP_STATUS)))

/-- R405, R411, R427, R429 to R432, R434: the commands of FUR's lanes. -/
def Obligations.FurrowLanes : Prop :=
  (∀ (l : Fin 64) (pkt : List Byte) (s : State), s.canonical →
    ((s.tile && (s.laneState l.val == Lane.starting || s.laneState l.val == Lane.mismatch)) = false →
      exec (.furrowEnumReturn l pkt) s = .next s) ∧
    ((s.tile && (s.laneState l.val == Lane.starting || s.laneState l.val == Lane.mismatch)) = true → furCrcOk pkt = false →
      ∃ t, exec (.furrowEnumReturn l pkt) s = .next t ∧
        (t.rd (Reg.FUR_LANE_ERR l.val)).toNat = min 0xFFFFFFFF ((s.rd (Reg.FUR_LANE_ERR l.val)).toNat + 1) ∧
        s.sameStores t ∧ s.sameRegs t (fun o => o = Reg.FUR_LANE_ERR l.val)) ∧
    ((s.tile && (s.laneState l.val == Lane.starting || s.laneState l.val == Lane.mismatch)) = true → furCrcOk pkt = true →
      ∃ t, exec (.furrowEnumReturn l pkt) s = .next t ∧
        t.fur.found = sPut (fun _ => []) s.fur.found l.val
          (bytesWords (min 36 (leAt (parseFur pkt).payload 0 1)) ((parseFur pkt).payload.drop 4)) ∧
        t.fld (Reg.FUR_LANE_STATUS l.val) 28 0 = (min 36 (leAt (parseFur pkt).payload 0 1) * 2 ^ 16 +
          (t.positions l.val 1).length * 2 ^ 8 + min 7 (t.positions l.val 2).length) % 2 ^ 29 ∧
        ((t.positions l.val 1).length = s.expectSinks l.val → (t.positions l.val 2).length = s.expectRows l.val →
          leAt (parseFur pkt).payload 1 1 = 0 → t.laneState l.val = Lane.up ∧ t.pends Ev.laneUp) ∧
        ((t.positions l.val 1).length ≠ s.expectSinks l.val ∨ (t.positions l.val 2).length ≠ s.expectRows l.val ∨
          leAt (parseFur pkt).payload 1 1 ≠ 0 → t.laneState l.val = Lane.mismatch ∧ t.pends Ev.enumMismatch) ∧
        s.sameStores t ∧ s.sameRegs t (fun o => evtWindow o ∨ o = Reg.FUR_LANE_STATUS l.val))) ∧
  (∀ (l : Fin 64) (s : State), s.canonical →
    ((s.tile && s.laneState l.val == Lane.mismatch) = false → exec (.furrowEnumRetry l) s = .next s) ∧
    ((s.tile && s.laneState l.val == Lane.mismatch) = true → ∃ t, exec (.furrowEnumRetry l) s = .next t ∧
      t.out = s.out ++ [.furrow l.val (enumPkt.bytes (s.laneSeq l.val))] ∧ t.regs = s.regs ∧ s.sameStores t)) ∧
  (∀ (l : Fin 64) (ns : Nat) (s : State), s.canonical →
    ((s.tile && s.laneState l.val != Lane.off) = false → exec (.furrowSyncReturn l ns) s = .next s) ∧
    ((s.tile && s.laneState l.val != Lane.off) = true → ∃ t, exec (.furrowSyncReturn l ns) s = .next t ∧
      t.fld (Reg.FUR_LANE_LOOP l.val) 15 0 = min 0xFFFF ns ∧ (ns ≤ 20000 → l.val ∉ t.fur.syncOut) ∧
      (20000 < ns → t.fur = s.fur) ∧ s.sameStores t ∧ s.sameRegs t (fun o => o = Reg.FUR_LANE_LOOP l.val))) ∧
  (∀ (l : Fin 64) (s : State), s.canonical →
    (s.looped l.val = false → exec (.furrowLoopTimeout l) s = .next s ∧ exec (.furrowRxLockLoss l) s = .next s) ∧
    (s.looped l.val = true → ∃ t, exec (.furrowRxLockLoss l) s = .next t ∧ s.loopIsLost l.val t) ∧
    ((s.syncLost l.val = false ∨ ¬ s.clear s.syncLeft) → exec (.furrowLoopTimeout l) s = .next s) ∧
    (s.syncLost l.val = true → s.clear s.syncLeft → ∃ t, exec (.furrowLoopTimeout l) s = .next t ∧ s.loopIsLost l.val t ∧
      t.tmb.tclk = s.tmb.tclk + s.syncLeft)) ∧
  (∀ (l : Fin 64) (s : State), s.canonical →
    ((s.tile && s.laneState l.val == Lane.lost) = false → exec (.furrowRxLock l) s = .next s) ∧
    ((s.tile && s.laneState l.val == Lane.lost) = true → ∃ t, exec (.furrowRxLock l) s = .next t ∧ l.val ∈ t.fur.restart ∧
      (∀ x, x ≠ l.val → (x ∈ t.fur.restart ↔ x ∈ s.fur.restart)) ∧ t.regs = s.regs ∧ s.sameStores t)) ∧
  (∀ s : State, s.canonical →
    (s.tile = false → exec .furReset s = .next s) ∧
    (s.tile = true → ∃ t, exec .furReset s = .next t ∧ t.fur.skip = true ∧ t.fur.ops = [] ∧ t.fur.restart = [] ∧ t.fur.joined = [] ∧
      t.lmp.tests = [] ∧ t.lmp.results = [] ∧
      ((∃ o ∈ s.fur.ops, o.kind = .access) →
        t.bit Reg.FUR_ACC_CTL 31 = false ∧ t.fld Reg.FUR_ACC_CTL 30 27 = Code.DISCARDED ∧ t.pends Ev.accessDone ∧
          t.rd Reg.GLB_CMD_DISCARDED = s.rd Reg.GLB_CMD_DISCARDED + 1) ∧
      (∀ l, l < 64 → s.laneOn l = true → t.laneState l = Lane.starting) ∧ s.sameStores t ∧
      s.sameRegs t (fun o => evtWindow o ∨ o = Reg.FUR_ACC_CTL ∨ o = Reg.GLB_CMD_PENDING ∨ o = Reg.GLB_CMD_DISCARDED ∨ ∃ l, l < 64 ∧ s.laneOn l = true ∧ o = Reg.FUR_LANE_STATUS l))) ∧
  (∀ (addr len : Nat) (s : State), s.canonical →
    ((s.tile && s.fur.running) = false → exec (.furFetchError addr len) s = .next s) ∧
    ((s.tile && s.fur.running) = true → ∃ t, exec (.furFetchError addr len) s = .next t ∧ t.fur.bad = (addr, len) :: s.fur.bad ∧
      (t.rd Reg.FUR_FETCH_ERR).toNat = min 0xFFFFFFFF ((s.rd Reg.FUR_FETCH_ERR).toNat + 1) ∧ t.pends Ev.fetchError ∧
      s.sameStores t ∧ s.sameRegs t (fun o => evtWindow o ∨ o = Reg.FUR_FETCH_ERR)))

/-- R405, R412, R420, R424, R427, R439: the commands of FUR's frames, packets and accesses. -/
def Obligations.FurrowFrames : Prop :=
  (∀ (j : Fin 16) (s : State), s.canonical →
    ((s.furRuns j.val && !s.fur.uploads.any (fun u => u.1 == j.val)) = false → exec (.subframeUpload j) s = .next s) ∧
    ((s.furRuns j.val && !s.fur.uploads.any (fun u => u.1 == j.val)) = true → ∃ t, exec (.subframeUpload j) s = .next t ∧
      (∃ x, t.fur.uploads = (j.val, x) :: s.fur.uploads) ∧ t.fur.bad = [] ∧ t.fur.started = s.fur.started ∧ s.sameStores t ∧
      s.sameRegs t (fun o => evtWindow o ∨ lampRegs o ∨ tileWatchRegs o ∨ o = Reg.COR_STATUS ∨ ∃ i, o = Reg.SCN_TW_SIG_T4 i)) ∧
    ((s.furRuns j.val && !s.fur.started.contains j.val && !s.fur.lates.contains j.val) = false → exec (.subframeStart j) s = .next s) ∧
    ((s.furRuns j.val && !s.fur.started.contains j.val && !s.fur.lates.contains j.val) = true →
      ∃ t, exec (.subframeStart j) s = .next t ∧ t.fur.uploads = s.fur.uploads ∧
        (s.fur.uploads.any (fun u => u.1 == j.val) = true → t.fur.started = j.val :: s.fur.started ∧ t.fur.lates = s.fur.lates) ∧
        (s.fur.uploads.any (fun u => u.1 == j.val) = false → t.fur.started = s.fur.started ∧ t.fur.lates = j.val :: s.fur.lates ∧
          (t.rd Reg.FUR_SF_LATE).toNat = min 0xFFFFFFFF ((s.rd Reg.FUR_SF_LATE).toNat + 1) ∧ t.bit Reg.GLB_OVERRUN 4 = true ∧
          t.fur.lateRaised = true ∧ (s.fur.lateRaised = false → t.pends Ev.subframeLate)) ∧
        s.sameStores t ∧
        s.sameRegs t (fun o => evtWindow o ∨ o = Reg.FUR_SF_LATE ∨ o = Reg.GLB_OVERRUN ∨ o = Reg.LMP_TEST_COUNT ∨
          o = Reg.LMP_TEST_MISSED))) ∧
  (∀ (v : Word) (s : State), s.canonical →
    ((s.tile = false ∨ s.bit Reg.FUR_ACC_CTL 31 = true) → exec (.furAccessRead v) s = .next s ∧ exec (.furAccessWrite v) s = .next s) ∧
    (s.tile = true → s.bit Reg.FUR_ACC_CTL 31 = false →
      (∃ t, exec (.furAccessRead v) s = .next t ∧ s.accessDoes false v t) ∧
      (∃ t, exec (.furAccessWrite v) s = .next t ∧ s.accessDoes true v t))) ∧
  (∀ (l : Fin 64) (pkt : List Byte) (s : State), s.canonical →
    ((s.tile && s.laneState l.val != Lane.off) = false → exec (.furrowPacketReturn l pkt) s = .next s) ∧
    ((s.tile && s.laneState l.val != Lane.off) = true → ∃ t, exec (.furrowPacketReturn l pkt) s = .next t ∧
      (t.rd (Reg.FUR_LANE_ERR l.val)).toNat = min 0xFFFFFFFF ((s.rd (Reg.FUR_LANE_ERR l.val)).toNat + b2n (!furCrcOk pkt)) ∧
      (∀ (o : FurOp) (rest : List FurOp), ((parseFur pkt).type = 4 ∨ (parseFur pkt).type = 5) →
        s.returned l.val (furSeq pkt) = (some o, rest) → o.kind = .access →
        ((furCrcOk pkt && (o.pkt.bcast || (parseFur pkt).flags.testBit 3)) = true → t.fur.ops = rest ∧
          t.bit Reg.FUR_ACC_CTL 31 = false ∧ t.fld Reg.FUR_ACC_CTL 30 27 = Code.OK ∧ t.pends Ev.accessDone) ∧
        ((furCrcOk pkt && (o.pkt.bcast || (parseFur pkt).flags.testBit 3)) = false → o.fails < 2 →
          s.laneState l.val ≠ Lane.lost → ∃ o', t.fur.ops = rest ++ [o'] ∧ o'.pkt = o.pkt ∧ o'.kind = o.kind ∧ o'.lane = l.val ∧ o'.fails = o.fails + 1) ∧
        ((furCrcOk pkt && (o.pkt.bcast || (parseFur pkt).flags.testBit 3)) = false → 2 ≤ o.fails → t.fur.ops = rest ∧
          t.bit Reg.FUR_ACC_CTL 31 = false ∧ t.fld Reg.FUR_ACC_CTL 30 27 = Code.FAULT ∧ t.pends Ev.accessDone)) ∧
      s.sameStores t ∧
      s.sameRegs t (fun o => evtWindow o ∨ o = Reg.FUR_LANE_ERR l.val ∨ o = Reg.FUR_ACC_CTL ∨ o = Reg.GLB_CMD_PENDING ∨
        o = Reg.GLB_CMD_COMPLETED ∨ lampRegs o ∨
        ∃ i, i < 4 ∧ o = Reg.FUR_ACC_DATA i)))

/-- R403, R405, R407 to R412, R416: the commands of a companion's lock, time and packets. -/
def Obligations.CompanionPackets : Prop :=
  (∀ (l place : Fin 64) (id : Word) (s : State),
    (s.live = false → exec (.companionSymbolLock l place id) s = .next s) ∧
    (s.live = true → ∃ t, exec (.companionSymbolLock l place id) s = .next t ∧
      t.comp l place = { s.comp l place with
        id := if (s.comp l place).id = 0 then id else (s.comp l place).id, locked := true, waitSync := true } ∧
      s.onlyComp t l place)) ∧
  (∀ (l place : Fin 64) (s : State),
    (s.compOn l place = false → exec (.companionLockLoss l place) s = .next s) ∧
    (s.compOn l place = true → ∃ t, exec (.companionLockLoss l place) s = .next t ∧
      t.comp l place = { s.comp l place with locked := false, waitSync := true, held := [], line := none, row := none, lit := [] } ∧
      s.onlyComp t l place)) ∧
  (∀ (l place : Fin 64) (pkt : List Byte) (s : State),
    (s.compOn l place = false → exec (.companionSync l place pkt) s = .next s ∧ exec (.companionTimedPacket l place pkt) s = .next s ∧
      exec (.companionData l place pkt) s = .next s ∧ exec (.companionEnum l place pkt) s = .next s ∧
      exec (.companionWrite l place pkt) s = .next s ∧ exec (.companionRead l place pkt) s = .next s) ∧
    (s.compOn l place = true → furCrcOk pkt = true → (parseFur pkt).type = 1 → ∃ t, exec (.companionSync l place pkt) s = .next t ∧
      (t.comp l place).waitSync = false ∧
      t.compStep (t.comp l place) =
        (leAt (parseFur pkt).payload 0 3 + 8 * ((s.comp l place).pos.map (fun x => x.1)).getD 0) % 2 ^ 24 ∧
      s.onlyComp t l place) ∧
    (s.compOn l place = true → furCrcOk pkt = false →
      (((parseFur pkt).type = 2 ∨ (parseFur pkt).type = 7) → ∃ t, exec (.companionTimedPacket l place pkt) s = .next t ∧
        t.comp l place = { s.comp l place with crcErr := min 65535 ((s.comp l place).crcErr + 1) } ∧ s.onlyComp t l place) ∧
      ((parseFur pkt).type = 3 → ∃ t, exec (.companionData l place pkt) s = .next t ∧
        t.comp l place = { s.comp l place with crcErr := min 65535 ((s.comp l place).crcErr + 1) } ∧ s.onlyComp t l place) ∧
      ((parseFur pkt).type = 4 → ∃ t, exec (.companionWrite l place pkt) s = .next t ∧
        t.comp l place = { s.comp l place with crcErr := min 65535 ((s.comp l place).crcErr + 1) } ∧ s.onlyComp t l place)) ∧
    (s.compOn l place = true → furCrcOk pkt = true → ((parseFur pkt).type = 2 ∨ (parseFur pkt).type = 7) →
      ((s.comp l place).takes (parseFur pkt) = false → exec (.companionTimedPacket l place pkt) s = .next s) ∧
      ((s.comp l place).takes (parseFur pkt) = true →
        (subMod 24 (parseFur pkt).at_ (s.compStep (s.comp l place)) < 2 ^ 23 ∧ (s.comp l place).held.length < 8) →
        ∃ t, exec (.companionTimedPacket l place pkt) s = .next t ∧
          t.comp l place = { s.comp l place with held := (s.comp l place).held ++ [parseFur pkt] } ∧ s.onlyComp t l place) ∧
      (s.canonical → (s.comp l place).takes (parseFur pkt) = true →
        ¬ (subMod 24 (parseFur pkt).at_ (s.compStep (s.comp l place)) < 2 ^ 23 ∧ (s.comp l place).held.length < 8) →
        ∃ t, exec (.companionTimedPacket l place pkt) s = .next t ∧
          t.comp l place = { s.comp l place with late := min 255 ((s.comp l place).late + 1) } ∧ s.onlyCompTest t l place)) ∧
    (s.compOn l place = true → furCrcOk pkt = true → (parseFur pkt).type = 3 → ∃ t, exec (.companionData l place pkt) s = .next t ∧
      t.comp l place = { s.comp l place with back := (t.comp l place).back } ∧
      (∀ x i, (s.comp l place).pos = some (x, i) → (s.comp l place).sink = true → (parseFur pkt).addr ≤ i →
        72 * (i - (parseFur pkt).addr + 1) ≤ (parseFur pkt).payload.length → (parseFur pkt).arg < 64 →
        ∃ v, (t.comp l place).back = ((parseFur pkt).arg, v) :: (s.comp l place).back.filter (fun x => x.1 != (parseFur pkt).arg) ∧
          v.length = 48 ∧ ∀ c, c < 24 →
            v[2 * c]? = some (leAt (parseFur pkt).payload (72 * (i - (parseFur pkt).addr) + 3 * c) 3 % 2 ^ 12) ∧
            v[2 * c + 1]? = some (leAt (parseFur pkt).payload (72 * (i - (parseFur pkt).addr) + 3 * c) 3 / 2 ^ 12)) ∧
      s.onlyComp t l place) ∧
    (s.compOn l place = true → (parseFur pkt).type = 6 → ∃ t, exec (.companionEnum l place pkt) s = .next t ∧
      (furCrcOk pkt = false → t.comp l place = s.comp l place) ∧
      (furCrcOk pkt = true → 36 ≤ leAt (parseFur pkt).payload 0 1 → t.comp l place = { s.comp l place with pos := none }) ∧
      (furCrcOk pkt = true → leAt (parseFur pkt).payload 0 1 < 36 →
        ∃ k, t.comp l place = { s.comp l place with pos := some (leAt (parseFur pkt).payload 0 1, k) }) ∧
      (∃ b, t.out = s.out ++ [.cascade l.val place.val b]) ∧ s.onlyComp t l place) ∧
    (s.compOn l place = true → furCrcOk pkt = true → (parseFur pkt).type = 4 →
      ((s.comp l place).addressed (parseFur pkt) = false → exec (.companionWrite l place pkt) s = .next s) ∧
      ((s.comp l place).addressed (parseFur pkt) = true → ∃ t, exec (.companionWrite l place pkt) s = .next t ∧
        t.comp l place = (List.range (min 4 (parseFur pkt).arg)).foldl (fun c i =>
          c.setReg (leAt (parseFur pkt).payload 0 2 + i) (leAt (parseFur pkt).payload (4 + 4 * i) 4)) (s.comp l place) ∧
        ((parseFur pkt).bcast = false → ∃ b, t.out = s.out ++ [.cascade l.val place.val b]) ∧
        ((parseFur pkt).bcast = true → t.out = s.out) ∧ s.onlyComp t l place)) ∧
    (s.compOn l place = true → (parseFur pkt).type = 5 → (s.comp l place).addressed (parseFur pkt) = true →
      ∃ t b, exec (.companionRead l place pkt) s = .next t ∧ t.out = s.out ++ [.cascade l.val place.val b] ∧ t.fur = s.fur ∧
        s.onlyComp t l place))

/-- R410, R415 to R418: the timed commands of a companion. -/
def Obligations.CompanionLines : Prop :=
  (∀ (l place : Fin 64) (a b : BitVec 48) (s : State),
    (s.compOn l place = false → exec (.companionLine l place a b) s = .next s ∧ exec (.companionLineOff l place) s = .next s ∧
      exec (.companionTest l place a b) s = .next s) ∧
    ((s.compOn l place && (s.comp l place).rowDriver) = false → exec (.rowDriverWatchdog l place) s = .next s) ∧
    ((s.compOn l place && (s.comp l place).rowDriver) = true → ∃ t, exec (.rowDriverWatchdog l place) s = .next t ∧
      t.comp l place = { s.comp l place with row := none } ∧ s.onlyComp t l place)) ∧
  (∀ (l place : Fin 64) (a b : BitVec 48) (rest : List FurPkt) (s : State), s.compOn l place = true →
    ((s.due (s.comp l place) (fun p => p.type == 2 && decide (p.arg < 64))).1 = none → exec (.companionLine l place a b) s = .next s) ∧
    (∀ p, s.due (s.comp l place) (fun p => p.type == 2 && decide (p.arg < 64)) = (some p, rest) →
      ∃ t, exec (.companionLine l place a b) s = .next t ∧ (t.comp l place).line = some p.arg ∧ (t.comp l place).held = rest ∧
        (p.flags.testBit 0 = true → (t.comp l place).front = (s.comp l place).back ∧ (t.comp l place).back = []) ∧
        (p.flags.testBit 0 = false → (t.comp l place).front = (s.comp l place).front ∧ (t.comp l place).back = (s.comp l place).back) ∧
        (p.flags.testBit 1 = true → (t.comp l place).current.2 = (s.comp l place).current.1) ∧
        ((s.comp l place).waitSync = true → (t.comp l place).row = none ∧ (t.comp l place).lit = []) ∧
        ((s.comp l place).waitSync = false → (s.comp l place).sink = false → (t.comp l place).row = (t.comp l place).rowFor p.arg) ∧
        ((s.comp l place).waitSync = false → (s.comp l place).sink = true →
          ((t.comp l place).front.find? (fun x => x.1 == p.arg) = none →
            (t.comp l place).missed = min 255 ((s.comp l place).missed + 1) ∧ (t.comp l place).lit = []) ∧
          (∀ q v, (t.comp l place).front.find? (fun x => x.1 == p.arg) = some (q, v) →
            (t.comp l place).lit = (v.zipIdx.map (fun x => (x.2, x.1))).filter (fun x => x.2 != 0))) ∧
        s.onlyComp t l place) ∧
    ((s.due (s.comp l place) (fun p => p.type == 2 && p.arg == 0xFF)).1 = none → exec (.companionLineOff l place) s = .next s) ∧
    (∀ p, s.due (s.comp l place) (fun p => p.type == 2 && p.arg == 0xFF) = (some p, rest) →
      ∃ t, exec (.companionLineOff l place) s = .next t ∧ (t.comp l place).line = none ∧ (t.comp l place).row = none ∧
        (t.comp l place).lit = [] ∧ (t.comp l place).held = rest ∧ s.onlyComp t l place) ∧
    ((s.due (s.comp l place) (fun p => p.type == 7)).1 = none → exec (.companionTest l place a b) s = .next s) ∧
    (∀ p, s.due (s.comp l place) (fun p => p.type == 7) = (some p, rest) → s.canonical →
      ∃ t, exec (.companionTest l place a b) s = .next t ∧ (t.comp l place).held = rest ∧
        ((s.comp l place).line.isSome = true → (t.comp l place).late = min 255 ((s.comp l place).late + 1)) ∧
        ((s.comp l place).line = none → (s.comp l place).sink = true → (s.comp l place).waitSync = false → p.arg < 64 →
          t.comp l place = { (({ s.comp l place with held := rest } : Companion).record p.arg
            (a.toNat &&& (s.comp l place).arm) (b.toNat &&& (s.comp l place).arm)) with arm := 0 } ∧ t.regs = s.regs) ∧
        s.onlyCompTest t l place))

/-- R451, R455, R456, R463: the commands of LMP. -/
def Obligations.LampCommands : Prop :=
  (∀ (k : Fin 32) (r : Fin 64) (part : Fin 4) (v : Word) (s : State), s.canonical →
    (s.tile = false → exec (.lmpMapClear k r part v) s = .next s) ∧
    (s.tile = true → ∃ t, exec (.lmpMapClear k r part v) s = .next t ∧
      (∀ key i m, key = lineKey (s.fld Reg.LMP_MAP_LANE 5 0) k.val r.val → i = (if part.val < 2 then 0 else 2) →
        m = (if part.val % 2 = 0 then v.toNat else v.toNat % 2 ^ 16 * 2 ^ 32) →
        t.lmp.faults = sPut none0 (sPut none0 s.lmp.faults (4 * key + i) (s.faultMask key i &&& (m ^^^ (2 ^ 48 - 1)))) (4 * key + (i + 1))
          (s.faultMask key (i + 1) &&& (m ^^^ (2 ^ 48 - 1))) ∧
        (s.faultMask key (i + 1) &&& m = 0 → t.regs = s.regs) ∧ (s.faultMask key (i + 1) &&& m ≠ 0 → t.pends Ev.faultCleared)) ∧
      s.sameStores t ∧ s.sameRegs t (fun o => evtWindow o ∨ lampRegs o))) ∧
  (∀ (err : Bool) (s : State), s.canonical →
    ((s.tile && s.lmp.loading) = false → exec (.lmpTableLoad err) s = .next s) ∧
    ((s.tile && s.lmp.loading) = true → ∃ t, exec (.lmpTableLoad err) s = .next t ∧ t.lmp.loading = false ∧
      t.lmp.groups = s.lmp.groups ∧
      (s.addrA Reg.LMP_GROUP_BASE_LO % 4096 = 0 → err = false →
        t.lmp.next = some (s.fldA Reg.LMP_GROUP_GEN 15 0, s.readGroups (s.addrA Reg.LMP_GROUP_BASE_LO)) ∧ t.regs = s.regs) ∧
      (s.addrA Reg.LMP_GROUP_BASE_LO % 4096 ≠ 0 → t.fld Reg.LMP_STATUS 31 30 = 2 ∧ t.pends Ev.lmpTableError ∧ t.lmp.next = s.lmp.next) ∧
      (s.addrA Reg.LMP_GROUP_BASE_LO % 4096 = 0 → err = true →
        t.fld Reg.LMP_STATUS 31 30 = 3 ∧ t.pends Ev.lmpTableError ∧ t.lmp.next = s.lmp.next) ∧
      s.sameStores t ∧ s.sameRegs t (fun o => evtWindow o ∨ o = Reg.LMP_STATUS))) ∧
  (∀ s : State,
    (s.tile = false → exec .lmpReset s = .next s) ∧
    (s.tile = true → ∃ t, exec .lmpReset s = .next t ∧
      t.lmp = { s.lmp with seen := [], since := [], tests := [], results := [], sweep := [] } ∧
      (∀ o, o ∈ t.fur.ops ↔ o ∈ s.fur.ops ∧ (o.kind = .access ∨ o.kind = .config)) ∧ t.regs = s.regs ∧ s.sameStores t))

/-- R469, R470, R472, R477, R480 to R482, R487: the commands of CAL. -/
def Obligations.CalCommands : Prop :=
  (∀ (q : Nat) (codes : Vector (BitVec 16) 8) (s : State), s.canonical →
    ((s.samples q = false ∨ ¬ s.clear (s.sampleLeft q)) → exec (.calSample q codes) s = .next s) ∧
    (s.samples q = true → s.clear (s.sampleLeft q) →
      ∃ t, exec (.calSample q codes) s = .next t ∧ t.cal.nextQ = q + 1 ∧ t.tmb.tclk = s.tmb.tclk + s.sampleLeft q ∧
        (t.rd Reg.CAL_MIXED).toNat = min 0xFFFFFFFF ((s.rd Reg.CAL_MIXED).toNat +
          (if s.sampleClass (s.sampleAt q) = .mixed then s.sensors.length else 0)) ∧ s.sameStores t ∧
        s.sameRegs t (fun o => evtWindow o ∨ o = Reg.TMB_TB_FREQ 6 ∨ o = Reg.CAL_MIXED ∨ o = Reg.CAL_SAT ∨ o = Reg.CAL_ADC_STATUS))) ∧
  (∀ s : State, s.canonical →
    (s.tile = false → exec .calAdcSync s = .next s ∧ exec .calSolveAbort s = .next s ∧ exec .calReset s = .next s ∧
      exec .calSolveStepDone s = .next s ∧ ∀ v, exec (.calSolveGo v) s = .next s) ∧
    (s.tile = true → ∃ t, exec .calAdcSync s = .next t ∧
      (∀ x ∈ t.cal.sens, x.lit.hist = [] ∧ x.dark.hist = [] ∧
        x.lit.settling = (if s.fldA Reg.CAL_ADC_CTL 31 30 = 2 then 0 else 32) ∧
        x.dark.settling = (if s.fldA Reg.CAL_ADC_CTL 31 30 = 2 then 0 else 32)) ∧
      t.cal.solve = s.cal.solve ∧ s.sameStores t ∧ s.sameRegs t (fun o => o = Reg.CAL_ADC_STATUS)) ∧
    (s.tile = true → ¬ (s.solvePhase = Phase.queued ∨ s.solvePhase = Phase.running) → exec .calSolveAbort s = .next s) ∧
    (s.tile = true → (s.solvePhase = Phase.queued ∨ s.solvePhase = Phase.running) → ∃ t, exec .calSolveAbort s = .next t ∧
      t.solvePhase = Phase.discarded ∧ t.fld Reg.CAL_SOLVE_STATUS 28 25 = Code.DISCARDED ∧ t.cal.solve = none ∧ t.pends Ev.solveDone ∧
      t.rd Reg.GLB_CMD_DISCARDED = s.rd Reg.GLB_CMD_DISCARDED + 1 ∧ s.sameStores t ∧
      s.sameRegs t (fun o => evtWindow o ∨ o = Reg.CAL_SOLVE_STATUS ∨ o = Reg.GLB_CMD_DISCARDED ∨ o = Reg.GLB_CMD_PENDING)) ∧
    (s.tile = true → ∃ t, exec .calReset s = .next t ∧
      (∀ x ∈ t.cal.sens, x.lit.hist = [] ∧ x.dark.hist = []) ∧
      ((s.solvePhase = Phase.queued ∨ s.solvePhase = Phase.running) → t.solvePhase = Phase.discarded ∧ t.cal.solve = none) ∧ s.sameStores t ∧
      s.sameRegs t (fun o => evtWindow o ∨ o = Reg.CAL_SOLVE_STATUS ∨ o = Reg.GLB_CMD_DISCARDED ∨ o = Reg.GLB_CMD_PENDING ∨
        o = Reg.CAL_ADC_STATUS)) ∧
    (s.tile = true → (s.cal.solve = none ∨ ∃ x, s.cal.solve = some x ∧ (x.step && !x.ready) = false) → exec .calSolveStepDone s = .next s) ∧
    (∀ x, s.tile = true → s.cal.solve = some x → (x.step && !x.ready) = true → ∃ t r, exec .calSolveStepDone s = .next t ∧
      t.cal.solve = some { x with ready := true, result := r } ∧ s.sameStores t ∧
      s.sameRegs t (fun o => ∃ i, o = Reg.CAL_SENS_FIT i ∨ o = Reg.CAL_SENS_FLAGS i ∨ ∃ k, o = Reg.CAL_SENS_A i k))) ∧
  (∀ (v : Word) (s : State), s.canonical → s.tile = true →
    ((s.solvePhase = Phase.queued ∨ s.solvePhase = Phase.running) → ∃ t, exec (.calSolveGo v) s = .next t ∧
      t.bit Reg.CAL_SOLVE_CTL 1 = true ∧ t.cal = s.cal ∧ s.sameStores t ∧ s.sameRegs t (fun o => o = Reg.CAL_SOLVE_CTL)) ∧
    (¬ (s.solvePhase = Phase.queued ∨ s.solvePhase = Phase.running) → ∃ t x, exec (.calSolveGo v) s = .next t ∧
      t.cal.solve = some x ∧ x.anchor = v.toNat.testBit 4 ∧ x.step = false ∧ x.ready = false ∧ x.measured = 0 ∧
      x.targets = (List.range 8).map (fun i => (List.range 4).map (fun k => (s.rdA (Reg.CAL_SENS_TGT i k)).toNat)) ∧
      t.solvePhase = Phase.queued ∧ t.fld Reg.CAL_SOLVE_STATUS 7 0 = bits v.toNat 31 24 ∧
      t.rd Reg.GLB_CMD_POSTED = s.rd Reg.GLB_CMD_POSTED + 1 ∧ t.rd Reg.CAL_SOLVE_ELAPSED = 0 ∧ s.sameStores t ∧
      s.sameRegs t (fun o => o = Reg.CAL_SOLVE_CTL ∨ o = Reg.CAL_SOLVE_STATUS ∨ o = Reg.CAL_SOLVE_ELAPSED ∨ o = Reg.GLB_CMD_POSTED ∨ o = Reg.GLB_CMD_PENDING ∨
        ∃ i, i < 8 ∧ o = Reg.CAL_SENS_FLAGS i)))

/-- R492, R493, R498, R500, R505, R507, R511, R515, R518: the commands of AUD's groups and streams. -/
def Obligations.AudioStreams : Prop :=
  (∀ (g : Fin 4) (s : State), s.canonical →
    ((s.audOn = false ∨ (s.grpState g.val ≠ 1 ∧ s.grpState g.val ≠ 2)) → exec (.audioGroupLost g) s = .next s) ∧
    (s.audOn = true → (s.grpState g.val = 1 ∨ s.grpState g.val = 2) → ∃ t, exec (.audioGroupLost g) s = .next t ∧
      t.grpState g.val = 3 ∧ t.fld (Reg.AUD_GRP_STATUS g.val) 28 25 = 1 ∧ t.pends 224 ∧ s.sameStores t ∧
      s.sameRegs t (fun o => evtWindow o ∨ o = Reg.AUD_GRP_STATUS g.val ∨ audPortRegs o ∨ o = Reg.TMB_TB_SERVO_STATUS (2 + g.val) ∨
        o = Reg.TMB_TB_FREQ (2 + g.val))) ∧
    ((s.audOn && s.grpState g.val == 3) = false → exec (.audioGroupBack g) s = .next s) ∧
    ((s.audOn && s.grpState g.val == 3) = true → ∃ t, exec (.audioGroupBack g) s = .next t ∧
      t.grpState g.val = (if s.grpCause g.val = 0 then 1 else 4) ∧ t.fld (Reg.AUD_GRP_STATUS g.val) 28 25 = s.grpCause g.val ∧
      t.pends Ev.groupBack ∧ s.sameStores t ∧ s.sameRegs t (fun o => evtWindow o ∨ o = Reg.AUD_GRP_STATUS g.val ∨ audPortRegs o)) ∧
    ((s.audOn && s.grpState g.val == 1) = false → exec (.audioGroupMeasured g) s = .next s) ∧
    ((s.audOn && s.grpState g.val == 1) = true → ∃ t, exec (.audioGroupMeasured g) s = .next t ∧
      t.grpState g.val = 2 ∧ t.pends Ev.groupMeasured ∧
      (s.grpDirect g.val = false → (t.rd (Reg.AUD_GRP_RATIO g.val)).toNat = s.ratioOf g.val) ∧ s.sameStores t ∧
      s.sameRegs t (fun o => evtWindow o ∨ o = Reg.AUD_GRP_STATUS g.val ∨ o = Reg.AUD_GRP_RATIO g.val ∨ audPortRegs o ∨ asrcRegs o))) ∧
  (∀ (samples : Nat) (s : State), s.canonical →
    ((s.sender || s.tile) = false → exec .audAnchorLoad s = .next s ∧ exec .audReset s = .next s) ∧
    ((s.sender || s.tile) = true → (∃ t, exec .audAnchorLoad s = .next t ∧ t.bit Reg.AUD_ANCHOR_CTL 0 = true ∧ s.sameStores t ∧
        s.sameRegs t (fun o => o = Reg.AUD_ANCHOR_CTL)) ∧
      (∃ t, exec .audReset s = .next t ∧ t.aud.sys = [] ∧ t.aud.held = [] ∧
        t.aud.mutedFrame = (if s.frameValid then some s.frame else none) ∧ s.sameStores t ∧ s.sameRegs t asrcRegs)) ∧
    ((s.tile && s.audOn) = false → exec (.audioSamplesMissing samples) s = .next s) ∧
    ((s.tile && s.audOn) = true → ∃ t, exec (.audioSamplesMissing samples) s = .next t ∧
      (t.rd Reg.AUD_RX_MISSING).toNat = min 0xFFFFFFFF ((s.rd Reg.AUD_RX_MISSING).toNat + samples) ∧ t.aud = s.aud ∧ s.sameStores t ∧
      s.sameRegs t (fun o => o = Reg.AUD_RX_MISSING))) ∧
  (∀ (k : Fin 32) (s : State), s.canonical →
    ((s.sender && s.audOn && s.bit Reg.AUD_ANCHOR_CTL 31 && s.frameValid && s.fld (Reg.AUD_STR_STATUS k.val) 31 29 == 2 &&
      decide ((s.sheafSpan k.val (s.cursor k.val).frame (s.cursor k.val).next).2 ≤ s.ssc + 1)) = false →
      exec (.audioSheafTx k) s = .next s) ∧
    ((s.sender && s.audOn && s.bit Reg.AUD_ANCHOR_CTL 31 && s.frameValid && s.fld (Reg.AUD_STR_STATUS k.val) 31 29 == 2 &&
      decide ((s.sheafSpan k.val (s.cursor k.val).frame (s.cursor k.val).next).2 ≤ s.ssc + 1)) = true →
      ∃ t, exec (.audioSheafTx k) s = .next t ∧
        t.cursor k.val = (if (s.cursor k.val).next + 1 < s.strSheaves k.val then
            { s.cursor k.val with next := (s.cursor k.val).next + 1, sent := (s.cursor k.val).sent + 1 }
          else { frame := ((s.cursor k.val).frame + 1) % 2 ^ 32, next := 0, sent := (s.cursor k.val).sent + 1 }) ∧
        (s.mutedOn (s.strPort k.val) = true → t.slk = s.slk ∧ t.regs = s.regs) ∧
        (s.mutedOn (s.strPort k.val) = false → s.active (s.strPort k.val) = false → t.slk = s.slk ∧
          (t.rd (Reg.SLK_DROP_VC1 (s.strPort k.val).val)).toNat = min 0xFFFFFFFF ((s.rd (Reg.SLK_DROP_VC1 (s.strPort k.val).val)).toNat + 1)) ∧
        (s.mutedOn (s.strPort k.val) = false → s.active (s.strPort k.val) = true → ∃ h : Sheaf, h.vc = 1 ∧ h.stream = k.val ∧
          h.frame = (s.cursor k.val).frame ∧ h.index = (s.cursor k.val).next ∧ t.slk = (s.enqueue (s.strPort k.val) h none).slk ∧
          t.regs = s.regs) ∧ s.sameStores t ∧ s.sameRegs t (fun o => o = Reg.SLK_DROP_VC1 (s.strPort k.val).val))) ∧
  (∀ (stream : Nat) (body : List Byte) (s : State), s.canonical →
    ((s.tile && s.audOn && s.tapsAudio stream && decide (32 ≤ body.length)) = false → exec (.audioSheafRx stream body) s = .next s) ∧
    ((s.tile && s.audOn && s.tapsAudio stream && decide (32 ≤ body.length)) = true → ∃ t, exec (.audioSheafRx stream body) s = .next t ∧
      (0 < diff48 ((s.tb48 0 + s.leadOf stream * 2 ^ 16) % 2 ^ 48) ((leAt body 0 4 * 2 ^ 16 + leAt body 4 2) % 2 ^ 48) →
        (t.rd Reg.AUD_RX_LATE).toNat = min 0xFFFFFFFF ((s.rd Reg.AUD_RX_LATE).toNat + leAt body 8 2 * (leAt body 7 1 + 1)) ∧
        t.bit Reg.GLB_OVERRUN 5 = true ∧ (s.aud.lateRaised = false → t.pends Ev.audioLate) ∧ t.aud.held = s.aud.held) ∧
      (¬ 0 < diff48 ((s.tb48 0 + s.leadOf stream * 2 ^ 16) % 2 ^ 48) ((leAt body 0 4 * 2 ^ 16 + leAt body 4 2) % 2 ^ 48) →
        t.regs = s.regs ∧ ∃ h : HeldAudio, t.aud.held = s.aud.held ++ [h] ∧ h.stream = stream ∧
          h.pt = (leAt body 0 4 * 2 ^ 16 + leAt body 4 2) % 2 ^ 48 ∧ h.channels = leAt body 7 1 + 1 ∧
          h.samples.length = leAt body 8 2 * (leAt body 7 1 + 1)) ∧
      s.sameStores t ∧ s.sameRegs t (fun o => evtWindow o ∨ o = Reg.AUD_RX_LATE ∨ o = Reg.GLB_OVERRUN)))

/-- R492, R499, R503, R504, R507, R514: the system instants and the edges of AUD's ports. -/
def Obligations.AudioClocks : Prop :=
  (∀ s : State, s.canonical →
    ((s.audOn && s.bit Reg.AUD_ANCHOR_CTL 31) = false → exec .systemSampleInstant s = .next s) ∧
    ((s.audOn && s.bit Reg.AUD_ANCHOR_CTL 31) = true → ∃ t, exec .systemSampleInstant s = .next t ∧
      t.ssc = (s.ssc + 1) % 2 ^ 64 ∧ s.sameStores t ∧
      s.sameRegs t (fun o => o = Reg.AUD_SSC_LO ∨ o = Reg.AUD_SSC_HI ∨ asrcRegs o ∨ ∃ g, g < 4 ∧ o = Reg.AUD_GRP_STATUS g))) ∧
  (∀ (p : Fin 16) (periods : Int) (words : List (BitVec 24)) (s : State), s.canonical →
    (((s.sender || s.tile) && s.portEnabled p.val) = false → exec (.audioPortFrameEdge p periods words) s = .next s) ∧
    (((s.sender || s.tile) && s.portEnabled p.val) = true → ∃ t, exec (.audioPortFrameEdge p periods words) s = .next t ∧
      (p.val ∈ t.aud.misaligned ↔ 2 < periods.natAbs) ∧
      (2 < periods.natAbs → s.aud.misaligned.contains p.val = false → t.pends Ev.portMisaligned) ∧
      (periods.natAbs ≤ 2 → s.audOn = true → s.fld (Reg.AUD_PORT_STATUS p.val) 31 29 = 2 → s.portOut p.val = false →
        s.grpDirect (s.portGroup p.val) = true → s.aud.got.contains p.val = false → t.aud.got.contains p.val = true ∧
          ∀ c, c < s.portChannels p.val →
            t.sysVal s.ssc (16 * p.val + c) = { v := sx 24 (words.getD c 0).toNat, mute := false, settle := false }) ∧
      s.sameStores t ∧
      s.sameRegs t (fun o => evtWindow o ∨ o = Reg.AUD_PORT_STATUS p.val ∨ asrcRegs o ∨
        ∃ g, g < 4 ∧ (o = Reg.AUD_GRP_STATUS g ∨ o = Reg.AUD_GRP_PHASE g))))

/-- R527, R530, R545 to R550: training, the map, frequency changes and the reset of the DMC. -/
def Obligations.DramTraining : Prop :=
  (∀ (v : Word) (s : State), s.canonical →
    (s.dmcOn = false → exec (.dmcTrain v) s = .next s ∧ exec (.dmcMapWrite v) s = .next s ∧ exec (.dmcFreqGo v) s = .next s ∧
      exec .dmcFreqTimeout s = .next s ∧ exec .dmcReset s = .next s) ∧
    (s.dmcOn = true → (v.getLsbD 8 = false ∨ s.dmcState = 1) →
      exec (.dmcTrain v) s = .next (s.setFld Reg.DMC_CTL 5 4 (bits v.toNat 5 4))) ∧
    (s.dmcOn = true → v.getLsbD 8 = true → s.dmcState ≠ 1 → ∃ t, exec (.dmcTrain v) s = .next t ∧ t.dmcState = 1 ∧
      t.bit Reg.DMC_CTL 8 = true ∧ t.fld Reg.DMC_CTL 5 4 = bits v.toNat 5 4 ∧ t.rd Reg.DMC_CH_FAILED = 0 ∧
      (∀ n, n < 4 → t.bit (Reg.DMC_OP_RATE n) 30 = false) ∧
      t.rd Reg.DMC_TRAIN_STATUS = BitVec.ofNat 32 (statusWord Phase.running 0 false 0 0 0) ∧ s.sameStores t ∧
      s.sameRegs t (fun o => o = Reg.DMC_CTL ∨ o = Reg.DMC_STATUS ∨ o = Reg.DMC_CH_FAILED ∨ o = Reg.DMC_TRAIN_STATUS ∨
        o = Reg.MEC_GLEAN_STATUS ∨ ∃ n, n < 4 ∧ o = Reg.DMC_OP_RATE n)) ∧
    (s.dmcOn = true → s.dmcState = 0 →
      exec (.dmcMapWrite v) s = .next ((s.wrN Reg.DMC_MAP (bits v.toNat 3 0)).setBit Reg.DMC_STATUS 23 false)) ∧
    (s.dmcOn = true → s.dmcState ≠ 0 → exec (.dmcMapWrite v) s = .next (s.setBit Reg.DMC_STATUS 23 true))) ∧
  (∀ (dense : Bool) (fails : List (Fin 20 × Fin 4 × Fin 8)) (eyes : List (Fin 20 × BitVec 8 × BitVec 8)) (s : State), s.canonical →
    ((s.dmcOn && s.dmcState == 1) = false → ∀ point, exec (.dmcTrainDone point dense fails eyes) s = .next s) ∧
    (∀ n : Fin 4, s.opsOn.contains n.val = false → exec (.dmcTrainDone (some n) dense fails eyes) s = .next s) ∧
    (∀ n : Fin 4, (s.dmcOn && s.dmcState == 1) = true → s.opsOn.contains n.val = true →
      ∃ t, exec (.dmcTrainDone (some n) dense fails eyes) s = .next t ∧ t.bit (Reg.DMC_OP_RATE n.val) 30 = true ∧ t.dmcState = 1 ∧
        t.dmc.publish = true ∧ s.sameStores t ∧ s.sameRegs t (fun o => o = Reg.DMC_OP_RATE n.val ∨ o = Reg.DMC_TRAIN_STATUS)) ∧
    ((s.dmcOn && s.dmcState == 1) = true → ∃ t, exec (.dmcTrainDone none dense fails eyes) s = .next t ∧ t.dmc.dense = dense ∧
      (∀ c, c < 20 → t.bit Reg.DMC_CH_FAILED c = (s.bit Reg.DMC_CH_FAILED c ||
        (decide (c < 10 * s.groups) && (failureOf s.opsOn fails c).isSome))) ∧
      t.bit Reg.DMC_CTL 8 = false ∧ (∀ n ∈ s.opsOn, t.opTrained n = true) ∧ t.pends Ev.trainingDone ∧
      t.dmcState = (if s.groupList.any (fun g => decide (2 ≤ (t.failedIn g.val).length)) then 4 else if s.opsOn.isEmpty then 0 else 2) ∧
      (s.groupList.any (fun g => decide (2 ≤ (t.failedIn g.val).length)) = true → t.mode = 2) ∧
      s.sameStores t ∧ s.sameRegs t dramRegs)) ∧
  (∀ (v : Word) (s : State), s.canonical → s.dmcOn = true →
    (∃ t, exec (.dmcFreqGo v) s = .next t ∧
      t.rd Reg.DMC_FREQ_CTL = BitVec.ofNat 32 (bits v.toNat 31 16 * 2 ^ 16 + bits v.toNat 5 4 * 2 ^ 4) ∧
      (v.getLsbD 0 = false → t.dmc = s.dmc ∧ t.rd Reg.DMC_FREQ_STATUS = s.rd Reg.DMC_FREQ_STATUS) ∧
      (v.getLsbD 0 = true → s.dmc.freq.isSome = true → t.dmc = s.dmc ∧ t.pends Ev.freqDone ∧
        t.rd Reg.DMC_FREQ_STATUS = s.rd Reg.DMC_FREQ_STATUS) ∧
      (v.getLsbD 0 = true → s.dmc.freq = none → s.dmcState = 1 → t.dmc.freq = none ∧ t.pends Ev.freqDone ∧
        t.rd Reg.DMC_FREQ_STATUS = BitVec.ofNat 32 (statusWord Phase.done Code.BUSY false 100 0 (bits v.toNat 31 24))) ∧
      (v.getLsbD 0 = true → s.dmc.freq = none → s.dmcState ≠ 1 →
        (s.opsOn.contains (bits v.toNat 5 4) = false ∨ s.opTrained (bits v.toNat 5 4) = false ∨
          bits v.toNat 5 4 = s.fld Reg.DMC_STATUS 26 25) → t.dmc.freq = none ∧ t.pends Ev.freqDone ∧
        t.rd Reg.DMC_FREQ_STATUS = BitVec.ofNat 32 (statusWord Phase.done Code.REFUSED false 100 0 (bits v.toNat 31 24))) ∧
      (v.getLsbD 0 = true → s.dmc.freq = none → s.dmcState ≠ 1 → s.opsOn.contains (bits v.toNat 5 4) = true →
        s.opTrained (bits v.toNat 5 4) = true → bits v.toNat 5 4 ≠ s.fld Reg.DMC_STATUS 26 25 →
        t.dmc.freq = some (bits v.toNat 5 4, bits v.toNat 31 24) ∧
        t.rd Reg.DMC_FREQ_STATUS = BitVec.ofNat 32 (statusWord Phase.queued 0 false 0 0 (bits v.toNat 31 24))) ∧
      s.sameStores t ∧ s.sameRegs t (fun o => (evtWindow o ∧ v.getLsbD 0 = true) ∨ o = Reg.DMC_FREQ_CTL ∨ o = Reg.DMC_FREQ_STATUS)) ∧
    ((s.dmc.freq = none ∨ ¬ s.clear s.freqLeft) → exec .dmcFreqTimeout s = .next s) ∧
    (∀ target tag, s.dmc.freq = some (target, tag) → s.clear s.freqLeft → ∃ t, exec .dmcFreqTimeout s = .next t ∧
      t.tmb.tclk = s.tmb.tclk + s.freqLeft ∧ t.dmc.freq = none ∧ t.pends Ev.freqDone ∧
      t.rd Reg.DMC_FREQ_STATUS = BitVec.ofNat 32 (statusWord Phase.done Code.REFUSED false 100 0 tag) ∧ s.sameStores t ∧
      s.sameRegs t (fun o => evtWindow o ∨ o = Reg.TMB_TB_FREQ 6 ∨ o = Reg.DMC_FREQ_STATUS))) ∧
  (∀ (s : State), s.canonical →
    (((s.dmcOn && s.dmcState == 2 && s.freqWindow) = false ∨ s.dmc.freq = none) → exec .dmcFreqChange s = .next s) ∧
    (∀ target tag, (s.dmcOn && s.dmcState == 2 && s.freqWindow) = true → s.dmc.freq = some (target, tag) →
      ∃ t, exec .dmcFreqChange s = .next t ∧ t.dmc.freq = none ∧ t.pends Ev.freqDone ∧ t.fld Reg.DMC_STATUS 26 25 = target % 4 ∧
        (∀ g ∈ s.groupList, t.owed g = 0) ∧
        t.rd Reg.DMC_FREQ_STATUS = BitVec.ofNat 32 (statusWord Phase.done Code.OK false 100 0 tag) ∧ s.sameStores t ∧
        s.sameRegs t (fun o => evtWindow o ∨ o = Reg.DMC_STATUS ∨ o = Reg.DMC_FREQ_STATUS ∨ ∃ g : Fin 2, o = Reg.DMC_GRP_REF g.val)) ∧
    ((s.dmcOn && s.dmcState == 2) = false → exec .dmcWckTracking s = .next s) ∧
    ((s.dmcOn && s.dmcState == 2) = true → ∃ t, exec .dmcWckTracking s = .next t ∧
      t.out = s.out ++ (s.groupList.filter (fun g => !s.urgentIn g)).map (fun g => Output.dram g.val "WCK2DQ" 0) ∧ t.dmc = s.dmc ∧
      s.sameStores t ∧ t.regs = s.regs) ∧
    (s.dmcOn = true → ∃ t, exec .dmcReset s = .next t ∧ t.dmc.freq = none ∧ t.mec.fills = [] ∧ t.mec.locks = [] ∧
      (∀ g ∈ s.groupList, (t.dgrp g).queue = [] ∧ (t.dgrp g).reading = []) ∧ (s.dmcState = 1 → t.dmcState = 0) ∧
      (s.dmcState = 1 → t.bit Reg.DMC_TRAIN_STATUS 24 = s.bit Reg.DMC_TRAIN_STATUS 24 ∧
        t.fld Reg.DMC_TRAIN_STATUS 15 8 = s.fld Reg.DMC_TRAIN_STATUS 15 8) ∧
      (∀ a, (∀ g : Fin 2, ∀ r ∈ (s.dgrp g).reading.map (fun x => x.1) ++ (s.dgrp g).queue, r.write = true →
        ¬ (r.addr ≤ a ∧ a < r.addr + r.data.length)) → t.byte a = s.byte a) ∧
      t.flash = s.flash ∧ t.act = s.act ∧ s.sameRegs t dramRegs))

/-- R526, R531 to R544, R553: requests, refresh and row disturbance. -/
def Obligations.DramService : Prop :=
  (∀ (r : Fin 16) (urgent write : Bool) (addr len : Nat) (data : List Byte) (s : State), s.canonical →
    ((s.dmcOn && decide (dramBase ≤ addr)) = false → exec (.dramRequest r urgent write addr len data) s = .next s) ∧
    ((s.dmcOn && decide (dramBase ≤ addr)) = true → ∃ t, exec (.dramRequest r urgent write addr len data) s = .next t ∧ s.sameStores t ∧
      s.sameRegs t (fun o => evtWindow o ∨ o = Reg.DMC_ADDR_ERR ∨ o = Reg.MEC_ZERO_READS ∨ o = Reg.MEC_FILLS ∨ o = Reg.PCI_POISON_TX) ∧
      (0 < len → addr % 256 + len ≤ 256 →
        ((s.dramCap ≤ addr - dramBase ∨ (s.dramUp = false ∧ (write = true ∨ s.mec.valid.contains (granuleOf addr) = true))) →
          (t.rd Reg.DMC_ADDR_ERR).toNat = min 0xFFFFFFFF ((s.rd Reg.DMC_ADDR_ERR).toNat + 1) ∧ t.pends 440 ∧ t.dmc = s.dmc ∧ t.mec = s.mec) ∧
        (addr - dramBase < s.dramCap → s.mec.valid.contains (granuleOf addr) = true → s.dramUp = true → ∃ q : DramReq,
          (t.dgrp (s.groupAt (addr - dramBase))).queue = (s.dgrp (s.groupAt (addr - dramBase))).queue ++ [q] ∧ q.req = r.val ∧
          q.level = levelOf r.val urgent ∧ q.addr = addr ∧ q.len = len ∧ q.write = write ∧ t.regs = s.regs) ∧
        (addr - dramBase < s.dramCap → s.mec.valid.contains (granuleOf addr) = false →
          s.mec.fills.any (fun f => f.1 == granuleOf addr) = false → write = false →
          (t.rd Reg.MEC_ZERO_READS).toNat = min 0xFFFFFFFF ((s.rd Reg.MEC_ZERO_READS).toNat + 1) ∧
          Output.dramData r.val addr (zeros len) false ∈ t.out ∧ t.dmc = s.dmc ∧ t.mec = s.mec) ∧
        (addr - dramBase < s.dramCap → s.mec.valid.contains (granuleOf addr) = false →
          s.mec.fills.any (fun f => f.1 == granuleOf addr) = false → write = true → s.dramUp = true →
          (t.rd Reg.MEC_FILLS).toNat = min 0xFFFFFFFF ((s.rd Reg.MEC_FILLS).toNat + 1) ∧ t.dmc = s.dmc ∧ ∃ q : DramReq,
          t.mec.fills = s.mec.fills ++ [(granuleOf addr, q)] ∧ q.addr = addr ∧ q.data = slice data 0 len)))) ∧
  (∀ (g : Fin 2) (s : State), s.canonical →
    (((s.grpRuns g && s.mayIssue g) = false ∨ s.chooseIn g = none) → exec (.dramIssue g) s = .next s) ∧
    (∀ r ahead, (s.grpRuns g && s.mayIssue g) = true → s.chooseIn g = some (r, ahead) → ∃ t, exec (.dramIssue g) s = .next t ∧
      (t.dgrp g).queue = (s.dgrp g).queue.erase r ∧
      (r.req < 16 → (t.rd (Reg.DMC_REQ_BYTES r.req)).toNat = min 0xFFFFFFFF ((s.rd (Reg.DMC_REQ_BYTES r.req)).toNat + 1)) ∧
      ((r.write && !r.isPartial) = true → (t.dgrp g).reading = (s.dgrp g).reading ∧
        (s.memOk r.addr = true → s.memOk (r.addr + r.data.length - 1) = true → ∀ i, i < r.data.length → t.byte (r.addr + i) = r.data.getD i 0)) ∧
      ((r.write && !r.isPartial) = false →
        (t.dgrp g).reading = (s.dgrp g).reading ++ [(r, s.rdMem (dramBase + 256 * r.access) 256)] ∧ s.sameStores t) ∧
      (∀ a, ¬ (r.addr ≤ a ∧ a < r.addr + r.data.length) → t.byte a = s.byte a) ∧ t.flash = s.flash ∧ t.act = s.act ∧
      s.sameRegs t (issueRegs g r.req)) ∧
    ((s.grpRuns g = false ∨ (s.dgrp g).queue.find? (fun r => r.level == 2) = none) → exec (.dramAgeRaise g) s = .next s) ∧
    (∀ r, s.grpRuns g = true → (s.dgrp g).queue.find? (fun r => r.level == 2) = some r →
      (¬ s.clear (s.ageLeft r) → exec (.dramAgeRaise g) s = .next s) ∧
      (s.clear (s.ageLeft r) → ∃ t, exec (.dramAgeRaise g) s = .next t ∧ t.tmb.tclk = s.tmb.tclk + s.ageLeft r ∧
        (t.dgrp g).queue = (s.dgrp g).queue.map (fun q => if q = r then { q with level := 1 } else q) ∧ s.sameStores t ∧
        s.sameRegs t (fun o => evtWindow o ∨ o = Reg.TMB_TB_FREQ 6)))) ∧
  (∀ (g : Fin 2) (s : State), s.canonical →
    (s.grpRuns g = false → exec (.refreshDue g) s = .next s) ∧
    (s.grpRuns g = true → ∃ t, exec (.refreshDue g) s = .next t ∧ t.fld (Reg.DMC_GRP_REF g.val) 9 8 = (s.dgrp g).derate % 4 ∧
      (s.credit g ≠ 0 → t.credit g = s.credit g - 1 ∧ t.owed g = s.owed g ∧ t.out = s.out) ∧
      (s.credit g = 0 → s.urgentIn g = false → t.owed g = s.owed g ∧ t.out = s.out ++ [.dram g.val "REFab" 1] ∧ (t.dgrp g).rows = []) ∧
      (s.credit g = 0 → s.urgentIn g = true → s.owed g < 15 →
        (t.rd (Reg.DMC_GRP_POSTPONED g.val)).toNat = min 0xFFFFFFFF ((s.rd (Reg.DMC_GRP_POSTPONED g.val)).toNat + 1) ∧
        (s.owed g < 7 → t.owed g = s.owed g + 1 ∧ t.out = s.out) ∧
        (7 ≤ s.owed g → t.owed g = 0 ∧
          (t.rd (Reg.DMC_GRP_FORCED g.val)).toNat = min 0xFFFFFFFF ((s.rd (Reg.DMC_GRP_FORCED g.val)).toNat + 1) ∧
          ((s.dgrp g).forced = false → t.pends Ev.forcedRefresh))) ∧
      s.sameStores t ∧ s.sameRegs t (fun o => evtWindow o ∨ o = Reg.DMC_GRP_REF g.val ∨ o = Reg.DMC_GRP_POSTPONED g.val ∨
        o = Reg.DMC_GRP_FORCED g.val ∨ o = Reg.DMC_GRP_STALL_MAX g.val)) ∧
    ((s.grpRuns g && s.owed g != 0 && !s.urgentIn g) = false → exec (.refreshPayback g) s = .next s) ∧
    ((s.grpRuns g && s.owed g != 0 && !s.urgentIn g) = true → ∃ t, exec (.refreshPayback g) s = .next t ∧ t.owed g = s.owed g - 1 ∧
      t.out = s.out ++ [.dram g.val "REFab" 1] ∧ s.sameStores t ∧ s.sameRegs t (fun o => o = Reg.DMC_GRP_REF g.val)) ∧
    ((s.grpRuns g && s.owed g == 0 && decide (s.credit g < 8) && (s.dgrp g).queue.isEmpty) = false →
      exec (.refreshPullIn g) s = .next s) ∧
    (¬ s.clear (s.quietLeft g) → exec (.refreshPullIn g) s = .next s) ∧
    ((s.grpRuns g && s.owed g == 0 && decide (s.credit g < 8) && (s.dgrp g).queue.isEmpty) = true → s.clear (s.quietLeft g) →
      ∃ t, exec (.refreshPullIn g) s = .next t ∧ t.credit g = s.credit g + 1 ∧ t.tmb.tclk = s.tmb.tclk + s.quietLeft g ∧
        (∃ l, t.out = s.out ++ l ++ [.dram g.val "REFab" 1]) ∧ s.sameStores t ∧
        s.sameRegs t (fun o => evtWindow o ∨ o = Reg.TMB_TB_FREQ 6 ∨ o = Reg.DMC_GRP_REF g.val))) ∧
  (∀ (codes : Vector (Fin 3) 20) (s : State), s.canonical →
    ((s.dmcOn && s.dmcState == 2) = false → exec (.deratePoll codes) s = .next s) ∧
    ((s.dmcOn && s.dmcState == 2) = true → ∃ t, exec (.deratePoll codes) s = .next t ∧ t.regs = s.regs ∧ s.sameStores t ∧
      ∀ g ∈ s.groupList, (∀ c : Fin 20, c.val / 10 = g.val → (codes[c]).val ≤ (t.dgrp g).derate) ∧
        ((t.dgrp g).derate = 0 ∨ ∃ c : Fin 20, c.val / 10 = g.val ∧ (codes[c]).val = (t.dgrp g).derate))) ∧
  (∀ (g : Fin 2) (s : State), s.canonical →
    ((s.dmcOn && (s.dgrp g).act.toList.all (fun c => decide (c < s.rhWarn))) = false → exec (.rhThrottleEnd g) s = .next s) ∧
    (¬ s.clear (s.calmLeft g) → exec (.rhThrottleEnd g) s = .next s) ∧
    ((s.dmcOn && (s.dgrp g).act.toList.all (fun c => decide (c < s.rhWarn))) = true → s.clear (s.calmLeft g) →
      ∃ t, exec (.rhThrottleEnd g) s = .next t ∧ t.tmb.tclk = s.tmb.tclk + s.calmLeft g ∧
      (t.dgrp g).throttled = [] ∧ ((s.dgrp g).throttled ≠ [] → t.pends Ev.throttleEnd) ∧
      ((∀ u ∈ (s.dgrp g).throttled, u.1 < 16) → ∀ o b, (o, b) ∈ (s.dgrp g).throttled → ∀ h : Fin 2, h ≠ g →
        t.bit Reg.DMC_THROTTLED o = (s.dgrp h).throttled.any (fun u => u.1 == o)) ∧
      s.sameStores t ∧ s.sameRegs t (fun o => evtWindow o ∨ o = Reg.TMB_TB_FREQ 6 ∨ o = Reg.DMC_THROTTLED)))

/-- R555 to R560, R568, R572, R574, R575, R577, R578: decoding, failed channels and the Granary. -/
def Obligations.ProtectedReads : Prop :=
  (∀ (g : Fin 2) (errs : List (Fin 16 × Fin 10 × BitVec 16)) (s : State), s.canonical →
    ((s.grpRuns g = false ∨ (s.dgrp g).reading = []) → exec (.mecReadDecode g errs) s = .next s) ∧
    (∀ r b rest, s.grpRuns g = true → (s.dgrp g).reading = (r, b) :: rest → ∃ t, exec (.mecReadDecode g errs) s = .next t ∧
      s.sameStores t ∧ s.sameRegs t dramRegs ∧
      (errs = [] → s.lostChannel g = none → b.length = 256 → (∀ w ∈ s.mec.poison, w / 16 ≠ r.access) →
        r.write = false → r.req ≠ 15 → r.req ≠ 3 →
        (t.dgrp g).reading = rest ∧ t.out = s.out ++ [.dramData r.req r.addr (slice b (r.addr % 256) r.len) false] ∧ t.regs = s.regs ∧
          t.mec = s.mec) ∧
      ((∀ k, k < 16 → (rsDecode (s.lostChannel g) (s.wordRead r.access b k errs)).1 = .clean ∨
          (rsDecode (s.lostChannel g) (s.wordRead r.access b k errs)).1 = .bad) →
        (t.rd Reg.MEC_UE).toNat = min 0xFFFFFFFF ((s.rd Reg.MEC_UE).toNat +
          ((List.range 16).filter (fun k => (rsDecode (s.lostChannel g) (s.wordRead r.access b k errs)).1 == .bad)).length) ∧
        ((∃ k, k < 16 ∧ (rsDecode (s.lostChannel g) (s.wordRead r.access b k errs)).1 = .bad) → t.pends Ev.ueWord)))) ∧
  (∀ (v : Word) (s : State), s.canonical →
    (s.dmcOn = false → exec (.mecChForce v) s = .next s ∧ exec (.mecGranQuery v) s = .next s) ∧
    (s.dmcOn = true → (∃ t, exec (.mecChForce v) s = .next t ∧ s.sameStores t ∧ s.sameRegs t dramRegs ∧
        ∀ c, c < 20 → t.bit Reg.DMC_CH_FAILED c = (s.bit Reg.DMC_CH_FAILED c || (v.getLsbD c && decide (c < 10 * s.groups)))) ∧
      exec (.mecGranQuery v) s = .next (s.wrN Reg.MEC_GRAN_QUERY (b2n (s.mec.valid.contains (bits v.toNat 23 0)) * 2 ^ 31 + bits v.toNat 23 0))) ∧
    ((s.dmcOn && s.bit Reg.MEC_CTL 0 && s.fld Reg.MEC_GLEAN_CTL 31 16 != 0 && !s.mec.slow) = false → exec .gleanerLapSlow s = .next s) ∧
    ((s.dmcOn && s.bit Reg.MEC_CTL 0 && s.fld Reg.MEC_GLEAN_CTL 31 16 != 0 && !s.mec.slow) = true → s.clear s.lapLeft → ∃ t,
      exec .gleanerLapSlow s = .next t ∧ t.mec.slow = true ∧ t.pends Ev.lapSlow ∧ t.tmb.tclk = s.tmb.tclk + s.lapLeft ∧ s.sameStores t ∧
      s.sameRegs t (fun o => evtWindow o ∨ o = Reg.TMB_TB_FREQ 6)) ∧
    (¬ s.clear s.lapLeft → exec .gleanerLapSlow s = .next s)) ∧
  (∀ (off : BitVec 26) (flips : Nat) (s : State), s.canonical →
    (∃ t, exec (.granaryRead off flips) s = .next t ∧ s.granaryMeets (off.toNat / 8 * 8) flips t) ∧
    (∃ t, exec (.granaryScrub off flips) s = .next t ∧ s.granaryMeets (off.toNat / 8 * 8) flips t))

/-- R559, R564 to R567, R569 to R572, R577, R578: granules and the Gleaner. -/
def Obligations.GranulesAndGleaner : Prop :=
  (∀ s : State, s.canonical →
    ((s.dmcOn = false ∨ s.mec.fills = []) → exec .mecFillDone s = .next s) ∧
    (∀ gran r rest, s.dmcOn = true → s.mec.fills = (gran, r) :: rest → ∃ t, exec .mecFillDone s = .next t ∧ t.mec.fills = rest ∧
      (s.dramUp = false → t.regs = s.regs ∧ s.sameStores t) ∧
      (s.dramUp = true → t.mec.valid.contains gran = true ∧ (∀ n, s.mec.valid.contains n = true → t.mec.valid.contains n = true) ∧
        (∀ i, i < r.data.length → t.byte (r.addr + i) = r.data.getD i 0) ∧
        (∀ a, ¬ (r.addr ≤ a ∧ a < r.addr + r.data.length) → t.byte a =
          (if dramBase + 4096 * gran ≤ a ∧ a < dramBase + 4096 * gran + 4096 then 0 else s.byte a)) ∧
        t.flash = s.flash ∧ t.act = s.act ∧ s.sameRegs t (fun o => o = Reg.MEC_GRAN_VALID ∨ o = Reg.DMC_REQ_BYTES r.req)))) ∧
  (∀ (v : Word) (s : State), s.canonical →
    (s.dmcOn = false → exec (.mecTrim v) s = .next s) ∧
    (s.dmcOn = true → ∃ t, exec (.mecTrim v) s = .next t ∧
      (v.getLsbD 0 = false → t.mec = s.mec ∧ t.bit Reg.MEC_TRIM_CTL 31 = s.bit Reg.MEC_TRIM_CTL 31 ∧
        t.bit Reg.MEC_TRIM_CTL 1 = (s.bit Reg.MEC_TRIM_CTL 1 && !v.getLsbD 1)) ∧
      (v.getLsbD 0 = true → s.bit Reg.MEC_TRIM_CTL 31 = true → t.mec = s.mec ∧ t.bit Reg.MEC_TRIM_CTL 1 = true) ∧
      (v.getLsbD 0 = true → s.bit Reg.MEC_TRIM_CTL 31 = false → t.bit Reg.MEC_TRIM_CTL 31 = true ∧
        t.mec.trim = some (s.fld Reg.MEC_TRIM_BASE 23 0, s.fld Reg.MEC_TRIM_COUNT 24 0)) ∧
      s.sameStores t ∧ s.sameRegs t (fun o => o = Reg.MEC_TRIM_CTL)) ∧
    ((s.dmcOn = false ∨ s.mec.trim = none) → exec .mecTrimDone s = .next s) ∧
    (∀ base n, s.dmcOn = true → s.mec.trim = some (base, n) →
      (s.trimFree base n = false → exec .mecTrimDone s = .next s) ∧
      (s.trimFree base n = true → ∃ t, exec .mecTrimDone s = .next t ∧ t.mec.trim = none ∧ t.bit Reg.MEC_TRIM_CTL 31 = false ∧
        (∀ i, i ∈ t.mec.valid ↔ i ∈ s.mec.valid ∧ ¬ (base ≤ i ∧ i < base + n)) ∧ t.pends Ev.trimDone ∧
        t.rd Reg.MEC_GRAN_VALID = BitVec.ofNat 32 t.mec.valid.length ∧
        (∀ a, t.byte a = (if dramBase ≤ a ∧ base ≤ granuleOf a ∧ granuleOf a < base + n then 0 else s.byte a)) ∧
        t.flash = s.flash ∧ t.act = s.act ∧
        s.sameRegs t (fun o => evtWindow o ∨ o = Reg.MEC_GRAN_VALID ∨ o = Reg.MEC_TRIM_CTL)))) ∧
  (∀ (g : Fin 2) (s : State), s.canonical →
    (s.gleans g = false → exec (.gleanerRead g) s = .next s) ∧
    (¬ s.clear (s.paceLeft g) → (s.mec.scrub[g] ≠ [] ∨ s.nextAccess g ≠ none) → exec (.gleanerRead g) s = .next s) ∧
    (s.gleans g = true → (s.clear (s.paceLeft g) ∨ (s.mec.scrub[g] = [] ∧ s.nextAccess g = none)) → ∃ t, exec (.gleanerRead g) s = .next t ∧
      ((s.mec.scrub[g] ≠ [] ∨ s.nextAccess g ≠ none) → t.tmb.tclk = s.tmb.tclk + s.paceLeft g ∧ t.mec.readAt[g] = t.tmb.tclk) ∧
      (∀ acc rest, s.mec.scrub[g] = acc :: rest → t.mec.scrub[g] = rest ∧ t.mec.pos = s.mec.pos ∧
        s.sameRegs t (fun o => evtWindow o ∨ o = Reg.TMB_TB_FREQ 6) ∧ ∃ q : DramReq,
        (t.dgrp (s.groupAt (256 * acc))).queue = (s.dgrp (s.groupAt (256 * acc))).queue ++ [q] ∧
        q.req = 15 ∧ q.level = 3 ∧ q.write = false ∧ q.addr = dramBase + 256 * acc ∧ q.len = 256) ∧
      (∀ acc, s.mec.scrub[g] = [] → s.nextAccess g = some acc → t.mec.pos[g] = acc + 1 ∧ ∃ q : DramReq,
        (t.dgrp (s.groupAt (256 * acc))).queue = (s.dgrp (s.groupAt (256 * acc))).queue ++ [q] ∧
        q.req = 15 ∧ q.level = 3 ∧ q.write = false ∧ q.addr = dramBase + 256 * acc ∧ q.len = 256) ∧
      (s.mec.scrub[g] = [] → s.nextAccess g = none → t.dmc = s.dmc ∧ ((∀ h ∈ s.groupList, h ≠ g →
        s.nextAccess h = none) → (∀ i ∈ s.mec.valid, 16 * i + 16 ≤ s.dramCap / 256) →
        t.mec.pos = Vector.replicate 2 0 ∧ t.mec.lapStart = s.tmb.tclk ∧
        t.rd Reg.MEC_GLEAN_LAP_LAST = BitVec.ofNat 32 ((s.tmb.tclk - s.mec.lapStart) / 800000) ∧
        t.rd Reg.MEC_GLEAN_LAPS = s.rd Reg.MEC_GLEAN_LAPS + 1)) ∧ s.sameStores t ∧
      s.sameRegs t (fun o => evtWindow o ∨ o = Reg.TMB_TB_FREQ 6 ∨ o = Reg.MEC_GLEAN_LAP_LAST ∨ o = Reg.MEC_GLEAN_LAPS ∨ o = Reg.MEC_GLEAN_LAP_MAX ∨ o = Reg.MEC_GLEAN_POS ∨
        o = Reg.MEC_GLEAN_STATUS))) ∧
  (∀ s : State, s.canonical →
    (((s.dmcOn && s.dmcState == 2) = false ∨ s.mec.back = []) → exec .gleanerWriteback s = .next s) ∧
    (∀ acc rest, (s.dmcOn && s.dmcState == 2) = true → s.mec.back = acc :: rest → ∃ t, exec .gleanerWriteback s = .next t ∧
      t.mec.back = rest ∧ t.regs = s.regs ∧ s.sameStores t ∧ ∃ q : DramReq,
        (t.dgrp (s.groupAt (256 * acc))).queue = (s.dgrp (s.groupAt (256 * acc))).queue ++ [q] ∧
        q.req = 15 ∧ q.level = 3 ∧ q.write = true ∧ q.addr = dramBase + 256 * acc) ∧
    (s.dmcOn = false → exec .mecReset s = .next s) ∧
    (s.dmcOn = true → ∃ t, exec .mecReset s = .next t ∧ t.mec = { s.mec with fills := [], locks := [], back := [] } ∧
      (∀ g ∈ s.groupList, (t.dgrp g).reading = (s.dgrp g).reading.filter (fun r => !r.1.write) ∧ (t.dgrp g).queue = (s.dgrp g).queue) ∧
      t.regs = s.regs ∧ s.sameStores t))

/-- R608, R609, R611 to R614, R617: the Granary ring and the DRAM ring. -/
def Obligations.LedgerRings : Prop :=
  (∀ s : State, s.canonical →
    (((s.live && !s.evt.stopped) = false ∨ s.nextSource = none) → exec .ledgerWrite s = .next s) ∧
    (∀ src e rest, (s.live && !s.evt.stopped) = true → s.nextSource = some src → takeStaged src s.evt.stage = (some e, rest) →
      ((s.dramEn && decide (8192 < s.undrained + e.entries.length)) = true → exec .ledgerWrite s = .next s) ∧
      ((s.dramEn && decide (8192 < s.undrained + e.entries.length)) = false → ∃ t, exec .ledgerWrite s = .next t ∧
        t.evt.lastServed = src ∧ (s.dramEn = false → t.evt.stage = rest) ∧
        t.rd Reg.EVT_LOGGED = s.rd Reg.EVT_LOGGED + BitVec.ofNat 32 e.entries.length ∧
        (sWf (fun _ => zeros 32) 0 s.evt.gring = true → ∀ i, i < e.entries.length →
          t.ledgerEntry ((s.rd Reg.EVT_LOGGED).toNat + i) = e.entries.getD i []) ∧
        (∀ p, (∀ i, i < e.entries.length → ((s.rd Reg.EVT_LOGGED).toNat + i) % 8192 ≠ p % 8192) → t.ledgerEntry p = s.ledgerEntry p) ∧
        s.sameStores t ∧ s.sameRegs t evtWindow))) ∧
  (∀ s : State, s.canonical →
    ((s.drains && (decide (s.drainRoom ≤ s.undrained) || !s.evt.msixWait.isEmpty)) = false → exec .ledgerDrain s = .next s) ∧
    ((s.drains && (decide (s.drainRoom ≤ s.undrained) || !s.evt.msixWait.isEmpty)) = true →
      ∃ t, exec .ledgerDrain s = .next t ∧ s.drained (min s.undrained s.drainRoom) t) ∧
    ((s.drains = false ∨ ¬ s.clear s.flushLeft) → exec .ledgerFlushTimeout s = .next s) ∧
    (s.drains = true → s.clear s.flushLeft → ∀ u, u = s.advance s.flushLeft →
      ∃ t, exec .ledgerFlushTimeout s = .next t ∧ u.drained (min u.undrained u.drainRoom) t ∧ t.tmb.tclk = s.tmb.tclk + s.flushLeft))

/-- R612, R613, R616, R618, R621, R622, R669: settings of the Ledger, messages and forwarding. -/
def Obligations.LedgerMessages : Prop :=
  (∀ (v : Word) (s : State), s.canonical →
    ((s.live && !newer 32 v.toNat (s.rd Reg.EVT_DRAM_WR).toNat) = false → exec (.evtDramRdWrite v) s = .next s) ∧
    ((s.live && !newer 32 v.toNat (s.rd Reg.EVT_DRAM_WR).toNat) = true → ∃ t, exec (.evtDramRdWrite v) s = .next t ∧
      t.rd Reg.EVT_DRAM_RD = v ∧ t.evt = { s.evt with overwrote := false } ∧ s.sameStores t ∧
      s.sameRegs t (fun o => o = Reg.EVT_DRAM_RD ∨ o = Reg.EVT_STATUS)) ∧
    (s.live = false → exec (.evtDramEnable v) s = .next s) ∧
    (s.live = true → ∀ on, on = (v.getLsbD 0 && (s.dramEn || s.dmcState == 2)) → ∃ t, exec (.evtDramEnable v) s = .next t ∧
      t.bit Reg.EVT_CTL 0 = on ∧ t.bit Reg.EVT_CTL 1 = v.getLsbD 1 ∧ t.bit Reg.EVT_CTL 2 = v.getLsbD 2 ∧
      (on = true → s.dramEn = false → ∀ first, first = subMod 32 (s.rd Reg.EVT_LOGGED).toNat 8192 →
        t.rd Reg.EVT_GRING_DRAINED = (if newer 32 first (s.rd Reg.EVT_GRING_DRAINED).toNat then BitVec.ofNat 32 first else s.rd Reg.EVT_GRING_DRAINED) ∧
        t.rd Reg.EVT_DRAM_WR = t.rd Reg.EVT_GRING_DRAINED ∧ t.rd Reg.EVT_DRAM_RD = t.rd Reg.EVT_GRING_DRAINED) ∧
      ((on = false ∨ s.dramEn = true) → s.sameRegs t (fun o => o = Reg.EVT_CTL ∨ o = Reg.EVT_STATUS)) ∧
      t.evt = { (if on then s.evt else { s.evt with msixReady := s.evt.msixReady ++ s.evt.msixWait.map (fun w => w.2), msixWait := [] }) with
        writtenAt := t.evt.writtenAt } ∧
      s.sameStores t ∧ s.sameRegs t (fun o => o = Reg.EVT_CTL ∨ o = Reg.EVT_GRING_DRAINED ∨ o = Reg.EVT_DRAM_WR ∨ o = Reg.EVT_DRAM_RD ∨
        o = Reg.EVT_STATUS))) ∧
  (∀ (which : Fin 3) (v : Word) (o w : Nat) (s : State), s.canonical →
    ((which = 0 ∧ o = Reg.EVT_DRAM_BASE_LO ∧ w = v.toNat / 2 ^ 12 * 2 ^ 12) ∨ (which = 1 ∧ o = Reg.EVT_DRAM_BASE_HI ∧ w = bits v.toNat 7 0) ∨
      (which = 2 ∧ o = Reg.EVT_DRAM_SIZE ∧ w = bits v.toNat 4 0)) →
    (((s.live && !s.drainEn) = false ∨ (s.rd o).toNat = w) → exec (.evtDramRingSet which v) s = .next s) ∧
    ((s.live && !s.drainEn) = true → (s.rd o).toNat ≠ w → ∃ t, exec (.evtDramRingSet which v) s = .next t ∧ t.rd o = BitVec.ofNat 32 w ∧
      t.rd Reg.EVT_DRAM_WR = s.rd Reg.EVT_GRING_DRAINED ∧ t.rd Reg.EVT_DRAM_RD = s.rd Reg.EVT_GRING_DRAINED ∧ t.evt = s.evt ∧ s.sameStores t ∧
      s.sameRegs t (fun x => x = o ∨ x = Reg.EVT_DRAM_WR ∨ x = Reg.EVT_DRAM_RD ∨ x = Reg.EVT_STATUS))) ∧
  (∀ s : State, s.canonical →
    (s.live = false → exec .evtReset s = .next s) ∧
    (s.live = true → ∃ t, exec .evtReset s = .next t ∧ t.evt = s.evt ∧ s.sameStores t ∧ s.sameRegs t (fun o => o = Reg.EVT_STATUS)) ∧
    (((s.live && s.role == 0) = false ∨ s.evt.msixReady = []) → exec .msixSend s = .next s) ∧
    (∀ v rest, (s.live && s.role == 0) = true → s.evt.msixReady = v :: rest → ∃ t, exec .msixSend s = .next t ∧ t.evt.msixReady = rest ∧
      (s.evt.holdoff.contains v = true → t.evt.heldReq.contains v = true ∧ t.out = s.out ∧ t.regs = s.regs) ∧
      (s.evt.holdoff.contains v = false → s.goesOut v t) ∧ s.sameStores t ∧ s.sameRegs t (fun o => o = Reg.PCI_MSIX_PBA (v / 32)))) ∧
  (∀ (v : Fin 512) (s : State), s.canonical →
    ((s.live && s.role == 0 && s.evt.holdoff.contains v.val) = false → exec (.msixHoldoffEnd v) s = .next s) ∧
    (¬ s.clear (s.holdLeft v.val) → exec (.msixHoldoffEnd v) s = .next s) ∧
    ((s.live && s.role == 0 && s.evt.holdoff.contains v.val) = true → s.clear (s.holdLeft v.val) → ∀ u, u = s.advance (s.holdLeft v.val) →
      ∃ t, exec (.msixHoldoffEnd v) s = .next t ∧ t.tmb.tclk = s.tmb.tclk + s.holdLeft v.val ∧
      t.evt.heldReq.contains v.val = false ∧ t.evt.msixReady = u.evt.msixReady ∧
      (s.evt.heldReq.contains v.val = false → t.evt.holdoff.contains v.val = false ∧ t.out = u.out ∧ t.regs = u.regs) ∧
      (s.evt.heldReq.contains v.val = true → u.goesOut v.val t) ∧ s.sameStores t ∧
      s.sameRegs t (fun o => evtWindow o ∨ o = Reg.TMB_TB_FREQ 6 ∨ o = Reg.PCI_MSIX_PBA (v.val / 32)))) ∧
  (∀ s : State, s.canonical →
    ((s.tile = false ∨ s.evt.forward = []) → exec .eventForward s = .next s ∧ exec .eventForwardTimeout s = .next s) ∧
    (∀ src since b rest, s.tile = true → s.evt.forward = (src, since, b) :: rest →
      (∃ t, exec .eventForward s = .next t ∧ t.evt.forward = rest ∧
        (∀ tag id idx p, s.red.holder = some (tag, id, idx, p) → t.slk = (s.sendOn p idx 4 0 Code.OK b).slk ∧ t.regs = s.regs ∧ s.sameStores t) ∧
        (s.red.holder = none → s.forwardGone t)) ∧
      (¬ s.clear (s.forwardLeft since) → exec .eventForwardTimeout s = .next s) ∧
      (s.clear (s.forwardLeft since) → ∀ u, u = s.advance (s.forwardLeft since) → ∃ t, exec .eventForwardTimeout s = .next t ∧
        t.evt.forward = rest ∧ u.forwardGone t ∧ t.tmb.tclk = s.tmb.tclk + s.forwardLeft since)))

/-- R580 to R585, R597 to R599, R655: the slots of a round, and shut-down. -/
def Obligations.HousekeepingAndShutDown : Prop :=
  (∀ (codes : Vector (BitVec 14) 8) (osc : BitVec 20) (s : State), s.canonical →
    (s.live = false → exec (.hkpSlotEnd codes osc) s = .next s) ∧
    (s.live = true → ∃ t, exec (.hkpSlotEnd codes osc) s = .next t ∧ t.rd Reg.HKP_ROUND = s.rd Reg.HKP_ROUND + 1 ∧
      (∀ k cs, flagged (s.role == 1) s.hkpSlot = some k → cs = codes.toList.map (fun c => c.toNat) →
        t.fld (Reg.HKP_SLOT s.hkpSlot) 17 0 = slotValue cs k % 2 ^ 18 ∧ t.bit (Reg.HKP_SLOT s.hkpSlot) 30 = slotSat cs k) ∧
      (∀ i, i < 64 → (i ≠ s.hkpSlot ∨ flagged (s.role == 1) s.hkpSlot = none) → t.rd (Reg.HKP_SLOT i) = s.rd (Reg.HKP_SLOT i)) ∧
      (s.hkpSlot % 4 = 0 → t.rd (Reg.HKP_RO_COUNT (s.hkpSlot / 4)) = BitVec.ofNat 32 osc.toNat) ∧
      s.sameStores t ∧ s.sameRegs t (fun o => evtWindow o ∨ o / 0x10000 = 0x10))) ∧
  (∀ (us : Fin 4001) (s : State), s.canonical →
    ((s.live = false ∨ s.hkp.shut = none) → exec (.shutdownDeferEnd us) s = .next s) ∧
    (∀ cause, s.live = true → s.hkp.shut = some cause → ∃ t, exec (.shutdownDeferEnd us) s = .next t ∧ s.recordedAndHeld cause us.val t ∧
      ∃ dark, t.out = s.out ++ dark ++
        (ports.filter (fun p => portOn s.role p)).map (fun p => .pin ("SLAUF_" ++ toString p.val) false) ++ [.pin "THERM_N" false] ∧
        (s.role ≠ 1 → dark = []))) ∧
  (∀ s : State, s.canonical →
    (s.live = false → exec .analogTrip s = .next s) ∧
    (s.live = true → ∃ t, exec .analogTrip s = .next t ∧ s.recordedAndHeld 0x12 0 t ∧ t.out = s.out ++ [.pin "THERM_N" false]))

/-- R661 to R670, R687, R688: the PCIe endpoint. -/
def Obligations.HostEndpoint : Prop :=
  (∀ (speed width : BitVec 3) (s : State), s.canonical →
    ((s.hasPci && !s.pci.link) = false → exec (.pcieLinkUp speed width) s = .next s) ∧
    ((s.hasPci && !s.pci.link) = true → ∃ t, exec (.pcieLinkUp speed width) s = .next t ∧ t.pci = { s.pci with link := true } ∧
      t.bit Reg.PCI_STATUS 31 = true ∧ t.fld Reg.PCI_STATUS 30 28 = speed.toNat ∧ t.fld Reg.PCI_STATUS 26 24 = width.toNat ∧
      t.pends Ev.pciLinkUp ∧ s.sameStores t ∧ s.sameRegs t (fun o => evtWindow o ∨ o = Reg.PCI_STATUS))) ∧
  (∀ (bme mse en mask d3 : Bool) (s : State), s.canonical →
    ((s.hasPci && s.pci.link) = false → exec (.pcieConfigRequest bme mse en mask d3) s = .next s) ∧
    ((s.hasPci && s.pci.link) = true → ∃ t, exec (.pcieConfigRequest bme mse en mask d3) s = .next t ∧
      t.pci = { s.pci with bme := bme, mse := mse, msixEn := en, msixMask := mask } ∧ t.bit Reg.PCI_STATUS 23 = bme ∧
      t.bit Reg.PCI_STATUS 22 = mse ∧ t.bit Reg.PCI_STATUS 21 = en ∧ t.bit Reg.PCI_STATUS 20 = mask ∧ t.bit Reg.PCI_STATUS 19 = d3 ∧
      t.fld Reg.PCI_STATUS 31 24 = s.fld Reg.PCI_STATUS 31 24 ∧ s.sameStores t ∧ s.sameRegs t (fun o => o = Reg.PCI_STATUS))) ∧
  (∀ (kind : Fin 4) (s : State), s.canonical →
    ((s.hasPci && (s.pci.link || kind == 0)) = false → exec (.pcieReset kind) s = .next s) ∧
    ((s.hasPci && (s.pci.link || kind == 0)) = true → ∃ t, exec (.pcieReset kind) s = .next t ∧
      t.pci = { s.pci with link := s.pci.link && kind == 1, bme := false, mse := false, msixEn := false, msixMask := false } ∧
      (∀ o, o / 0x10000 = 0x13 → o ≠ Reg.PCI_ID → o ≠ Reg.PCI_SUBSYS → o ≠ Reg.PCI_STATUS → t.rd o = resetReg o) ∧
      t.rd Reg.PCI_ID = s.glb.fuses.pciId ∧ t.rd Reg.PCI_SUBSYS = s.glb.fuses.pciSubsys ∧
      t.rd Reg.PCI_STATUS = (if s.pci.link && kind == 1 then BitVec.ofNat 32 (s.fld Reg.PCI_STATUS 31 24 * 2 ^ 24) else resetReg Reg.PCI_STATUS) ∧
      (∀ n : Fin 16, t.src[n].pull = none) ∧ t.pends Ev.pciReset ∧ (s.pci.link = true → kind ≠ 1 → t.pends Ev.pciLinkDown) ∧ s.sameStores t ∧
      s.sameRegs t (fun o => evtWindow o ∨ o / 0x10000 = 0x13 ∨ o = Reg.GLB_OVERRUN ∨ o = Reg.GLB_CMD_PENDING ∨ o = Reg.GLB_CMD_COMPLETED ∨
        o = Reg.GLB_CMD_DISCARDED ∨
        ∃ n : Fin 16, (o = Reg.INP_SRC_HOST_STAT n.val ∨ o = Reg.INP_SRC_ERR n.val) ∧ s.src[n].pull.isSome = true))) ∧
  (∀ (off : Nat) (data : List Byte) (s : State), s.canonical →
    (((s.hasPci && decide (off + data.length ≤ granarySize)) = false ∨ s.pci.link = false) → exec (.pcieGranaryWrite off data) s = .next s) ∧
    ((s.hasPci && decide (off + data.length ≤ granarySize)) = true → s.pci.link = true →
      (s.pci.mse = false → ∃ t, exec (.pcieGranaryWrite off data) s = .next t ∧ s.unsupported t) ∧
      (s.pci.mse = true → (s.hostRange off (off + data.length) && s.granaryFree off (off + data.length)) = false →
        ∃ t, exec (.pcieGranaryWrite off data) s = .next t ∧
        (t.rd Reg.PCI_GRN_DENY).toNat = min 0xFFFFFFFF ((s.rd Reg.PCI_GRN_DENY).toNat + 1) ∧ s.sameStores t ∧
        s.sameRegs t (fun o => o = Reg.PCI_GRN_DENY)) ∧
      (s.pci.mse = true → (s.hostRange off (off + data.length) && s.granaryFree off (off + data.length)) = true →
        ∃ t, exec (.pcieGranaryWrite off data) s = .next t ∧ (∀ i, i < data.length → t.byte (granaryBase + off + i) = data.getD i 0) ∧
        (∀ a, ¬ (granaryBase + off ≤ a ∧ a < granaryBase + off + data.length) → t.byte a = s.byte a) ∧ t.regs = s.regs ∧
        t.flash = s.flash ∧ t.act = s.act))) ∧
  (∀ (off n : Nat) (write : Bool) (data : List Byte) (s : State), s.canonical → ∀ len, len = (if write then data.length else n) →
    (((s.hasPci && decide (off + len ≤ s.dramCap)) = false ∨ s.pci.link = false) → exec (.pcieBar2Access off n write data) s = .next s) ∧
    ((s.hasPci && decide (off + len ≤ s.dramCap)) = true → s.pci.link = true →
      (s.pci.mse = false → ∃ t, exec (.pcieBar2Access off n write data) s = .next t ∧ s.unsupported t) ∧
      (s.pci.mse = true → s.dmcState ≠ 2 → ∃ t, exec (.pcieBar2Access off n write data) s = .next t ∧
        (t.rd Reg.PCI_DRAM_OFF).toNat = min 0xFFFFFFFF ((s.rd Reg.PCI_DRAM_OFF).toNat + 1) ∧
        t.out = (if write then s.out else s.out ++ [.tlp "CplCA" off []]) ∧ s.sameStores t ∧ s.sameRegs t (fun o => o = Reg.PCI_DRAM_OFF)) ∧
      (s.pci.mse = true → s.dmcState = 2 → ∃ t, exec (.pcieBar2Access off n write data) s = .next t ∧
        (s.dmcOn = true → exec (.dramRequest 3 false write (dramBase + off) len data) s = .next t) ∧ s.sameStores t ∧
        s.sameRegs t (fun o => evtWindow o ∨ o = Reg.DMC_ADDR_ERR ∨ o = Reg.MEC_ZERO_READS ∨ o = Reg.MEC_FILLS ∨ o = Reg.PCI_POISON_TX)))) ∧
  (∀ (v : Fin 512) (s : State), s.canonical →
    ((s.hasPci && s.bit (Reg.PCI_MSIX_PBA (v.val / 32)) (v.val % 32)) = false → exec (.msixUnmask v) s = .next s) ∧
    ((s.hasPci && s.bit (Reg.PCI_MSIX_PBA (v.val / 32)) (v.val % 32)) = true → ∃ t, exec (.msixUnmask v) s = .next t ∧
      t.bit (Reg.PCI_MSIX_PBA (v.val / 32)) (v.val % 32) = !s.msixOpen v.val ∧
      (∀ j, j < 32 → j ≠ v.val % 32 → t.bit (Reg.PCI_MSIX_PBA (v.val / 32)) j = s.bit (Reg.PCI_MSIX_PBA (v.val / 32)) j) ∧
      t.out = (if s.msixOpen v.val then
        s.out ++ [.msix v.val (s.rd64 (Reg.PCI_MSIX_ADDR_LO v.val)) (s.rd (Reg.PCI_MSIX_DATA v.val))] else s.out) ∧
      t.evt = s.evt ∧ s.sameStores t ∧ s.sameRegs t (fun o => o = Reg.PCI_MSIX_PBA (v.val / 32))))

/-- R4 to R8, R627, R638 to R645, R650 to R652, R656: start-up, trials and configuration sets. -/
def Obligations.BootAndConfiguration : Prop :=
  (∀ (mib : Nat) (s : State), s.canonical →
    ((s.live && !s.boot.rom) = false → exec (.bootRomStart mib) s = .next s) ∧
    ((s.live && !s.boot.rom) = true → ∃ t, exec (.bootRomStart mib) s = .next t ∧ t.boot.rom = true ∧
      t.fld Reg.BOOT_STATUS 30 29 = 2 ∧ t.bit Reg.DBG_MON_STATUS 30 = true ∧
      (s.role = 2 → t.fld Reg.GLB_STATE 29 26 = 1 ∧ t.boot.choosing = s.boot.choosing) ∧
      (s.role < 2 → s.bootSrc = 1 → t.mode = 2 ∧ t.fld Reg.GLB_STATE 29 26 = (if s.role = 0 then 2 else 5) ∧ t.pends 1) ∧
      (s.role < 2 → s.bootSrc = 0 → t.boot.choosing = true ∧ t.rd Reg.GLB_STATE = s.rd Reg.GLB_STATE) ∧
      ((s.role = 3 ∨ (s.role < 2 ∧ 2 ≤ s.bootSrc)) → t.boot.choosing = s.boot.choosing ∧ t.rd Reg.GLB_STATE = s.rd Reg.GLB_STATE) ∧
      ((s.bit Reg.AON_RET0 31 && !s.bit Reg.AON_RET0 30) = true → t.bit Reg.AON_RET0 30 = true ∧ t.pends Ev.previousShutdown) ∧
      (s.bit Reg.AON_SEC_HI 31 = false → t.pends Ev.vbatLost) ∧ s.sameStores t ∧ s.sameRegs t bootRegs)) ∧
  (∀ (bad : List Nat) (s : State), s.canonical →
    ((s.live && s.boot.choosing) = false → exec (.bootImageLoaded bad) s = .next s) ∧
    ((s.live && s.boot.choosing) = true → ∀ u x, u = s.endTrials → x = u.trySlots bad (if u.flashBytes = 0 then [] else u.slotOrder) [] →
      ∃ t, exec (.bootImageLoaded bad) s = .next t ∧ t.boot.choosing = false ∧ t.boot.running = x.2.1.isSome ∧
        (match x.2.1 with
          | some n => t.fld Reg.BOOT_STATUS 30 29 = 0 ∧ t.bit Reg.BOOT_STATUS 31 = (n == 1) ∧ t.bit Reg.AON_RET4 20 = (n == 1) ∧
            (s.boot.running = false → t.mode = s.role ∧ t.fld Reg.GLB_STATE 29 26 = 0) ∧ t.pends Ev.bootDone ∧
            ∀ a, dramBase ≤ a → t.byte a = s.byte a
          | none => t.mode = 2 ∧ t.fld Reg.BOOT_STATUS 30 29 = 2 ∧ t.fld Reg.AON_RET4 25 24 = 3 ∧ (∀ a, t.byte a = s.byte a) ∧
            t.fld Reg.GLB_STATE 29 26 = (if x.2.2 ≠ [] ∧ (∀ f ∈ x.2.2, 0x7 ≤ f.2 ∧ f.2 ≤ 0xA) then 4 else 5)) ∧
        s.sameRegions t ∧ t.act = s.act ∧ s.sameRegs t bootRegs)) ∧
  (∀ s : State, s.canonical →
    ((s.live = false ∨ s.shutting = true ∨ ∀ d, s.boot.trialEnd = some d → d < s.tmb.tclk) → exec .bootConfirm s = .next s) ∧
    (∀ d slot, s.live = true → s.shutting = false → s.boot.trialEnd = some d → s.tmb.tclk ≤ d → slot = s.fld Reg.BOOT_STATUS 31 31 →
      ∃ t, exec .bootConfirm s = .next t ∧ t.boot = { s.boot with trialEnd := none } ∧ t.inTrial = false ∧ t.pends Ev.confirmed ∧
        t.fld Reg.BOOT_FUSE 6 0 = (if (leAt (s.readRegion slot 0 32) 11 1).testBit 1 ∧ s.fld Reg.BOOT_FUSE 6 0 < leAt (s.readRegion slot 0 32) 16 1
          then min 64 (leAt (s.readRegion slot 0 32) 16 1) else s.fld Reg.BOOT_FUSE 6 0) ∧
        (∀ a, t.byte a = s.byte a) ∧ s.sameRegions t ∧ t.act = s.act ∧ s.sameRegs t (fun o => evtWindow o ∨ o / 0x10000 = 2)) ∧
    ((s.live && s.inTrial && !s.pausedNow) = false → exec .trialDeadline s = .next s) ∧
    (¬ s.clear s.deadlineLeft → exec .trialDeadline s = .next s) ∧
    ((s.live && s.inTrial && !s.pausedNow) = true → s.clear s.deadlineLeft → ∃ t, exec .trialDeadline s = .next t ∧ t.boot.held = none ∧
      t.tmb.tclk = s.tmb.tclk + s.deadlineLeft ∧
      (s.shutting = true → t.boot.job = (if s.boot.held.isSome then none else s.boot.job) ∧ t.flash = s.flash) ∧
      (s.shutting = false → s.fallsBack t) ∧ (∀ a, t.byte a = s.byte a) ∧ s.sameRegions t ∧ t.act = s.act ∧
      s.sameRegs t (fun o => bootRegs o ∨ o / 0x10000 = 4 ∨ o = Reg.GLB_CMD_COMPLETED ∨ o = Reg.GLB_CMD_PENDING ∨ o = Reg.GLB_CMD_DISCARDED)) ∧
    ((s.live && s.boot.running) = false → exec .firmwareRestart s = .next s) ∧
    ((s.live && s.boot.running) = true → ∃ t, exec .firmwareRestart s = .next t ∧
      (s.servoSource 0 = 1 → (s.servo 0 = Servo.acquisition ∨ s.servo 0 = Servo.locked) → t.servo 0 = Servo.holdover) ∧
      ((s.inTrial && !s.pausedNow) = true → s.shutting = false → s.fallsBack t) ∧
      ((s.inTrial && !s.pausedNow) = false → t.boot = s.boot ∧ t.flash = s.flash) ∧ (∀ a, t.byte a = s.byte a) ∧ s.sameRegions t ∧
      t.act = s.act ∧
      s.sameRegs t (fun o => bootRegs o ∨ o / 0x10000 = 4 ∨ o = Reg.GLB_CMD_COMPLETED ∨ o = Reg.GLB_CMD_PENDING ∨ o = Reg.GLB_CMD_DISCARDED))) ∧
  (∀ (bad : List Nat) (s : State), s.canonical →
    ((s.live && s.boot.running && !s.boot.loadBegun) = false → exec (.configLoad bad) s = .next s) ∧
    ((s.live && s.boot.running && !s.boot.loadBegun) = true →
      ((∀ x ∈ s.setsToTry, s.checkSet (fun a k => s.setBytes x.1 x.2 a k) (x.1 || !bad.contains x.2) ≠ 0) →
        ∃ t, exec (.configLoad bad) s = .next t ∧ t.boot = { s.boot with loadBegun := true } ∧ (s.setsToTry ≠ [] → t.pends Ev.configRejected) ∧
          s.sameStores t ∧ s.sameRegs t (fun o => evtWindow o ∨ o = Reg.BOOT_FLASH_ERR)) ∧
      (∀ chain n rest h recs u, s.setsToTry = (chain, n) :: rest →
        s.checkSet (fun a k => s.setBytes chain n a k) (chain || !bad.contains n) = 0 → h = s.setBytes chain n 0 64 →
        recs = recordsOf (min (leAt h 20 4) (leAt h 16 4 / 4)) (s.setBytes chain n 64 (leAt h 16 4 - 64)) →
        u = (s.modBoot (fun b => { b with loadBegun := true })).modGlb (fun g => { g with bothSets := true }) →
        (recs = [] → ∃ t, exec (.configLoad bad) s = .next t ∧ t.setLoaded chain n) ∧
        (∀ r rs, recs = r :: rs →
          (s.recordFails r = true → ∃ t, exec (.configLoad bad) s = .next t ∧ t.boot.load = none ∧ t.pends Ev.configRejected) ∧
          (s.recordFails r = false → recType r = 3 → (u.waitMet r).2 = false → ∃ t, exec (.configLoad bad) s = .next t ∧
            t.boot.load = some { chain := chain, set := n, version := leAt h 12 4, next := 0, recs := recs, since := s.tmb.tclk } ∧
            t.regs = (u.waitMet r).1.regs ∧ (u.waitMet r).1.sameStores t))))) ∧
  (∀ (late : Bool) (s : State), s.canonical →
    ((s.live = false ∨ s.boot.load = none) → exec (.configWaitDone late) s = .next s) ∧
    (∀ l r rest, s.live = true → s.boot.load = some l → l.recs = r :: rest →
      ((s.waitMet r).2 = false → late = false → exec (.configWaitDone late) s = .next (s.waitMet r).1) ∧
      ((s.waitMet r).2 = false → late = true → ¬ (s.waitMet r).1.clear ((s.waitMet r).1.waitLeft l r) →
        exec (.configWaitDone late) s = .next (s.waitMet r).1) ∧
      ((s.waitMet r).2 = false → late = true → (s.waitMet r).1.clear ((s.waitMet r).1.waitLeft l r) → ∃ t, exec (.configWaitDone late) s = .next t ∧
        t.boot.load = none ∧ t.pends Ev.configRejected ∧ t.tmb.tclk = (s.waitMet r).1.tmb.tclk + (s.waitMet r).1.waitLeft l r) ∧
      ((s.waitMet r).2 = true → rest = [] → ∃ t, exec (.configWaitDone late) s = .next t ∧ t.setLoaded l.chain l.set)))

/-- R46, R637, R646 to R652: the update commands, posted locally. -/
def Obligations.UpdateCommands : Prop :=
  ∀ (region : Fin 16) (offset length id : Word) (s : State), s.canonical →
    (∀ u, u = { op := 1, region := region.val, arg := 0, offset := offset.toNat, length := length.toNat, id := id.toNat, sender := none } →
      s.posts (.fwErase region offset length id) u ∧
      (s.takesUpdate → ∃ t, exec (.fwErase region offset length id) s = .next t ∧
        ((s.inRegion u 0x10000 = false ∨ s.protectedRegion region.val = true) → s.updateAnswered t u Code.REFUSED ∧ t.boot.held = none) ∧
        (s.inRegion u 0x10000 = true → s.protectedRegion region.val = false → s.updateHeld t u ∧
          t.boot.job = (if s.shutting then s.boot.job else some .update) ∧
          t.out = (if s.shutting then s.out else s.out ++ [.flash "ERASE" (regionBase region.val + offset.toNat) length.toNat])))) ∧
    (∀ u, u = { op := 2, region := region.val, arg := 0, offset := offset.toNat, length := length.toNat, id := id.toNat, sender := none } →
      s.posts (.fwWrite region offset length id) u ∧
      (s.takesUpdate → ∃ t, exec (.fwWrite region offset length id) s = .next t ∧
        ((s.inRegion u 256 = false ∨ 0x8000 < length.toNat ∨ s.protectedRegion region.val = true) → s.updateAnswered t u Code.REFUSED ∧ t.boot.held = none) ∧
        (s.inRegion u 256 = true → length.toNat ≤ 0x8000 → s.protectedRegion region.val = false → s.updateHeld t u ∧
          t.boot.job = (if s.shutting then s.boot.job else some .update) ∧
          t.out = (if s.shutting then s.out else s.out ++ [.flash "PROGRAM" (regionBase region.val + offset.toNat) length.toNat])))) ∧
    (∀ u, u = { op := 3, region := region.val, arg := 0, offset := offset.toNat, length := length.toNat, id := id.toNat, sender := none } →
      s.posts (.fwRead region offset length id) u ∧
      (s.takesUpdate → ∃ t, exec (.fwRead region offset length id) s = .next t ∧
        ((s.inRegion u 256 = false ∨ 0x8000 < length.toNat) → s.updateAnswered t u Code.REFUSED ∧ t.boot.held = none) ∧
        (s.inRegion u 256 = true → length.toNat ≤ 0x8000 → s.updateHeld t u ∧ t.boot.job = some .update ∧ t.flash = s.flash ∧
          t.out = s.out ++ [.flash "READ" (regionBase region.val + offset.toNat) length.toNat]))) ∧
    (∀ u, u = { op := 4, region := region.val, arg := 0, offset := 0, length := 0, id := id.toNat, sender := none } →
      s.posts (.fwVerify region id) u ∧
      (s.takesUpdate → ∃ t, exec (.fwVerify region id) s = .next t ∧
        ((s.regionSize region.val = 0 ∨ region.val = 4 ∨ 5 < region.val) → s.updateAnswered t u Code.REFUSED ∧ t.boot.held = none) ∧
        (s.regionSize region.val ≠ 0 → region.val ≠ 4 → region.val ≤ 5 → s.updateHeld t u ∧ t.boot.job = some .update ∧ t.flash = s.flash ∧
          t.fld Reg.BOOT_VERIFY_STATUS 31 29 = Phase.running ∧ t.fld Reg.BOOT_VERIFY_STATUS 7 0 = id.toNat % 256))) ∧
    (∀ u, u = { op := 5, region := 0, arg := region.val, offset := 0, length := 0, id := id.toNat, sender := none } →
      s.posts (.fwActivate region id) u ∧
      (s.takesUpdate → ∃ t, exec (.fwActivate region id) s = .next t ∧
        ∀ ok, ok = (decide (region.val < 2) && (s.slotState region.val).1 == SlotState.verified && s.role != 2 && !s.inTrial) →
        (ok = false → s.updateAnswered t u Code.REFUSED ∧ t.boot.held = none) ∧
        (ok = true → s.updateHeld t u ∧ t.boot.job = (if s.shutting then s.boot.job else some (.load region.val true)) ∧
          t.pausedNow = !s.shutting ∧ (s.shutting = false → t.pends Ev.activate)))) ∧
    (∀ u, u = { op := 6, region := 0, arg := 0, offset := 0, length := 0, id := id.toNat, sender := none } →
      s.posts (.fwRollback id) u ∧
      (s.takesUpdate → ∃ t, exec (.fwRollback id) s = .next t ∧
        (s.inTrial = true → s.updateHeld t u ∧ t.inTrial = s.shutting ∧ t.pausedNow = (!s.shutting) ∧
          t.boot.job = (if s.shutting then s.boot.job else some (.fallBack (s.boot.before.getD (1 - s.fld Reg.BOOT_STATUS 31 31))))) ∧
        (s.inTrial = false → ∀ x, x = [0, 1].find? (fun n => (s.slotState n).1 == SlotState.standby) →
          ((s.role = 2 ∨ x = none) → s.updateAnswered t u Code.REFUSED ∧ t.boot.held = none) ∧
          (∀ n, s.role ≠ 2 → x = some n → s.updateHeld t u ∧ t.boot.job = (if s.shutting then s.boot.job else some (.load n false)) ∧
            t.pausedNow = !s.shutting)))) ∧
    (∀ u, u = { op := 7, region := 0, arg := region.val, offset := 0, length := 0, id := id.toNat, sender := none } →
      s.posts (.fwSelect region id) u ∧
      (s.takesUpdate → ∃ t, exec (.fwSelect region id) s = .next t ∧
        ∀ ok, ok = (decide (region.val < 2) && (s.setState region.val).1 == SlotState.verified) →
        (ok = false → s.updateAnswered t u Code.REFUSED ∧ t.boot.held = none) ∧
        (ok = true → s.updateHeld t u ∧ t.boot.job = (if s.shutting then s.boot.job else some .update)))) ∧
    (∀ u, u = { op := 8, region := 0, arg := region.val, offset := 0, length := 0, id := id.toNat, sender := none } →
      s.posts (.fwRevoke region id) u ∧
      (s.takesUpdate → ∃ t, exec (.fwRevoke region id) s = .next t ∧ t.boot.held = none ∧ t.flash = s.flash ∧
        ∀ bad, bad = (decide (1 < region.val) || s.bit Reg.BOOT_FUSE (12 + (1 - region.val)) || !s.bit Reg.BOOT_FUSE (8 + (1 - region.val)) ||
          s.boot.keys.contains region.val) →
        (bad = true → s.updateAnswered t u Code.REFUSED ∧ t.rd Reg.BOOT_FUSE = s.rd Reg.BOOT_FUSE) ∧
        (bad = false → s.updateAnswered t u Code.OK ∧ t.pends Ev.keyRevoked ∧ t.bit Reg.BOOT_FUSE (12 + region.val) = true))) ∧
    (∀ u, u = { op := 9, region := 0, arg := 0, offset := 0, length := 0, id := id.toNat, sender := none } →
      s.posts (.fwChainStart id) u ∧
      (s.takesUpdate → ∃ t, exec (.fwChainStart id) s = .next t ∧ t.boot.held = none ∧ t.flash = s.flash ∧
        ∀ ok, ok = (s.mode == 2 && s.role == 1 && s.bootSrc == 1 && !s.boot.running) →
        (ok = false → s.updateAnswered t u Code.REFUSED ∧ t.boot.running = s.boot.running) ∧
        (ok = true → s.updateAnswered t u (if s.checkChain = 0 then Code.OK else Code.REFUSED) ∧ t.boot.running = (s.checkChain == 0) ∧
          t.pends (if s.checkChain = 0 then Ev.bootDone else Ev.slotRejected) ∧ t.fld Reg.GLB_STATE 31 30 = (if s.checkChain = 0 then 1 else 2))))

/-- R46, R634, R641, R642, R646 to R651: the end of a flash operation. -/
def Obligations.FlashOperations : Prop :=
  ∀ (ok : Bool) (at' : Word) (s : State), s.canonical →
    ((s.live && !s.eraseSuspended) = false → exec (.flashOperationDone ok at') s = .next s) ∧
    ((s.live && !s.eraseSuspended) = true →
      ((s.boot.job = none ∨ (s.boot.job = some .update ∧ s.boot.held = none)) → exec (.flashOperationDone ok at') s = .next s.afterFlash) ∧
      (∀ u, s.boot.job = some .update → s.boot.held = some u → ∃ v, exec (.flashOperationDone ok at') s = .next v.afterFlash ∧
        v.act = s.act ∧ s.sameRegs v (fun o => updateRegs o ∨ ∃ i, o = Reg.BOOT_STAGE i) ∧
        (u.op = 1 → ok = true → s.updateEnds v u Code.OK ∧
          (∀ a, v.byte a = if u.region = 5 ∧ chainBase + u.offset ≤ a ∧ a < chainBase + u.offset + u.length then 0xFF else s.byte a) ∧
          ∀ a, sGet flashDefault v.flash a = if u.region ≠ 5 ∧ regionBase u.region + u.offset ≤ a ∧ a < regionBase u.region + u.offset + u.length
            then 0xFF else sGet flashDefault s.flash a) ∧
        (u.op = 1 → ok = false → s.updateEnds v u Code.FAULT ∧ s.flashFails v ∧ s.sameStores v) ∧
        (u.op = 2 → ∀ data, data = wordsBytes ((List.range (u.length / 4)).map (fun i => s.rd (Reg.BOOT_STAGE i))) →
          (u.region = 5 → s.updateEnds v u Code.OK ∧ v.flash = s.flash ∧ (∀ i, i < data.length → v.byte (chainBase + u.offset + i) = data.getD i 0) ∧
            ∀ a, (a < chainBase + u.offset ∨ chainBase + u.offset + data.length ≤ a) → v.byte a = s.byte a) ∧
          (u.region ≠ 5 → ∀ a, a = regionBase u.region + u.offset → (∀ x, v.byte x = s.byte x) ∧
            s.updateEnds v u (if ok && v.rdFlash a u.length == data then Code.OK else Code.FAULT) ∧
            ((ok && v.rdFlash a u.length == data) = false → s.flashFails v) ∧
            ∀ x, sGet flashDefault v.flash x = if a ≤ x ∧ x < a + min u.length data.length then sGet flashDefault s.flash x &&& data.getD (x - a) 0
              else sGet flashDefault s.flash x)) ∧
        (u.op = 3 → s.sameStores v ∧
          ((ok || u.region == 5) = true → s.updateEnds v u Code.OK ∧
            ∀ i, i < u.length / 4 → v.rd (Reg.BOOT_STAGE i) = (bytesWords (u.length / 4) (s.readRegion u.region u.offset u.length)).getD i 0) ∧
          ((ok || u.region == 5) = false → s.updateEnds v u Code.FAULT ∧ s.flashFails v)) ∧
        (u.op = 4 → ∀ r, r = (if u.region = 5 then s.checkChain else if u.region < 2 then s.checkSlot u.region ok
            else s.checkSet (fun a k => s.readRegion u.region a k) ok) →
          s.updateEnds v u (if r = 0 then Code.OK else Code.REFUSED) ∧ v.pends Ev.verifyDone ∧ v.fld Reg.BOOT_VERIFY_STATUS 31 29 = Phase.done ∧
            v.fld Reg.BOOT_VERIFY_STATUS 28 25 = (if r = 0 then Code.OK else Code.REFUSED) ∧ (∀ a, v.byte a = s.byte a) ∧ s.sameRegions v) ∧
        ((u.op = 0 ∨ 5 ≤ u.op) → s.updateEnds v u (if ok then Code.OK else Code.FAULT) ∧ s.sameStores v ∧ (ok = false → s.flashFails v))) ∧
      (∀ slot trial, s.boot.job = some (.load slot trial) → ∃ v, exec (.flashOperationDone ok at') s = .next v.pauseEnds.afterFlash ∧
        v.boot.held = none ∧ v.boot.job = none ∧ v.act = s.act ∧ s.sameRegions v ∧ (∀ a, dramBase ≤ a → v.byte a = s.byte a) ∧ s.sameRegs v updateRegs ∧
        (∀ u, s.boot.held = some u → s.updateEnds v u (if s.checkSlot slot ok = 0 then Code.OK else Code.REFUSED)) ∧
        v.boot.running = (s.checkSlot slot ok == 0 || s.boot.running) ∧
        v.pends (if s.checkSlot slot ok = 0 then Ev.bootDone else Ev.slotRejected) ∧
        v.boot.trialEnd = (if trial && s.checkSlot slot ok == 0 then some (s.tmb.tclk + 60 * 800000000) else s.boot.trialEnd) ∧
        v.inTrial = (trial && s.checkSlot slot ok == 0 || s.inTrial)) ∧
      (∀ slot, s.boot.job = some (.fallBack slot) → ∃ v, exec (.flashOperationDone ok at') s = .next v.pauseEnds.afterFlash ∧
        v.boot.held = none ∧ v.boot.job = none ∧ v.act = s.act ∧ v.flash = s.flash ∧ (∀ a, dramBase ≤ a → v.byte a = s.byte a) ∧ s.sameRegs v updateRegs ∧
        (∀ u, s.boot.held = some u → s.updateEnds v u (if s.checkSlot slot ok = 0 then Code.OK else Code.REFUSED)) ∧
        v.boot.running = (s.checkSlot slot ok == 0) ∧ v.pends Ev.fallback ∧
        v.fld Reg.BOOT_STATUS 30 29 = (if s.checkSlot slot ok = 0 then 0 else 2) ∧ (s.checkSlot slot ok ≠ 0 → v.mode = 2)))

/-- R82: AON_SEC_HI.valid is cleared by the loss of VBAT, and a load, which takes effect at the next rollover (R81), sets it, also after
such a loss. -/
def Obligations.SecondsValid : Prop :=
  ∀ s : State, s.canonical →
    (∃ t, exec .vbatLost s = .next t ∧ t.bit Reg.AON_SEC_HI 31 = false ∧ s.sameStores t ∧ s.sameRegs t (fun o => o / 0x10000 = 1) ∧
      (s.live = true → ∃ u v, exec .aonSecLoadRequest t = .next u ∧ u.bit Reg.AON_SEC_HI 31 = false ∧
        exec .aonSecondRollover u = .next v ∧ v.bit Reg.AON_SEC_HI 31 = true)) ∧
    (s.bit Reg.AON_SEC_CTL 0 = true → ∃ t, exec .aonSecondRollover s = .next t ∧ t.bit Reg.AON_SEC_HI 31 = true)

/-- R671 to R674, R687, R689: the management Ethernet port. R674 is stated whole; what the header bytes 5 to 7 of a response hold is free
(log entry 2), as is the code of a memory read that meets uncorrectable bytes. That a bad datagram is counted before the allow list is
asked, and what MGE_RX_REQ counts, are the model's reading (log entry 57, DEDUCED). -/
def Obligations.ManagementPort : Prop :=
  (∀ (up : Bool) (speed : BitVec 2) (s : State), s.canonical →
    ((s.hasMge && up != s.bit Reg.MGE_STATUS 31) = false → exec (.mgeLinkChange up speed) s = .next s) ∧
    ((s.hasMge && up != s.bit Reg.MGE_STATUS 31) = true → ∃ t, exec (.mgeLinkChange up speed) s = .next t ∧ t.bit Reg.MGE_STATUS 31 = up ∧
      (up = true → t.fld Reg.MGE_STATUS 30 29 = speed.toNat ∧ t.pends Ev.mgeLinkUp) ∧ (up = false → t.pends Ev.mgeLinkDown) ∧
      t.mge = s.mge ∧ s.sameStores t ∧ s.sameRegs t (fun o => evtWindow o ∨ o = Reg.MGE_STATUS))) ∧
  (∀ (echo : Bool) (src target : Nat) (b : List Byte) (s : State),
    ((s.mgeUp && target == (s.rd Reg.MGE_IPV4).toNat) = false → exec (.mgeArpOrEchoRequest echo src target b) s = .next s) ∧
    ((s.mgeUp && target == (s.rd Reg.MGE_IPV4).toNat) = true → exec (.mgeArpOrEchoRequest echo src target b) s = .next (s.emit
      (if echo then .udp "echo reply" src 0 b else .udp "arp reply" src 0
        (beBytes 6 ((s.rd Reg.MGE_MAC_LO).toNat + 2 ^ 32 * s.fld Reg.MGE_MAC_HI 15 0) ++ beBytes 4 target))))) ∧
  (∀ (ip port dport : Nat) (b : List Byte) (s : State), s.canonical →
    ((dgRemote b = true ∨ isMemOp (dgBody b) = false) → s.datagramDoes (.mgeRequest ip port dport b) ip port dport b) ∧
    (dgRemote b = false → reachOp (dgBody b) = 8 → s.datagramDoes (.mgeMemoryRead ip port dport b) ip port dport b) ∧
    (dgRemote b = false → reachOp (dgBody b) = 9 → s.datagramDoes (.mgeMemoryWrite ip port dport b) ip port dport b)) ∧
  (∀ (o : Outstanding) (code : Nat) (body : List Byte) (w : MgeRemote) (s : State), o.via = some .mge →
    s.mge.waiting.find? (fun w => w.dst == o.dst && w.cmdId == o.cmdId) = some w →
    (s.modMge (fun g => { g with waiting := s.mge.waiting.erase w })).replied (s.answerPath o code body) w.ip w.port w.seq w.cmdId
      (if body = [] then reachResponse w.req code [] else body))

/-- R676 to R680, R687, R690: the Gelle monitor. Numbers that the model does not take and what a failed load leaves are its reading (log
entry 58, DEDUCED); the identifier of an @ command, and the code of a memory read that meets uncorrectable bytes, are free (log entry 2). -/
def Obligations.MonitorLines : Prop :=
  (∀ s : State, s.canonical →
    s.lineRuns .monId .id ∧ (∀ off n, s.lineRuns (.monRd off n) (.rd off n)) ∧ (∀ off data, s.lineRuns (.monWr off data) (.wr off data)) ∧
    (∀ off mask v, s.lineRuns (.monMw off mask v) (.mw off mask v)) ∧ (∀ addr n, s.lineRuns (.monMrd addr n) (.mrd addr n)) ∧
    (∀ addr data, s.lineRuns (.monMwr addr data) (.mwr addr data)) ∧
    (∀ idx op off n data, s.lineRuns (.monRemote idx op off n data) (.remote idx op off n data)) ∧ (∀ n, s.lineRuns (.monLog n) (.log n)) ∧
    (∀ chain off len crc, s.lineRuns (.monLoad chain off len crc) (.load chain off len crc)) ∧
    (∀ n, s.lineRuns (.monBootSlot n) (.bootSlot n)) ∧ s.lineRuns .monBootChain .bootChain ∧ (∀ code, s.lineRuns (.monBaud code) (.baud code)) ∧
    s.lineRuns .monHelp .help ∧ s.lineRuns .monUnknownCommand .unknown) ∧
  (∀ (l : MonLine) (s : State), s.canonical → s.mon.waiting = [l] → s.pausedNow = false →
    { s with mon := { s.mon with waiting := [] } }.lineDoes s.linesRun l) ∧
  (∀ (data : List Byte) (s : State), s.canonical →
    ((s.live = false ∨ ∀ l, s.mon.load = some l → data.length ≠ l.len) → exec (.monLoadDone data) s = .next s) ∧
    (∀ l, s.live = true → s.mon.load = some l → data.length = l.len → ∃ t, exec (.monLoadDone data) s = .next t ∧
      t.mon = { s.mon with load := none } ∧
      (crc32c data ≠ l.crc → s.prints t [] Code.FAULT ∧ t.regs = s.regs ∧ s.sameStores t) ∧
      (crc32c data = l.crc → l.chain = false → s.prints t [] Code.OK ∧ s.sameStores t ∧ s.sameRegs t (fun o => ∃ i, o = Reg.BOOT_STAGE i) ∧
        ∀ k, bits (t.rd (Reg.BOOT_STAGE (k / 4))).toNat (8 * (k % 4) + 7) (8 * (k % 4)) =
          if l.off ≤ k ∧ k < l.off + l.len then (data.getD (k - l.off) 0).toNat
          else bits (s.rd (Reg.BOOT_STAGE (k / 4))).toNat (8 * (k % 4) + 7) (8 * (k % 4))) ∧
      (crc32c data = l.crc → l.chain = true → (∃ e, t.out = s.out ++ e ++ [.uart "OK", .uart "gelle> "]) ∧
        (s.role = 1 → l.off + l.len ≤ 24 * 0x100000 → ∀ i, i < l.len → t.byte (chainBase + l.off + i) = data.getD i 0) ∧
        (∀ a, ¬ (chainBase + l.off ≤ a ∧ a < chainBase + l.off + l.len) → t.byte a = s.byte a) ∧ t.flash = s.flash ∧ t.act = s.act ∧
        s.sameRegs t memRegs))) ∧
  (∀ s : State,
    ((s.live && s.mon.load.isSome) = false → exec .monLoadTimeout s = .next s) ∧
    (¬ s.clear (s.silenceLeft 1) → exec .monLoadTimeout s = .next s) ∧
    ((s.live && s.mon.load.isSome) = true → s.clear (s.silenceLeft 1) → ∀ u, u = s.advance (s.silenceLeft 1) →
      ∃ t, exec .monLoadTimeout s = .next t ∧ u.prints t [] Code.DISCARDED ∧ t.tmb.tclk = s.tmb.tclk + s.silenceLeft 1 ∧
        t.mon = { s.mon with load := none } ∧ t.regs = u.regs ∧ s.sameStores t)) ∧
  (∀ s : State, s.canonical →
    (s.live = false → exec .monSessionTimeout s = .next s) ∧
    (¬ s.clear (s.silenceLeft 10) → exec .monSessionTimeout s = .next s) ∧
    (s.live = true → s.clear (s.silenceLeft 10) → ∃ t, exec .monSessionTimeout s = .next t ∧ t.bit Reg.DBG_MON_STATUS 31 = false ∧
      t.fld Reg.DBG_MON_STATUS 30 0 = s.fld Reg.DBG_MON_STATUS 30 0 ∧ t.tmb.tclk = s.tmb.tclk + s.silenceLeft 10 ∧ t.mon = s.mon ∧
      s.sameStores t ∧ s.sameRegs t (fun o => evtWindow o ∨ o = Reg.TMB_TB_FREQ 6 ∨ o = Reg.DBG_MON_STATUS)))

/-- R681 to R686, R690: the test access port. R683 is stated whole: the 32 bits that leave by TDO, and their fields. What the cells capture is
the command's operand; the order of the cells within an AC-coupled interface is the model's reading (log entry 60, DEDUCED) and is not
stated. -/
def Obligations.TapInstructions : Prop :=
  (∀ (captured tdi : BoundaryCells) (s : State), s.live = false →
    exec .tapReset s = .next s ∧ exec .tapIdcode s = .next s ∧ exec (.tapSamplePreload captured tdi) s = .next s ∧
    exec (.tapExtest captured tdi) s = .next s ∧ exec .tapClamp s = .next s ∧ exec .tapHighz s = .next s ∧
    exec (.tapExtestPulse captured tdi) s = .next s ∧ exec (.tapExtestTrain captured tdi) s = .next s) ∧
  (∀ s : State, s.canonical → s.live = true → ∃ t v, exec .tapIdcode s = .next t ∧
    t.out = s.out ++ [.scan "IDENTIFICATION", .tdo 32 v] ∧ v = 0x17710967 ∧ bits v 31 28 = 0x1 ∧ bits v 27 12 = 0x7710 ∧
    bits v 11 1 = 0x4B3 ∧ bits v 0 0 = 1 ∧ t.tapIr = 0x01 ∧ t.testMode = s.testMode ∧ t.mon = s.mon ∧ s.sameStores t ∧
    s.sameRegs t (fun o => o = Reg.DBG_TAP_STATUS)) ∧
  (∀ (captured tdi : BoundaryCells) (s : State), s.canonical → s.live = true →
    (∃ t, exec .tapReset s = .next t ∧ t.out = s.out ++ [.scan "RESET"] ∧ t.tapIr = 0x01 ∧ t.testMode = s.testMode ∧ t.mon = s.mon ∧
      s.sameStores t ∧ s.sameRegs t (fun o => o = Reg.DBG_TAP_STATUS)) ∧
    (∃ t, exec (.tapSamplePreload captured tdi) s = .next t ∧ t.out = s.out ++ [.scan "BOUNDARY", .tdo 2054 captured.toNat] ∧ t.tapIr = 0x02 ∧
      t.testMode = s.testMode ∧ s.boundaryScanned tdi t ∧ s.sameStores t ∧ s.sameRegs t (fun o => o = Reg.DBG_TAP_STATUS)) ∧
    (∃ t, exec (.tapExtest captured tdi) s = .next t ∧ s.boundaryScanned tdi t ∧ s.tapTakes 0x03
      [.scan "BOUNDARY DRIVEN", .boundary "LEVEL" s.mon.update, .tdo 2054 captured.toNat, .boundary "LEVEL" tdi] t) ∧
    (∃ t, exec .tapClamp s = .next t ∧ t.mon = s.mon ∧ s.tapTakes 0x04 [.scan "BYPASS HELD", .boundary "LEVEL" s.mon.update] t) ∧
    (∃ t, exec .tapHighz s = .next t ∧ t.mon = s.mon ∧ s.tapTakes 0x05 [.scan "BYPASS FLOATING"] t) ∧
    (∃ t, exec (.tapExtestPulse captured tdi) s = .next t ∧ s.boundaryScanned tdi t ∧ s.tapTakes 0x06
      [.scan "BOUNDARY PULSE", .boundary "PULSE" s.mon.update, .tdo 2054 captured.toNat, .boundary "PULSE" tdi] t) ∧
    (∃ t, exec (.tapExtestTrain captured tdi) s = .next t ∧ s.boundaryScanned tdi t ∧ s.tapTakes 0x07
      [.scan "BOUNDARY TRAIN", .boundary "TRAIN" s.mon.update, .tdo 2054 captured.toNat, .boundary "TRAIN" tdi] t)) ∧
  (∀ (code : BitVec 8) (s : State), s.canonical →
    ((s.live = false ∨ (1 ≤ code.toNat ∧ code.toNat ≤ 7)) → exec (.tapBypass code) s = .next s) ∧
    (s.live = true → (code.toNat = 0 ∨ 7 < code.toNat) → ∃ t, exec (.tapBypass code) s = .next t ∧
      t.out = s.out ++ [.scan (if s.role = 3 ∧ 0x80 ≤ code.toNat ∧ code.toNat ≤ 0xFE then "FACTORY" else "BYPASS")] ∧ t.tapIr = code.toNat ∧
      t.testMode = s.testMode ∧ t.mon = s.mon ∧ s.sameStores t ∧ s.sameRegs t (fun o => o = Reg.DBG_TAP_STATUS))) ∧
  (boundaryCells.length = 2054 ∧ boundaryCells[0]? = some ⟨"ROLE", 0, 0, .input⟩ ∧
    (∀ p, p < 16 → boundaryCells[44 + 5 * p]? = some ⟨"ABCK", p, 0, .input⟩ ∧ boundaryCells[44 + 5 * p + 4]? = some ⟨"ADAT", p, 0, .control⟩) ∧
    (∀ l, l < 64 → boundaryCells[124 + 2 * l]? = some ⟨"FOUT", 0, l, .data⟩ ∧ boundaryCells[252 + l]? = some ⟨"FRTN", 0, l, .input⟩) ∧
    (∀ k, k < 10 → boundaryCells[316 + 82 * k]? = some ⟨"DQ", k, 0, .input⟩ ∧ boundaryCells[1138 + 82 * k]? = some ⟨"DQ", 10 + k, 0, .input⟩) ∧
    boundaryCells[1136]? = some ⟨"DDR_RESET_N", 0, 0, .data⟩ ∧ boundaryCells[1958]? = some ⟨"DDR_RESET_N", 1, 0, .data⟩ ∧
    (∀ i, 1960 ≤ i → i < 2054 → ∃ c, boundaryCells[i]? = some c ∧
      c.pin ∈ ["SLAUF_TX", "SLAUF_RX", "PCIE_TX", "PCIE_RX", "PCIE_REFCLK", "ETH_TX", "ETH_RX", "SDI_RX", "SDI_TX", "MGE_TX", "MGE_RX"]))
end

