-- ==== Sys2Proof/Laws/Sparse.lean ====
section
/-!
SUPPORT. The laws of sparse stores: reading after a put, and the canonical form.
-/

namespace Sys2Proof.Machine

variable {α : Type} [DecidableEq α] {d : Nat → α}

/-- A put leaves every other key as it was, in any store. -/
theorem sGet_sPut_ne (l : List (Nat × α)) {k k' : Nat} (v : α) (h : k' ≠ k) :
    sGet d (sPut d l k v) k' = sGet d l k' := by
  induction l with
  | nil => simp only [sPut]; split <;> simp [sGet, h]
  | cons x t ih =>
    obtain ⟨a, b⟩ := x
    simp only [sPut]
    split
    · split <;> simp [sGet, h]
    · split
      · next h1 h2 => subst h2; split <;> simp [sGet, h]
      · simp [sGet, ih]

/-- A store whose keys lie above `lo` holds the default below it. -/
theorem sGet_of_sWf_lt {l : List (Nat × α)} {lo k : Nat} (hw : sWf d lo l = true) (h : k < lo) : sGet d l k = d k := by
  induction l generalizing lo with
  | nil => rfl
  | cons x t ih =>
    obtain ⟨a, b⟩ := x
    simp only [sWf, Bool.and_eq_true, decide_eq_true_eq] at hw
    have hne : k ≠ a := by omega
    simp only [sGet, hne, if_false]
    exact ih hw.2 (by omega)

/-- A put to a store in canonical form is read back. -/
theorem sGet_sPut_same {l : List (Nat × α)} {lo k : Nat} (v : α) (hw : sWf d lo l = true) : sGet d (sPut d l k v) k = v := by
  induction l generalizing lo with
  | nil => simp only [sPut]; split <;> simp_all [sGet]
  | cons x t ih =>
    obtain ⟨a, b⟩ := x
    simp only [sWf, Bool.and_eq_true, decide_eq_true_eq] at hw
    simp only [sPut]
    split
    · next hlt =>
      split
      · next hv =>
        have hne : k ≠ a := by omega
        simp only [sGet, hne, if_false, hv]
        exact sGet_of_sWf_lt hw.2 (by omega)
      · simp [sGet]
    · split
      · next h1 h2 =>
        subst h2
        split
        · next hv => rw [hv]; exact sGet_of_sWf_lt hw.2 (by omega)
        · simp [sGet]
      · next h1 h2 =>
        simp only [sGet, h2, if_false]
        exact ih hw.2

/-- The lower bound of a canonical form may be lowered. -/
theorem sWf_mono {l : List (Nat × α)} {lo lo' : Nat} (hw : sWf d lo l = true) (h : lo' ≤ lo) : sWf d lo' l = true := by
  cases l with
  | nil => rfl
  | cons x t =>
    obtain ⟨a, b⟩ := x
    simp only [sWf, Bool.and_eq_true, decide_eq_true_eq] at hw ⊢
    exact ⟨⟨by omega, hw.1.2⟩, hw.2⟩

/-- A put above the lower bound keeps the canonical form. -/
theorem sWf_sPut_of_le {l : List (Nat × α)} {lo k : Nat} (v : α) (hw : sWf d lo l = true) (h : lo ≤ k) :
    sWf d lo (sPut d l k v) = true := by
  induction l generalizing lo with
  | nil => simp only [sPut]; split <;> simp_all [sWf]
  | cons x t ih =>
    obtain ⟨a, b⟩ := x
    simp only [sWf, Bool.and_eq_true, decide_eq_true_eq] at hw
    simp only [sPut]
    split
    · split
      · simp [sWf, hw.1.1, hw.1.2, hw.2]
      · next h1 h2 =>
        have h3 : k + 1 ≤ a := h1
        simp [sWf, h, h2, h3, hw.1.2, hw.2]
    · split
      · next h1 h2 =>
        subst h2
        split
        · exact sWf_mono hw.2 (by omega)
        · next h3 => simp [sWf, h, h3, hw.2]
      · next h1 h2 =>
        simp only [sWf, Bool.and_eq_true, decide_eq_true_eq]
        exact ⟨hw.1, ih hw.2 (by omega)⟩

/-- A put keeps the canonical form. -/
theorem sWf_sPut {l : List (Nat × α)} (k : Nat) (v : α) (hw : sWf d 0 l = true) : sWf d 0 (sPut d l k v) = true :=
  sWf_sPut_of_le v hw (Nat.zero_le k)

/-- What is left of a store in canonical form when entries are taken out is in canonical form. -/
theorem sWf_filter {l : List (Nat × α)} {lo : Nat} (p : Nat × α → Bool) (hw : sWf d lo l = true) :
    sWf d lo (l.filter p) = true := by
  induction l generalizing lo with
  | nil => rfl
  | cons x t ih =>
    obtain ⟨a, b⟩ := x
    simp only [sWf, Bool.and_eq_true, decide_eq_true_eq] at hw
    simp only [List.filter_cons]
    split
    · simp only [sWf, Bool.and_eq_true, decide_eq_true_eq]
      exact ⟨hw.1, ih hw.2⟩
    · exact sWf_mono (ih hw.2) (by omega)

/-- A store with the entries of some keys taken out holds the default at those keys and what it held at the others. -/
theorem sGet_filter {l : List (Nat × α)} {lo : Nat} (p : Nat → Bool) (k : Nat) (hw : sWf d lo l = true) :
    sGet d (l.filter (fun x => p x.1)) k = if p k then sGet d l k else d k := by
  induction l generalizing lo with
  | nil => simp [sGet]
  | cons x t ih =>
    obtain ⟨a, b⟩ := x
    simp only [sWf, Bool.and_eq_true, decide_eq_true_eq] at hw
    simp only [List.filter_cons]
    by_cases hk : k = a
    · subst hk
      by_cases hp : p k
      · simp [hp, sGet]
      · have h0 : sGet d t k = d k := sGet_of_sWf_lt hw.2 (Nat.lt_succ_self k)
        have h1 := ih hw.2
        rw [h0, ite_self] at h1
        simpa [hp] using h1
    · by_cases hp : p a
      · simp [hp, sGet, hk, ih hw.2]
      · simp [hp, sGet, hk, ih hw.2]

end Sys2Proof.Machine
end

