-- ==== Sys2Proof/Laws/State.lean ====
section
/-!
SUPPORT. What each update of State leaves as it was: one lemma for each field and each update.
-/

namespace Sys2Proof.Machine

@[simp] theorem State.wr_pending (s : State) (o : Nat) (v : Word) : (s.wr o v).pending = s.pending := rfl
@[simp] theorem State.wr_freeCtr (s : State) (o : Nat) (v : Word) : (s.wr o v).freeCtr = s.freeCtr := rfl
@[simp] theorem State.wr_out (s : State) (o : Nat) (v : Word) : (s.wr o v).out = s.out := rfl
@[simp] theorem State.wr_act (s : State) (o : Nat) (v : Word) : (s.wr o v).act = s.act := rfl
@[simp] theorem State.wr_mem (s : State) (o : Nat) (v : Word) : (s.wr o v).mem = s.mem := rfl
@[simp] theorem State.wr_flash (s : State) (o : Nat) (v : Word) : (s.wr o v).flash = s.flash := rfl
@[simp] theorem State.wr_glb (s : State) (o : Nat) (v : Word) : (s.wr o v).glb = s.glb := rfl
@[simp] theorem State.wr_tmb (s : State) (o : Nat) (v : Word) : (s.wr o v).tmb = s.tmb := rfl
@[simp] theorem State.wr_slk (s : State) (o : Nat) (v : Word) : (s.wr o v).slk = s.slk := rfl
@[simp] theorem State.wr_sxq (s : State) (o : Nat) (v : Word) : (s.wr o v).sxq = s.sxq := rfl
@[simp] theorem State.wr_red (s : State) (o : Nat) (v : Word) : (s.wr o v).red = s.red := rfl
@[simp] theorem State.wr_src (s : State) (o : Nat) (v : Word) : (s.wr o v).src = s.src := rfl
@[simp] theorem State.wr_cmp (s : State) (o : Nat) (v : Word) : (s.wr o v).cmp = s.cmp := rfl
@[simp] theorem State.wr_scn (s : State) (o : Nat) (v : Word) : (s.wr o v).scn = s.scn := rfl
@[simp] theorem State.wr_cor (s : State) (o : Nat) (v : Word) : (s.wr o v).cor = s.cor := rfl
@[simp] theorem State.wr_fur (s : State) (o : Nat) (v : Word) : (s.wr o v).fur = s.fur := rfl
@[simp] theorem State.wr_lmp (s : State) (o : Nat) (v : Word) : (s.wr o v).lmp = s.lmp := rfl
@[simp] theorem State.wr_cal (s : State) (o : Nat) (v : Word) : (s.wr o v).cal = s.cal := rfl
@[simp] theorem State.wr_aud (s : State) (o : Nat) (v : Word) : (s.wr o v).aud = s.aud := rfl
@[simp] theorem State.wr_dmc (s : State) (o : Nat) (v : Word) : (s.wr o v).dmc = s.dmc := rfl
@[simp] theorem State.wr_mec (s : State) (o : Nat) (v : Word) : (s.wr o v).mec = s.mec := rfl
@[simp] theorem State.wr_hkp (s : State) (o : Nat) (v : Word) : (s.wr o v).hkp = s.hkp := rfl
@[simp] theorem State.wr_evt (s : State) (o : Nat) (v : Word) : (s.wr o v).evt = s.evt := rfl
@[simp] theorem State.wr_boot (s : State) (o : Nat) (v : Word) : (s.wr o v).boot = s.boot := rfl
@[simp] theorem State.wr_pci (s : State) (o : Nat) (v : Word) : (s.wr o v).pci = s.pci := rfl
@[simp] theorem State.wr_mge (s : State) (o : Nat) (v : Word) : (s.wr o v).mge = s.mge := rfl
@[simp] theorem State.wr_mon (s : State) (o : Nat) (v : Word) : (s.wr o v).mon = s.mon := rfl

@[simp] theorem State.wrN_pending (s : State) (o v : Nat) : (s.wrN o v).pending = s.pending := rfl
@[simp] theorem State.wrN_freeCtr (s : State) (o v : Nat) : (s.wrN o v).freeCtr = s.freeCtr := rfl
@[simp] theorem State.wrN_out (s : State) (o v : Nat) : (s.wrN o v).out = s.out := rfl
@[simp] theorem State.wrN_act (s : State) (o v : Nat) : (s.wrN o v).act = s.act := rfl
@[simp] theorem State.wrN_mem (s : State) (o v : Nat) : (s.wrN o v).mem = s.mem := rfl
@[simp] theorem State.wrN_flash (s : State) (o v : Nat) : (s.wrN o v).flash = s.flash := rfl
@[simp] theorem State.wrN_glb (s : State) (o v : Nat) : (s.wrN o v).glb = s.glb := rfl
@[simp] theorem State.wrN_tmb (s : State) (o v : Nat) : (s.wrN o v).tmb = s.tmb := rfl
@[simp] theorem State.wrN_slk (s : State) (o v : Nat) : (s.wrN o v).slk = s.slk := rfl
@[simp] theorem State.wrN_sxq (s : State) (o v : Nat) : (s.wrN o v).sxq = s.sxq := rfl
@[simp] theorem State.wrN_red (s : State) (o v : Nat) : (s.wrN o v).red = s.red := rfl
@[simp] theorem State.wrN_src (s : State) (o v : Nat) : (s.wrN o v).src = s.src := rfl
@[simp] theorem State.wrN_cmp (s : State) (o v : Nat) : (s.wrN o v).cmp = s.cmp := rfl
@[simp] theorem State.wrN_scn (s : State) (o v : Nat) : (s.wrN o v).scn = s.scn := rfl
@[simp] theorem State.wrN_cor (s : State) (o v : Nat) : (s.wrN o v).cor = s.cor := rfl
@[simp] theorem State.wrN_fur (s : State) (o v : Nat) : (s.wrN o v).fur = s.fur := rfl
@[simp] theorem State.wrN_lmp (s : State) (o v : Nat) : (s.wrN o v).lmp = s.lmp := rfl
@[simp] theorem State.wrN_cal (s : State) (o v : Nat) : (s.wrN o v).cal = s.cal := rfl
@[simp] theorem State.wrN_aud (s : State) (o v : Nat) : (s.wrN o v).aud = s.aud := rfl
@[simp] theorem State.wrN_dmc (s : State) (o v : Nat) : (s.wrN o v).dmc = s.dmc := rfl
@[simp] theorem State.wrN_mec (s : State) (o v : Nat) : (s.wrN o v).mec = s.mec := rfl
@[simp] theorem State.wrN_hkp (s : State) (o v : Nat) : (s.wrN o v).hkp = s.hkp := rfl
@[simp] theorem State.wrN_evt (s : State) (o v : Nat) : (s.wrN o v).evt = s.evt := rfl
@[simp] theorem State.wrN_boot (s : State) (o v : Nat) : (s.wrN o v).boot = s.boot := rfl
@[simp] theorem State.wrN_pci (s : State) (o v : Nat) : (s.wrN o v).pci = s.pci := rfl
@[simp] theorem State.wrN_mge (s : State) (o v : Nat) : (s.wrN o v).mge = s.mge := rfl
@[simp] theorem State.wrN_mon (s : State) (o v : Nat) : (s.wrN o v).mon = s.mon := rfl

@[simp] theorem State.setFld_pending (s : State) (o hi lo v : Nat) : (s.setFld o hi lo v).pending = s.pending := rfl
@[simp] theorem State.setFld_freeCtr (s : State) (o hi lo v : Nat) : (s.setFld o hi lo v).freeCtr = s.freeCtr := rfl
@[simp] theorem State.setFld_out (s : State) (o hi lo v : Nat) : (s.setFld o hi lo v).out = s.out := rfl
@[simp] theorem State.setFld_act (s : State) (o hi lo v : Nat) : (s.setFld o hi lo v).act = s.act := rfl
@[simp] theorem State.setFld_mem (s : State) (o hi lo v : Nat) : (s.setFld o hi lo v).mem = s.mem := rfl
@[simp] theorem State.setFld_flash (s : State) (o hi lo v : Nat) : (s.setFld o hi lo v).flash = s.flash := rfl
@[simp] theorem State.setFld_glb (s : State) (o hi lo v : Nat) : (s.setFld o hi lo v).glb = s.glb := rfl
@[simp] theorem State.setFld_tmb (s : State) (o hi lo v : Nat) : (s.setFld o hi lo v).tmb = s.tmb := rfl
@[simp] theorem State.setFld_slk (s : State) (o hi lo v : Nat) : (s.setFld o hi lo v).slk = s.slk := rfl
@[simp] theorem State.setFld_sxq (s : State) (o hi lo v : Nat) : (s.setFld o hi lo v).sxq = s.sxq := rfl
@[simp] theorem State.setFld_red (s : State) (o hi lo v : Nat) : (s.setFld o hi lo v).red = s.red := rfl
@[simp] theorem State.setFld_src (s : State) (o hi lo v : Nat) : (s.setFld o hi lo v).src = s.src := rfl
@[simp] theorem State.setFld_cmp (s : State) (o hi lo v : Nat) : (s.setFld o hi lo v).cmp = s.cmp := rfl
@[simp] theorem State.setFld_scn (s : State) (o hi lo v : Nat) : (s.setFld o hi lo v).scn = s.scn := rfl
@[simp] theorem State.setFld_cor (s : State) (o hi lo v : Nat) : (s.setFld o hi lo v).cor = s.cor := rfl
@[simp] theorem State.setFld_fur (s : State) (o hi lo v : Nat) : (s.setFld o hi lo v).fur = s.fur := rfl
@[simp] theorem State.setFld_lmp (s : State) (o hi lo v : Nat) : (s.setFld o hi lo v).lmp = s.lmp := rfl
@[simp] theorem State.setFld_cal (s : State) (o hi lo v : Nat) : (s.setFld o hi lo v).cal = s.cal := rfl
@[simp] theorem State.setFld_aud (s : State) (o hi lo v : Nat) : (s.setFld o hi lo v).aud = s.aud := rfl
@[simp] theorem State.setFld_dmc (s : State) (o hi lo v : Nat) : (s.setFld o hi lo v).dmc = s.dmc := rfl
@[simp] theorem State.setFld_mec (s : State) (o hi lo v : Nat) : (s.setFld o hi lo v).mec = s.mec := rfl
@[simp] theorem State.setFld_hkp (s : State) (o hi lo v : Nat) : (s.setFld o hi lo v).hkp = s.hkp := rfl
@[simp] theorem State.setFld_evt (s : State) (o hi lo v : Nat) : (s.setFld o hi lo v).evt = s.evt := rfl
@[simp] theorem State.setFld_boot (s : State) (o hi lo v : Nat) : (s.setFld o hi lo v).boot = s.boot := rfl
@[simp] theorem State.setFld_pci (s : State) (o hi lo v : Nat) : (s.setFld o hi lo v).pci = s.pci := rfl
@[simp] theorem State.setFld_mge (s : State) (o hi lo v : Nat) : (s.setFld o hi lo v).mge = s.mge := rfl
@[simp] theorem State.setFld_mon (s : State) (o hi lo v : Nat) : (s.setFld o hi lo v).mon = s.mon := rfl

@[simp] theorem State.setBit_pending (s : State) (o i : Nat) (b : Bool) : (s.setBit o i b).pending = s.pending := rfl
@[simp] theorem State.setBit_freeCtr (s : State) (o i : Nat) (b : Bool) : (s.setBit o i b).freeCtr = s.freeCtr := rfl
@[simp] theorem State.setBit_out (s : State) (o i : Nat) (b : Bool) : (s.setBit o i b).out = s.out := rfl
@[simp] theorem State.setBit_act (s : State) (o i : Nat) (b : Bool) : (s.setBit o i b).act = s.act := rfl
@[simp] theorem State.setBit_mem (s : State) (o i : Nat) (b : Bool) : (s.setBit o i b).mem = s.mem := rfl
@[simp] theorem State.setBit_flash (s : State) (o i : Nat) (b : Bool) : (s.setBit o i b).flash = s.flash := rfl
@[simp] theorem State.setBit_glb (s : State) (o i : Nat) (b : Bool) : (s.setBit o i b).glb = s.glb := rfl
@[simp] theorem State.setBit_tmb (s : State) (o i : Nat) (b : Bool) : (s.setBit o i b).tmb = s.tmb := rfl
@[simp] theorem State.setBit_slk (s : State) (o i : Nat) (b : Bool) : (s.setBit o i b).slk = s.slk := rfl
@[simp] theorem State.setBit_sxq (s : State) (o i : Nat) (b : Bool) : (s.setBit o i b).sxq = s.sxq := rfl
@[simp] theorem State.setBit_red (s : State) (o i : Nat) (b : Bool) : (s.setBit o i b).red = s.red := rfl
@[simp] theorem State.setBit_src (s : State) (o i : Nat) (b : Bool) : (s.setBit o i b).src = s.src := rfl
@[simp] theorem State.setBit_cmp (s : State) (o i : Nat) (b : Bool) : (s.setBit o i b).cmp = s.cmp := rfl
@[simp] theorem State.setBit_scn (s : State) (o i : Nat) (b : Bool) : (s.setBit o i b).scn = s.scn := rfl
@[simp] theorem State.setBit_cor (s : State) (o i : Nat) (b : Bool) : (s.setBit o i b).cor = s.cor := rfl
@[simp] theorem State.setBit_fur (s : State) (o i : Nat) (b : Bool) : (s.setBit o i b).fur = s.fur := rfl
@[simp] theorem State.setBit_lmp (s : State) (o i : Nat) (b : Bool) : (s.setBit o i b).lmp = s.lmp := rfl
@[simp] theorem State.setBit_cal (s : State) (o i : Nat) (b : Bool) : (s.setBit o i b).cal = s.cal := rfl
@[simp] theorem State.setBit_aud (s : State) (o i : Nat) (b : Bool) : (s.setBit o i b).aud = s.aud := rfl
@[simp] theorem State.setBit_dmc (s : State) (o i : Nat) (b : Bool) : (s.setBit o i b).dmc = s.dmc := rfl
@[simp] theorem State.setBit_mec (s : State) (o i : Nat) (b : Bool) : (s.setBit o i b).mec = s.mec := rfl
@[simp] theorem State.setBit_hkp (s : State) (o i : Nat) (b : Bool) : (s.setBit o i b).hkp = s.hkp := rfl
@[simp] theorem State.setBit_evt (s : State) (o i : Nat) (b : Bool) : (s.setBit o i b).evt = s.evt := rfl
@[simp] theorem State.setBit_boot (s : State) (o i : Nat) (b : Bool) : (s.setBit o i b).boot = s.boot := rfl
@[simp] theorem State.setBit_pci (s : State) (o i : Nat) (b : Bool) : (s.setBit o i b).pci = s.pci := rfl
@[simp] theorem State.setBit_mge (s : State) (o i : Nat) (b : Bool) : (s.setBit o i b).mge = s.mge := rfl
@[simp] theorem State.setBit_mon (s : State) (o i : Nat) (b : Bool) : (s.setBit o i b).mon = s.mon := rfl

@[simp] theorem State.inc_pending (s : State) (o n : Nat) : (s.inc o n).pending = s.pending := rfl
@[simp] theorem State.inc_freeCtr (s : State) (o n : Nat) : (s.inc o n).freeCtr = s.freeCtr := rfl
@[simp] theorem State.inc_out (s : State) (o n : Nat) : (s.inc o n).out = s.out := rfl
@[simp] theorem State.inc_act (s : State) (o n : Nat) : (s.inc o n).act = s.act := rfl
@[simp] theorem State.inc_mem (s : State) (o n : Nat) : (s.inc o n).mem = s.mem := rfl
@[simp] theorem State.inc_flash (s : State) (o n : Nat) : (s.inc o n).flash = s.flash := rfl
@[simp] theorem State.inc_glb (s : State) (o n : Nat) : (s.inc o n).glb = s.glb := rfl
@[simp] theorem State.inc_tmb (s : State) (o n : Nat) : (s.inc o n).tmb = s.tmb := rfl
@[simp] theorem State.inc_slk (s : State) (o n : Nat) : (s.inc o n).slk = s.slk := rfl
@[simp] theorem State.inc_sxq (s : State) (o n : Nat) : (s.inc o n).sxq = s.sxq := rfl
@[simp] theorem State.inc_red (s : State) (o n : Nat) : (s.inc o n).red = s.red := rfl
@[simp] theorem State.inc_src (s : State) (o n : Nat) : (s.inc o n).src = s.src := rfl
@[simp] theorem State.inc_cmp (s : State) (o n : Nat) : (s.inc o n).cmp = s.cmp := rfl
@[simp] theorem State.inc_scn (s : State) (o n : Nat) : (s.inc o n).scn = s.scn := rfl
@[simp] theorem State.inc_cor (s : State) (o n : Nat) : (s.inc o n).cor = s.cor := rfl
@[simp] theorem State.inc_fur (s : State) (o n : Nat) : (s.inc o n).fur = s.fur := rfl
@[simp] theorem State.inc_lmp (s : State) (o n : Nat) : (s.inc o n).lmp = s.lmp := rfl
@[simp] theorem State.inc_cal (s : State) (o n : Nat) : (s.inc o n).cal = s.cal := rfl
@[simp] theorem State.inc_aud (s : State) (o n : Nat) : (s.inc o n).aud = s.aud := rfl
@[simp] theorem State.inc_dmc (s : State) (o n : Nat) : (s.inc o n).dmc = s.dmc := rfl
@[simp] theorem State.inc_mec (s : State) (o n : Nat) : (s.inc o n).mec = s.mec := rfl
@[simp] theorem State.inc_hkp (s : State) (o n : Nat) : (s.inc o n).hkp = s.hkp := rfl
@[simp] theorem State.inc_evt (s : State) (o n : Nat) : (s.inc o n).evt = s.evt := rfl
@[simp] theorem State.inc_boot (s : State) (o n : Nat) : (s.inc o n).boot = s.boot := rfl
@[simp] theorem State.inc_pci (s : State) (o n : Nat) : (s.inc o n).pci = s.pci := rfl
@[simp] theorem State.inc_mge (s : State) (o n : Nat) : (s.inc o n).mge = s.mge := rfl
@[simp] theorem State.inc_mon (s : State) (o n : Nat) : (s.inc o n).mon = s.mon := rfl

@[simp] theorem State.incFld_pending (s : State) (o hi lo n : Nat) : (s.incFld o hi lo n).pending = s.pending := rfl
@[simp] theorem State.incFld_freeCtr (s : State) (o hi lo n : Nat) : (s.incFld o hi lo n).freeCtr = s.freeCtr := rfl
@[simp] theorem State.incFld_out (s : State) (o hi lo n : Nat) : (s.incFld o hi lo n).out = s.out := rfl
@[simp] theorem State.incFld_act (s : State) (o hi lo n : Nat) : (s.incFld o hi lo n).act = s.act := rfl
@[simp] theorem State.incFld_mem (s : State) (o hi lo n : Nat) : (s.incFld o hi lo n).mem = s.mem := rfl
@[simp] theorem State.incFld_flash (s : State) (o hi lo n : Nat) : (s.incFld o hi lo n).flash = s.flash := rfl
@[simp] theorem State.incFld_glb (s : State) (o hi lo n : Nat) : (s.incFld o hi lo n).glb = s.glb := rfl
@[simp] theorem State.incFld_tmb (s : State) (o hi lo n : Nat) : (s.incFld o hi lo n).tmb = s.tmb := rfl
@[simp] theorem State.incFld_slk (s : State) (o hi lo n : Nat) : (s.incFld o hi lo n).slk = s.slk := rfl
@[simp] theorem State.incFld_sxq (s : State) (o hi lo n : Nat) : (s.incFld o hi lo n).sxq = s.sxq := rfl
@[simp] theorem State.incFld_red (s : State) (o hi lo n : Nat) : (s.incFld o hi lo n).red = s.red := rfl
@[simp] theorem State.incFld_src (s : State) (o hi lo n : Nat) : (s.incFld o hi lo n).src = s.src := rfl
@[simp] theorem State.incFld_cmp (s : State) (o hi lo n : Nat) : (s.incFld o hi lo n).cmp = s.cmp := rfl
@[simp] theorem State.incFld_scn (s : State) (o hi lo n : Nat) : (s.incFld o hi lo n).scn = s.scn := rfl
@[simp] theorem State.incFld_cor (s : State) (o hi lo n : Nat) : (s.incFld o hi lo n).cor = s.cor := rfl
@[simp] theorem State.incFld_fur (s : State) (o hi lo n : Nat) : (s.incFld o hi lo n).fur = s.fur := rfl
@[simp] theorem State.incFld_lmp (s : State) (o hi lo n : Nat) : (s.incFld o hi lo n).lmp = s.lmp := rfl
@[simp] theorem State.incFld_cal (s : State) (o hi lo n : Nat) : (s.incFld o hi lo n).cal = s.cal := rfl
@[simp] theorem State.incFld_aud (s : State) (o hi lo n : Nat) : (s.incFld o hi lo n).aud = s.aud := rfl
@[simp] theorem State.incFld_dmc (s : State) (o hi lo n : Nat) : (s.incFld o hi lo n).dmc = s.dmc := rfl
@[simp] theorem State.incFld_mec (s : State) (o hi lo n : Nat) : (s.incFld o hi lo n).mec = s.mec := rfl
@[simp] theorem State.incFld_hkp (s : State) (o hi lo n : Nat) : (s.incFld o hi lo n).hkp = s.hkp := rfl
@[simp] theorem State.incFld_evt (s : State) (o hi lo n : Nat) : (s.incFld o hi lo n).evt = s.evt := rfl
@[simp] theorem State.incFld_boot (s : State) (o hi lo n : Nat) : (s.incFld o hi lo n).boot = s.boot := rfl
@[simp] theorem State.incFld_pci (s : State) (o hi lo n : Nat) : (s.incFld o hi lo n).pci = s.pci := rfl
@[simp] theorem State.incFld_mge (s : State) (o hi lo n : Nat) : (s.incFld o hi lo n).mge = s.mge := rfl
@[simp] theorem State.incFld_mon (s : State) (o hi lo n : Nat) : (s.incFld o hi lo n).mon = s.mon := rfl

@[simp] theorem State.bump_pending (s : State) (o n : Nat) : (s.bump o n).pending = s.pending := rfl
@[simp] theorem State.bump_freeCtr (s : State) (o n : Nat) : (s.bump o n).freeCtr = s.freeCtr := rfl
@[simp] theorem State.bump_out (s : State) (o n : Nat) : (s.bump o n).out = s.out := rfl
@[simp] theorem State.bump_act (s : State) (o n : Nat) : (s.bump o n).act = s.act := rfl
@[simp] theorem State.bump_mem (s : State) (o n : Nat) : (s.bump o n).mem = s.mem := rfl
@[simp] theorem State.bump_flash (s : State) (o n : Nat) : (s.bump o n).flash = s.flash := rfl
@[simp] theorem State.bump_glb (s : State) (o n : Nat) : (s.bump o n).glb = s.glb := rfl
@[simp] theorem State.bump_tmb (s : State) (o n : Nat) : (s.bump o n).tmb = s.tmb := rfl
@[simp] theorem State.bump_slk (s : State) (o n : Nat) : (s.bump o n).slk = s.slk := rfl
@[simp] theorem State.bump_sxq (s : State) (o n : Nat) : (s.bump o n).sxq = s.sxq := rfl
@[simp] theorem State.bump_red (s : State) (o n : Nat) : (s.bump o n).red = s.red := rfl
@[simp] theorem State.bump_src (s : State) (o n : Nat) : (s.bump o n).src = s.src := rfl
@[simp] theorem State.bump_cmp (s : State) (o n : Nat) : (s.bump o n).cmp = s.cmp := rfl
@[simp] theorem State.bump_scn (s : State) (o n : Nat) : (s.bump o n).scn = s.scn := rfl
@[simp] theorem State.bump_cor (s : State) (o n : Nat) : (s.bump o n).cor = s.cor := rfl
@[simp] theorem State.bump_fur (s : State) (o n : Nat) : (s.bump o n).fur = s.fur := rfl
@[simp] theorem State.bump_lmp (s : State) (o n : Nat) : (s.bump o n).lmp = s.lmp := rfl
@[simp] theorem State.bump_cal (s : State) (o n : Nat) : (s.bump o n).cal = s.cal := rfl
@[simp] theorem State.bump_aud (s : State) (o n : Nat) : (s.bump o n).aud = s.aud := rfl
@[simp] theorem State.bump_dmc (s : State) (o n : Nat) : (s.bump o n).dmc = s.dmc := rfl
@[simp] theorem State.bump_mec (s : State) (o n : Nat) : (s.bump o n).mec = s.mec := rfl
@[simp] theorem State.bump_hkp (s : State) (o n : Nat) : (s.bump o n).hkp = s.hkp := rfl
@[simp] theorem State.bump_evt (s : State) (o n : Nat) : (s.bump o n).evt = s.evt := rfl
@[simp] theorem State.bump_boot (s : State) (o n : Nat) : (s.bump o n).boot = s.boot := rfl
@[simp] theorem State.bump_pci (s : State) (o n : Nat) : (s.bump o n).pci = s.pci := rfl
@[simp] theorem State.bump_mge (s : State) (o n : Nat) : (s.bump o n).mge = s.mge := rfl
@[simp] theorem State.bump_mon (s : State) (o n : Nat) : (s.bump o n).mon = s.mon := rfl

@[simp] theorem State.unbump_pending (s : State) (o n : Nat) : (s.unbump o n).pending = s.pending := rfl
@[simp] theorem State.unbump_freeCtr (s : State) (o n : Nat) : (s.unbump o n).freeCtr = s.freeCtr := rfl
@[simp] theorem State.unbump_out (s : State) (o n : Nat) : (s.unbump o n).out = s.out := rfl
@[simp] theorem State.unbump_act (s : State) (o n : Nat) : (s.unbump o n).act = s.act := rfl
@[simp] theorem State.unbump_mem (s : State) (o n : Nat) : (s.unbump o n).mem = s.mem := rfl
@[simp] theorem State.unbump_flash (s : State) (o n : Nat) : (s.unbump o n).flash = s.flash := rfl
@[simp] theorem State.unbump_glb (s : State) (o n : Nat) : (s.unbump o n).glb = s.glb := rfl
@[simp] theorem State.unbump_tmb (s : State) (o n : Nat) : (s.unbump o n).tmb = s.tmb := rfl
@[simp] theorem State.unbump_slk (s : State) (o n : Nat) : (s.unbump o n).slk = s.slk := rfl
@[simp] theorem State.unbump_sxq (s : State) (o n : Nat) : (s.unbump o n).sxq = s.sxq := rfl
@[simp] theorem State.unbump_red (s : State) (o n : Nat) : (s.unbump o n).red = s.red := rfl
@[simp] theorem State.unbump_src (s : State) (o n : Nat) : (s.unbump o n).src = s.src := rfl
@[simp] theorem State.unbump_cmp (s : State) (o n : Nat) : (s.unbump o n).cmp = s.cmp := rfl
@[simp] theorem State.unbump_scn (s : State) (o n : Nat) : (s.unbump o n).scn = s.scn := rfl
@[simp] theorem State.unbump_cor (s : State) (o n : Nat) : (s.unbump o n).cor = s.cor := rfl
@[simp] theorem State.unbump_fur (s : State) (o n : Nat) : (s.unbump o n).fur = s.fur := rfl
@[simp] theorem State.unbump_lmp (s : State) (o n : Nat) : (s.unbump o n).lmp = s.lmp := rfl
@[simp] theorem State.unbump_cal (s : State) (o n : Nat) : (s.unbump o n).cal = s.cal := rfl
@[simp] theorem State.unbump_aud (s : State) (o n : Nat) : (s.unbump o n).aud = s.aud := rfl
@[simp] theorem State.unbump_dmc (s : State) (o n : Nat) : (s.unbump o n).dmc = s.dmc := rfl
@[simp] theorem State.unbump_mec (s : State) (o n : Nat) : (s.unbump o n).mec = s.mec := rfl
@[simp] theorem State.unbump_hkp (s : State) (o n : Nat) : (s.unbump o n).hkp = s.hkp := rfl
@[simp] theorem State.unbump_evt (s : State) (o n : Nat) : (s.unbump o n).evt = s.evt := rfl
@[simp] theorem State.unbump_boot (s : State) (o n : Nat) : (s.unbump o n).boot = s.boot := rfl
@[simp] theorem State.unbump_pci (s : State) (o n : Nat) : (s.unbump o n).pci = s.pci := rfl
@[simp] theorem State.unbump_mge (s : State) (o n : Nat) : (s.unbump o n).mge = s.mge := rfl
@[simp] theorem State.unbump_mon (s : State) (o n : Nat) : (s.unbump o n).mon = s.mon := rfl

@[simp] theorem State.bumpFld_pending (s : State) (o hi lo v : Nat) : (s.bumpFld o hi lo v).pending = s.pending := rfl
@[simp] theorem State.bumpFld_freeCtr (s : State) (o hi lo v : Nat) : (s.bumpFld o hi lo v).freeCtr = s.freeCtr := rfl
@[simp] theorem State.bumpFld_out (s : State) (o hi lo v : Nat) : (s.bumpFld o hi lo v).out = s.out := rfl
@[simp] theorem State.bumpFld_act (s : State) (o hi lo v : Nat) : (s.bumpFld o hi lo v).act = s.act := rfl
@[simp] theorem State.bumpFld_mem (s : State) (o hi lo v : Nat) : (s.bumpFld o hi lo v).mem = s.mem := rfl
@[simp] theorem State.bumpFld_flash (s : State) (o hi lo v : Nat) : (s.bumpFld o hi lo v).flash = s.flash := rfl
@[simp] theorem State.bumpFld_glb (s : State) (o hi lo v : Nat) : (s.bumpFld o hi lo v).glb = s.glb := rfl
@[simp] theorem State.bumpFld_tmb (s : State) (o hi lo v : Nat) : (s.bumpFld o hi lo v).tmb = s.tmb := rfl
@[simp] theorem State.bumpFld_slk (s : State) (o hi lo v : Nat) : (s.bumpFld o hi lo v).slk = s.slk := rfl
@[simp] theorem State.bumpFld_sxq (s : State) (o hi lo v : Nat) : (s.bumpFld o hi lo v).sxq = s.sxq := rfl
@[simp] theorem State.bumpFld_red (s : State) (o hi lo v : Nat) : (s.bumpFld o hi lo v).red = s.red := rfl
@[simp] theorem State.bumpFld_src (s : State) (o hi lo v : Nat) : (s.bumpFld o hi lo v).src = s.src := rfl
@[simp] theorem State.bumpFld_cmp (s : State) (o hi lo v : Nat) : (s.bumpFld o hi lo v).cmp = s.cmp := rfl
@[simp] theorem State.bumpFld_scn (s : State) (o hi lo v : Nat) : (s.bumpFld o hi lo v).scn = s.scn := rfl
@[simp] theorem State.bumpFld_cor (s : State) (o hi lo v : Nat) : (s.bumpFld o hi lo v).cor = s.cor := rfl
@[simp] theorem State.bumpFld_fur (s : State) (o hi lo v : Nat) : (s.bumpFld o hi lo v).fur = s.fur := rfl
@[simp] theorem State.bumpFld_lmp (s : State) (o hi lo v : Nat) : (s.bumpFld o hi lo v).lmp = s.lmp := rfl
@[simp] theorem State.bumpFld_cal (s : State) (o hi lo v : Nat) : (s.bumpFld o hi lo v).cal = s.cal := rfl
@[simp] theorem State.bumpFld_aud (s : State) (o hi lo v : Nat) : (s.bumpFld o hi lo v).aud = s.aud := rfl
@[simp] theorem State.bumpFld_dmc (s : State) (o hi lo v : Nat) : (s.bumpFld o hi lo v).dmc = s.dmc := rfl
@[simp] theorem State.bumpFld_mec (s : State) (o hi lo v : Nat) : (s.bumpFld o hi lo v).mec = s.mec := rfl
@[simp] theorem State.bumpFld_hkp (s : State) (o hi lo v : Nat) : (s.bumpFld o hi lo v).hkp = s.hkp := rfl
@[simp] theorem State.bumpFld_evt (s : State) (o hi lo v : Nat) : (s.bumpFld o hi lo v).evt = s.evt := rfl
@[simp] theorem State.bumpFld_boot (s : State) (o hi lo v : Nat) : (s.bumpFld o hi lo v).boot = s.boot := rfl
@[simp] theorem State.bumpFld_pci (s : State) (o hi lo v : Nat) : (s.bumpFld o hi lo v).pci = s.pci := rfl
@[simp] theorem State.bumpFld_mge (s : State) (o hi lo v : Nat) : (s.bumpFld o hi lo v).mge = s.mge := rfl
@[simp] theorem State.bumpFld_mon (s : State) (o hi lo v : Nat) : (s.bumpFld o hi lo v).mon = s.mon := rfl

@[simp] theorem State.wr64_pending (s : State) (o v : Nat) : (s.wr64 o v).pending = s.pending := rfl
@[simp] theorem State.wr64_freeCtr (s : State) (o v : Nat) : (s.wr64 o v).freeCtr = s.freeCtr := rfl
@[simp] theorem State.wr64_out (s : State) (o v : Nat) : (s.wr64 o v).out = s.out := rfl
@[simp] theorem State.wr64_act (s : State) (o v : Nat) : (s.wr64 o v).act = s.act := rfl
@[simp] theorem State.wr64_mem (s : State) (o v : Nat) : (s.wr64 o v).mem = s.mem := rfl
@[simp] theorem State.wr64_flash (s : State) (o v : Nat) : (s.wr64 o v).flash = s.flash := rfl
@[simp] theorem State.wr64_glb (s : State) (o v : Nat) : (s.wr64 o v).glb = s.glb := rfl
@[simp] theorem State.wr64_tmb (s : State) (o v : Nat) : (s.wr64 o v).tmb = s.tmb := rfl
@[simp] theorem State.wr64_slk (s : State) (o v : Nat) : (s.wr64 o v).slk = s.slk := rfl
@[simp] theorem State.wr64_sxq (s : State) (o v : Nat) : (s.wr64 o v).sxq = s.sxq := rfl
@[simp] theorem State.wr64_red (s : State) (o v : Nat) : (s.wr64 o v).red = s.red := rfl
@[simp] theorem State.wr64_src (s : State) (o v : Nat) : (s.wr64 o v).src = s.src := rfl
@[simp] theorem State.wr64_cmp (s : State) (o v : Nat) : (s.wr64 o v).cmp = s.cmp := rfl
@[simp] theorem State.wr64_scn (s : State) (o v : Nat) : (s.wr64 o v).scn = s.scn := rfl
@[simp] theorem State.wr64_cor (s : State) (o v : Nat) : (s.wr64 o v).cor = s.cor := rfl
@[simp] theorem State.wr64_fur (s : State) (o v : Nat) : (s.wr64 o v).fur = s.fur := rfl
@[simp] theorem State.wr64_lmp (s : State) (o v : Nat) : (s.wr64 o v).lmp = s.lmp := rfl
@[simp] theorem State.wr64_cal (s : State) (o v : Nat) : (s.wr64 o v).cal = s.cal := rfl
@[simp] theorem State.wr64_aud (s : State) (o v : Nat) : (s.wr64 o v).aud = s.aud := rfl
@[simp] theorem State.wr64_dmc (s : State) (o v : Nat) : (s.wr64 o v).dmc = s.dmc := rfl
@[simp] theorem State.wr64_mec (s : State) (o v : Nat) : (s.wr64 o v).mec = s.mec := rfl
@[simp] theorem State.wr64_hkp (s : State) (o v : Nat) : (s.wr64 o v).hkp = s.hkp := rfl
@[simp] theorem State.wr64_evt (s : State) (o v : Nat) : (s.wr64 o v).evt = s.evt := rfl
@[simp] theorem State.wr64_boot (s : State) (o v : Nat) : (s.wr64 o v).boot = s.boot := rfl
@[simp] theorem State.wr64_pci (s : State) (o v : Nat) : (s.wr64 o v).pci = s.pci := rfl
@[simp] theorem State.wr64_mge (s : State) (o v : Nat) : (s.wr64 o v).mge = s.mge := rfl
@[simp] theorem State.wr64_mon (s : State) (o v : Nat) : (s.wr64 o v).mon = s.mon := rfl

@[simp] theorem State.wrA_pending (s : State) (o : Nat) (v : Word) : (s.wrA o v).pending = s.pending := rfl
@[simp] theorem State.wrA_freeCtr (s : State) (o : Nat) (v : Word) : (s.wrA o v).freeCtr = s.freeCtr := rfl
@[simp] theorem State.wrA_out (s : State) (o : Nat) (v : Word) : (s.wrA o v).out = s.out := rfl
@[simp] theorem State.wrA_regs (s : State) (o : Nat) (v : Word) : (s.wrA o v).regs = s.regs := rfl
@[simp] theorem State.wrA_mem (s : State) (o : Nat) (v : Word) : (s.wrA o v).mem = s.mem := rfl
@[simp] theorem State.wrA_flash (s : State) (o : Nat) (v : Word) : (s.wrA o v).flash = s.flash := rfl
@[simp] theorem State.wrA_glb (s : State) (o : Nat) (v : Word) : (s.wrA o v).glb = s.glb := rfl
@[simp] theorem State.wrA_tmb (s : State) (o : Nat) (v : Word) : (s.wrA o v).tmb = s.tmb := rfl
@[simp] theorem State.wrA_slk (s : State) (o : Nat) (v : Word) : (s.wrA o v).slk = s.slk := rfl
@[simp] theorem State.wrA_sxq (s : State) (o : Nat) (v : Word) : (s.wrA o v).sxq = s.sxq := rfl
@[simp] theorem State.wrA_red (s : State) (o : Nat) (v : Word) : (s.wrA o v).red = s.red := rfl
@[simp] theorem State.wrA_src (s : State) (o : Nat) (v : Word) : (s.wrA o v).src = s.src := rfl
@[simp] theorem State.wrA_cmp (s : State) (o : Nat) (v : Word) : (s.wrA o v).cmp = s.cmp := rfl
@[simp] theorem State.wrA_scn (s : State) (o : Nat) (v : Word) : (s.wrA o v).scn = s.scn := rfl
@[simp] theorem State.wrA_cor (s : State) (o : Nat) (v : Word) : (s.wrA o v).cor = s.cor := rfl
@[simp] theorem State.wrA_fur (s : State) (o : Nat) (v : Word) : (s.wrA o v).fur = s.fur := rfl
@[simp] theorem State.wrA_lmp (s : State) (o : Nat) (v : Word) : (s.wrA o v).lmp = s.lmp := rfl
@[simp] theorem State.wrA_cal (s : State) (o : Nat) (v : Word) : (s.wrA o v).cal = s.cal := rfl
@[simp] theorem State.wrA_aud (s : State) (o : Nat) (v : Word) : (s.wrA o v).aud = s.aud := rfl
@[simp] theorem State.wrA_dmc (s : State) (o : Nat) (v : Word) : (s.wrA o v).dmc = s.dmc := rfl
@[simp] theorem State.wrA_mec (s : State) (o : Nat) (v : Word) : (s.wrA o v).mec = s.mec := rfl
@[simp] theorem State.wrA_hkp (s : State) (o : Nat) (v : Word) : (s.wrA o v).hkp = s.hkp := rfl
@[simp] theorem State.wrA_evt (s : State) (o : Nat) (v : Word) : (s.wrA o v).evt = s.evt := rfl
@[simp] theorem State.wrA_boot (s : State) (o : Nat) (v : Word) : (s.wrA o v).boot = s.boot := rfl
@[simp] theorem State.wrA_pci (s : State) (o : Nat) (v : Word) : (s.wrA o v).pci = s.pci := rfl
@[simp] theorem State.wrA_mge (s : State) (o : Nat) (v : Word) : (s.wrA o v).mge = s.mge := rfl
@[simp] theorem State.wrA_mon (s : State) (o : Nat) (v : Word) : (s.wrA o v).mon = s.mon := rfl

@[simp] theorem State.setByte_pending (s : State) (a : Nat) (b : Byte) : (s.setByte a b).pending = s.pending := rfl
@[simp] theorem State.setByte_freeCtr (s : State) (a : Nat) (b : Byte) : (s.setByte a b).freeCtr = s.freeCtr := rfl
@[simp] theorem State.setByte_out (s : State) (a : Nat) (b : Byte) : (s.setByte a b).out = s.out := rfl
@[simp] theorem State.setByte_regs (s : State) (a : Nat) (b : Byte) : (s.setByte a b).regs = s.regs := rfl
@[simp] theorem State.setByte_act (s : State) (a : Nat) (b : Byte) : (s.setByte a b).act = s.act := rfl
@[simp] theorem State.setByte_flash (s : State) (a : Nat) (b : Byte) : (s.setByte a b).flash = s.flash := rfl
@[simp] theorem State.setByte_glb (s : State) (a : Nat) (b : Byte) : (s.setByte a b).glb = s.glb := rfl
@[simp] theorem State.setByte_tmb (s : State) (a : Nat) (b : Byte) : (s.setByte a b).tmb = s.tmb := rfl
@[simp] theorem State.setByte_slk (s : State) (a : Nat) (b : Byte) : (s.setByte a b).slk = s.slk := rfl
@[simp] theorem State.setByte_sxq (s : State) (a : Nat) (b : Byte) : (s.setByte a b).sxq = s.sxq := rfl
@[simp] theorem State.setByte_red (s : State) (a : Nat) (b : Byte) : (s.setByte a b).red = s.red := rfl
@[simp] theorem State.setByte_src (s : State) (a : Nat) (b : Byte) : (s.setByte a b).src = s.src := rfl
@[simp] theorem State.setByte_cmp (s : State) (a : Nat) (b : Byte) : (s.setByte a b).cmp = s.cmp := rfl
@[simp] theorem State.setByte_scn (s : State) (a : Nat) (b : Byte) : (s.setByte a b).scn = s.scn := rfl
@[simp] theorem State.setByte_cor (s : State) (a : Nat) (b : Byte) : (s.setByte a b).cor = s.cor := rfl
@[simp] theorem State.setByte_fur (s : State) (a : Nat) (b : Byte) : (s.setByte a b).fur = s.fur := rfl
@[simp] theorem State.setByte_lmp (s : State) (a : Nat) (b : Byte) : (s.setByte a b).lmp = s.lmp := rfl
@[simp] theorem State.setByte_cal (s : State) (a : Nat) (b : Byte) : (s.setByte a b).cal = s.cal := rfl
@[simp] theorem State.setByte_aud (s : State) (a : Nat) (b : Byte) : (s.setByte a b).aud = s.aud := rfl
@[simp] theorem State.setByte_dmc (s : State) (a : Nat) (b : Byte) : (s.setByte a b).dmc = s.dmc := rfl
@[simp] theorem State.setByte_mec (s : State) (a : Nat) (b : Byte) : (s.setByte a b).mec = s.mec := rfl
@[simp] theorem State.setByte_hkp (s : State) (a : Nat) (b : Byte) : (s.setByte a b).hkp = s.hkp := rfl
@[simp] theorem State.setByte_evt (s : State) (a : Nat) (b : Byte) : (s.setByte a b).evt = s.evt := rfl
@[simp] theorem State.setByte_boot (s : State) (a : Nat) (b : Byte) : (s.setByte a b).boot = s.boot := rfl
@[simp] theorem State.setByte_pci (s : State) (a : Nat) (b : Byte) : (s.setByte a b).pci = s.pci := rfl
@[simp] theorem State.setByte_mge (s : State) (a : Nat) (b : Byte) : (s.setByte a b).mge = s.mge := rfl
@[simp] theorem State.setByte_mon (s : State) (a : Nat) (b : Byte) : (s.setByte a b).mon = s.mon := rfl

@[simp] theorem State.emit_pending (s : State) (o : Output) : (s.emit o).pending = s.pending := rfl
@[simp] theorem State.emit_freeCtr (s : State) (o : Output) : (s.emit o).freeCtr = s.freeCtr := rfl
@[simp] theorem State.emit_regs (s : State) (o : Output) : (s.emit o).regs = s.regs := rfl
@[simp] theorem State.emit_act (s : State) (o : Output) : (s.emit o).act = s.act := rfl
@[simp] theorem State.emit_mem (s : State) (o : Output) : (s.emit o).mem = s.mem := rfl
@[simp] theorem State.emit_flash (s : State) (o : Output) : (s.emit o).flash = s.flash := rfl
@[simp] theorem State.emit_glb (s : State) (o : Output) : (s.emit o).glb = s.glb := rfl
@[simp] theorem State.emit_tmb (s : State) (o : Output) : (s.emit o).tmb = s.tmb := rfl
@[simp] theorem State.emit_slk (s : State) (o : Output) : (s.emit o).slk = s.slk := rfl
@[simp] theorem State.emit_sxq (s : State) (o : Output) : (s.emit o).sxq = s.sxq := rfl
@[simp] theorem State.emit_red (s : State) (o : Output) : (s.emit o).red = s.red := rfl
@[simp] theorem State.emit_src (s : State) (o : Output) : (s.emit o).src = s.src := rfl
@[simp] theorem State.emit_cmp (s : State) (o : Output) : (s.emit o).cmp = s.cmp := rfl
@[simp] theorem State.emit_scn (s : State) (o : Output) : (s.emit o).scn = s.scn := rfl
@[simp] theorem State.emit_cor (s : State) (o : Output) : (s.emit o).cor = s.cor := rfl
@[simp] theorem State.emit_fur (s : State) (o : Output) : (s.emit o).fur = s.fur := rfl
@[simp] theorem State.emit_lmp (s : State) (o : Output) : (s.emit o).lmp = s.lmp := rfl
@[simp] theorem State.emit_cal (s : State) (o : Output) : (s.emit o).cal = s.cal := rfl
@[simp] theorem State.emit_aud (s : State) (o : Output) : (s.emit o).aud = s.aud := rfl
@[simp] theorem State.emit_dmc (s : State) (o : Output) : (s.emit o).dmc = s.dmc := rfl
@[simp] theorem State.emit_mec (s : State) (o : Output) : (s.emit o).mec = s.mec := rfl
@[simp] theorem State.emit_hkp (s : State) (o : Output) : (s.emit o).hkp = s.hkp := rfl
@[simp] theorem State.emit_evt (s : State) (o : Output) : (s.emit o).evt = s.evt := rfl
@[simp] theorem State.emit_boot (s : State) (o : Output) : (s.emit o).boot = s.boot := rfl
@[simp] theorem State.emit_pci (s : State) (o : Output) : (s.emit o).pci = s.pci := rfl
@[simp] theorem State.emit_mge (s : State) (o : Output) : (s.emit o).mge = s.mge := rfl
@[simp] theorem State.emit_mon (s : State) (o : Output) : (s.emit o).mon = s.mon := rfl

@[simp] theorem State.modSlk_pending (s : State) (p : Port) (f : SlkPort → SlkPort) : (s.modSlk p f).pending = s.pending := rfl
@[simp] theorem State.modSlk_freeCtr (s : State) (p : Port) (f : SlkPort → SlkPort) : (s.modSlk p f).freeCtr = s.freeCtr := rfl
@[simp] theorem State.modSlk_out (s : State) (p : Port) (f : SlkPort → SlkPort) : (s.modSlk p f).out = s.out := rfl
@[simp] theorem State.modSlk_regs (s : State) (p : Port) (f : SlkPort → SlkPort) : (s.modSlk p f).regs = s.regs := rfl
@[simp] theorem State.modSlk_act (s : State) (p : Port) (f : SlkPort → SlkPort) : (s.modSlk p f).act = s.act := rfl
@[simp] theorem State.modSlk_mem (s : State) (p : Port) (f : SlkPort → SlkPort) : (s.modSlk p f).mem = s.mem := rfl
@[simp] theorem State.modSlk_flash (s : State) (p : Port) (f : SlkPort → SlkPort) : (s.modSlk p f).flash = s.flash := rfl
@[simp] theorem State.modSlk_glb (s : State) (p : Port) (f : SlkPort → SlkPort) : (s.modSlk p f).glb = s.glb := rfl
@[simp] theorem State.modSlk_tmb (s : State) (p : Port) (f : SlkPort → SlkPort) : (s.modSlk p f).tmb = s.tmb := rfl
@[simp] theorem State.modSlk_sxq (s : State) (p : Port) (f : SlkPort → SlkPort) : (s.modSlk p f).sxq = s.sxq := rfl
@[simp] theorem State.modSlk_red (s : State) (p : Port) (f : SlkPort → SlkPort) : (s.modSlk p f).red = s.red := rfl
@[simp] theorem State.modSlk_src (s : State) (p : Port) (f : SlkPort → SlkPort) : (s.modSlk p f).src = s.src := rfl
@[simp] theorem State.modSlk_cmp (s : State) (p : Port) (f : SlkPort → SlkPort) : (s.modSlk p f).cmp = s.cmp := rfl
@[simp] theorem State.modSlk_scn (s : State) (p : Port) (f : SlkPort → SlkPort) : (s.modSlk p f).scn = s.scn := rfl
@[simp] theorem State.modSlk_cor (s : State) (p : Port) (f : SlkPort → SlkPort) : (s.modSlk p f).cor = s.cor := rfl
@[simp] theorem State.modSlk_fur (s : State) (p : Port) (f : SlkPort → SlkPort) : (s.modSlk p f).fur = s.fur := rfl
@[simp] theorem State.modSlk_lmp (s : State) (p : Port) (f : SlkPort → SlkPort) : (s.modSlk p f).lmp = s.lmp := rfl
@[simp] theorem State.modSlk_cal (s : State) (p : Port) (f : SlkPort → SlkPort) : (s.modSlk p f).cal = s.cal := rfl
@[simp] theorem State.modSlk_aud (s : State) (p : Port) (f : SlkPort → SlkPort) : (s.modSlk p f).aud = s.aud := rfl
@[simp] theorem State.modSlk_dmc (s : State) (p : Port) (f : SlkPort → SlkPort) : (s.modSlk p f).dmc = s.dmc := rfl
@[simp] theorem State.modSlk_mec (s : State) (p : Port) (f : SlkPort → SlkPort) : (s.modSlk p f).mec = s.mec := rfl
@[simp] theorem State.modSlk_hkp (s : State) (p : Port) (f : SlkPort → SlkPort) : (s.modSlk p f).hkp = s.hkp := rfl
@[simp] theorem State.modSlk_evt (s : State) (p : Port) (f : SlkPort → SlkPort) : (s.modSlk p f).evt = s.evt := rfl
@[simp] theorem State.modSlk_boot (s : State) (p : Port) (f : SlkPort → SlkPort) : (s.modSlk p f).boot = s.boot := rfl
@[simp] theorem State.modSlk_pci (s : State) (p : Port) (f : SlkPort → SlkPort) : (s.modSlk p f).pci = s.pci := rfl
@[simp] theorem State.modSlk_mge (s : State) (p : Port) (f : SlkPort → SlkPort) : (s.modSlk p f).mge = s.mge := rfl
@[simp] theorem State.modSlk_mon (s : State) (p : Port) (f : SlkPort → SlkPort) : (s.modSlk p f).mon = s.mon := rfl

@[simp] theorem State.modRoll_pending (s : State) (p : Port) (f : PortRoll → PortRoll) : (s.modRoll p f).pending = s.pending := rfl
@[simp] theorem State.modRoll_freeCtr (s : State) (p : Port) (f : PortRoll → PortRoll) : (s.modRoll p f).freeCtr = s.freeCtr := rfl
@[simp] theorem State.modRoll_out (s : State) (p : Port) (f : PortRoll → PortRoll) : (s.modRoll p f).out = s.out := rfl
@[simp] theorem State.modRoll_regs (s : State) (p : Port) (f : PortRoll → PortRoll) : (s.modRoll p f).regs = s.regs := rfl
@[simp] theorem State.modRoll_act (s : State) (p : Port) (f : PortRoll → PortRoll) : (s.modRoll p f).act = s.act := rfl
@[simp] theorem State.modRoll_mem (s : State) (p : Port) (f : PortRoll → PortRoll) : (s.modRoll p f).mem = s.mem := rfl
@[simp] theorem State.modRoll_flash (s : State) (p : Port) (f : PortRoll → PortRoll) : (s.modRoll p f).flash = s.flash := rfl
@[simp] theorem State.modRoll_glb (s : State) (p : Port) (f : PortRoll → PortRoll) : (s.modRoll p f).glb = s.glb := rfl
@[simp] theorem State.modRoll_tmb (s : State) (p : Port) (f : PortRoll → PortRoll) : (s.modRoll p f).tmb = s.tmb := rfl
@[simp] theorem State.modRoll_slk (s : State) (p : Port) (f : PortRoll → PortRoll) : (s.modRoll p f).slk = s.slk := rfl
@[simp] theorem State.modRoll_red (s : State) (p : Port) (f : PortRoll → PortRoll) : (s.modRoll p f).red = s.red := rfl
@[simp] theorem State.modRoll_src (s : State) (p : Port) (f : PortRoll → PortRoll) : (s.modRoll p f).src = s.src := rfl
@[simp] theorem State.modRoll_cmp (s : State) (p : Port) (f : PortRoll → PortRoll) : (s.modRoll p f).cmp = s.cmp := rfl
@[simp] theorem State.modRoll_scn (s : State) (p : Port) (f : PortRoll → PortRoll) : (s.modRoll p f).scn = s.scn := rfl
@[simp] theorem State.modRoll_cor (s : State) (p : Port) (f : PortRoll → PortRoll) : (s.modRoll p f).cor = s.cor := rfl
@[simp] theorem State.modRoll_fur (s : State) (p : Port) (f : PortRoll → PortRoll) : (s.modRoll p f).fur = s.fur := rfl
@[simp] theorem State.modRoll_lmp (s : State) (p : Port) (f : PortRoll → PortRoll) : (s.modRoll p f).lmp = s.lmp := rfl
@[simp] theorem State.modRoll_cal (s : State) (p : Port) (f : PortRoll → PortRoll) : (s.modRoll p f).cal = s.cal := rfl
@[simp] theorem State.modRoll_aud (s : State) (p : Port) (f : PortRoll → PortRoll) : (s.modRoll p f).aud = s.aud := rfl
@[simp] theorem State.modRoll_dmc (s : State) (p : Port) (f : PortRoll → PortRoll) : (s.modRoll p f).dmc = s.dmc := rfl
@[simp] theorem State.modRoll_mec (s : State) (p : Port) (f : PortRoll → PortRoll) : (s.modRoll p f).mec = s.mec := rfl
@[simp] theorem State.modRoll_hkp (s : State) (p : Port) (f : PortRoll → PortRoll) : (s.modRoll p f).hkp = s.hkp := rfl
@[simp] theorem State.modRoll_evt (s : State) (p : Port) (f : PortRoll → PortRoll) : (s.modRoll p f).evt = s.evt := rfl
@[simp] theorem State.modRoll_boot (s : State) (p : Port) (f : PortRoll → PortRoll) : (s.modRoll p f).boot = s.boot := rfl
@[simp] theorem State.modRoll_pci (s : State) (p : Port) (f : PortRoll → PortRoll) : (s.modRoll p f).pci = s.pci := rfl
@[simp] theorem State.modRoll_mge (s : State) (p : Port) (f : PortRoll → PortRoll) : (s.modRoll p f).mge = s.mge := rfl
@[simp] theorem State.modRoll_mon (s : State) (p : Port) (f : PortRoll → PortRoll) : (s.modRoll p f).mon = s.mon := rfl

@[simp] theorem State.setReserved_pending (s : State) (q n : Nat) : (s.setReserved q n).pending = s.pending := rfl
@[simp] theorem State.setReserved_freeCtr (s : State) (q n : Nat) : (s.setReserved q n).freeCtr = s.freeCtr := rfl
@[simp] theorem State.setReserved_out (s : State) (q n : Nat) : (s.setReserved q n).out = s.out := rfl
@[simp] theorem State.setReserved_regs (s : State) (q n : Nat) : (s.setReserved q n).regs = s.regs := rfl
@[simp] theorem State.setReserved_act (s : State) (q n : Nat) : (s.setReserved q n).act = s.act := rfl
@[simp] theorem State.setReserved_mem (s : State) (q n : Nat) : (s.setReserved q n).mem = s.mem := rfl
@[simp] theorem State.setReserved_flash (s : State) (q n : Nat) : (s.setReserved q n).flash = s.flash := rfl
@[simp] theorem State.setReserved_glb (s : State) (q n : Nat) : (s.setReserved q n).glb = s.glb := rfl
@[simp] theorem State.setReserved_tmb (s : State) (q n : Nat) : (s.setReserved q n).tmb = s.tmb := rfl
@[simp] theorem State.setReserved_slk (s : State) (q n : Nat) : (s.setReserved q n).slk = s.slk := rfl
@[simp] theorem State.setReserved_red (s : State) (q n : Nat) : (s.setReserved q n).red = s.red := rfl
@[simp] theorem State.setReserved_src (s : State) (q n : Nat) : (s.setReserved q n).src = s.src := rfl
@[simp] theorem State.setReserved_cmp (s : State) (q n : Nat) : (s.setReserved q n).cmp = s.cmp := rfl
@[simp] theorem State.setReserved_scn (s : State) (q n : Nat) : (s.setReserved q n).scn = s.scn := rfl
@[simp] theorem State.setReserved_cor (s : State) (q n : Nat) : (s.setReserved q n).cor = s.cor := rfl
@[simp] theorem State.setReserved_fur (s : State) (q n : Nat) : (s.setReserved q n).fur = s.fur := rfl
@[simp] theorem State.setReserved_lmp (s : State) (q n : Nat) : (s.setReserved q n).lmp = s.lmp := rfl
@[simp] theorem State.setReserved_cal (s : State) (q n : Nat) : (s.setReserved q n).cal = s.cal := rfl
@[simp] theorem State.setReserved_aud (s : State) (q n : Nat) : (s.setReserved q n).aud = s.aud := rfl
@[simp] theorem State.setReserved_dmc (s : State) (q n : Nat) : (s.setReserved q n).dmc = s.dmc := rfl
@[simp] theorem State.setReserved_mec (s : State) (q n : Nat) : (s.setReserved q n).mec = s.mec := rfl
@[simp] theorem State.setReserved_hkp (s : State) (q n : Nat) : (s.setReserved q n).hkp = s.hkp := rfl
@[simp] theorem State.setReserved_evt (s : State) (q n : Nat) : (s.setReserved q n).evt = s.evt := rfl
@[simp] theorem State.setReserved_boot (s : State) (q n : Nat) : (s.setReserved q n).boot = s.boot := rfl
@[simp] theorem State.setReserved_pci (s : State) (q n : Nat) : (s.setReserved q n).pci = s.pci := rfl
@[simp] theorem State.setReserved_mge (s : State) (q n : Nat) : (s.setReserved q n).mge = s.mge := rfl
@[simp] theorem State.setReserved_mon (s : State) (q n : Nat) : (s.setReserved q n).mon = s.mon := rfl

@[simp] theorem State.modRed_pending (s : State) (p : Port) (f : RedPort → RedPort) : (s.modRed p f).pending = s.pending := rfl
@[simp] theorem State.modRed_freeCtr (s : State) (p : Port) (f : RedPort → RedPort) : (s.modRed p f).freeCtr = s.freeCtr := rfl
@[simp] theorem State.modRed_out (s : State) (p : Port) (f : RedPort → RedPort) : (s.modRed p f).out = s.out := rfl
@[simp] theorem State.modRed_regs (s : State) (p : Port) (f : RedPort → RedPort) : (s.modRed p f).regs = s.regs := rfl
@[simp] theorem State.modRed_act (s : State) (p : Port) (f : RedPort → RedPort) : (s.modRed p f).act = s.act := rfl
@[simp] theorem State.modRed_mem (s : State) (p : Port) (f : RedPort → RedPort) : (s.modRed p f).mem = s.mem := rfl
@[simp] theorem State.modRed_flash (s : State) (p : Port) (f : RedPort → RedPort) : (s.modRed p f).flash = s.flash := rfl
@[simp] theorem State.modRed_glb (s : State) (p : Port) (f : RedPort → RedPort) : (s.modRed p f).glb = s.glb := rfl
@[simp] theorem State.modRed_tmb (s : State) (p : Port) (f : RedPort → RedPort) : (s.modRed p f).tmb = s.tmb := rfl
@[simp] theorem State.modRed_slk (s : State) (p : Port) (f : RedPort → RedPort) : (s.modRed p f).slk = s.slk := rfl
@[simp] theorem State.modRed_sxq (s : State) (p : Port) (f : RedPort → RedPort) : (s.modRed p f).sxq = s.sxq := rfl
@[simp] theorem State.modRed_src (s : State) (p : Port) (f : RedPort → RedPort) : (s.modRed p f).src = s.src := rfl
@[simp] theorem State.modRed_cmp (s : State) (p : Port) (f : RedPort → RedPort) : (s.modRed p f).cmp = s.cmp := rfl
@[simp] theorem State.modRed_scn (s : State) (p : Port) (f : RedPort → RedPort) : (s.modRed p f).scn = s.scn := rfl
@[simp] theorem State.modRed_cor (s : State) (p : Port) (f : RedPort → RedPort) : (s.modRed p f).cor = s.cor := rfl
@[simp] theorem State.modRed_fur (s : State) (p : Port) (f : RedPort → RedPort) : (s.modRed p f).fur = s.fur := rfl
@[simp] theorem State.modRed_lmp (s : State) (p : Port) (f : RedPort → RedPort) : (s.modRed p f).lmp = s.lmp := rfl
@[simp] theorem State.modRed_cal (s : State) (p : Port) (f : RedPort → RedPort) : (s.modRed p f).cal = s.cal := rfl
@[simp] theorem State.modRed_aud (s : State) (p : Port) (f : RedPort → RedPort) : (s.modRed p f).aud = s.aud := rfl
@[simp] theorem State.modRed_dmc (s : State) (p : Port) (f : RedPort → RedPort) : (s.modRed p f).dmc = s.dmc := rfl
@[simp] theorem State.modRed_mec (s : State) (p : Port) (f : RedPort → RedPort) : (s.modRed p f).mec = s.mec := rfl
@[simp] theorem State.modRed_hkp (s : State) (p : Port) (f : RedPort → RedPort) : (s.modRed p f).hkp = s.hkp := rfl
@[simp] theorem State.modRed_evt (s : State) (p : Port) (f : RedPort → RedPort) : (s.modRed p f).evt = s.evt := rfl
@[simp] theorem State.modRed_boot (s : State) (p : Port) (f : RedPort → RedPort) : (s.modRed p f).boot = s.boot := rfl
@[simp] theorem State.modRed_pci (s : State) (p : Port) (f : RedPort → RedPort) : (s.modRed p f).pci = s.pci := rfl
@[simp] theorem State.modRed_mge (s : State) (p : Port) (f : RedPort → RedPort) : (s.modRed p f).mge = s.mge := rfl
@[simp] theorem State.modRed_mon (s : State) (p : Port) (f : RedPort → RedPort) : (s.modRed p f).mon = s.mon := rfl

@[simp] theorem State.modSlot_pending (s : State) (i : Fin 16) (f : StreamSlot → StreamSlot) : (s.modSlot i f).pending = s.pending := rfl
@[simp] theorem State.modSlot_freeCtr (s : State) (i : Fin 16) (f : StreamSlot → StreamSlot) : (s.modSlot i f).freeCtr = s.freeCtr := rfl
@[simp] theorem State.modSlot_out (s : State) (i : Fin 16) (f : StreamSlot → StreamSlot) : (s.modSlot i f).out = s.out := rfl
@[simp] theorem State.modSlot_regs (s : State) (i : Fin 16) (f : StreamSlot → StreamSlot) : (s.modSlot i f).regs = s.regs := rfl
@[simp] theorem State.modSlot_act (s : State) (i : Fin 16) (f : StreamSlot → StreamSlot) : (s.modSlot i f).act = s.act := rfl
@[simp] theorem State.modSlot_mem (s : State) (i : Fin 16) (f : StreamSlot → StreamSlot) : (s.modSlot i f).mem = s.mem := rfl
@[simp] theorem State.modSlot_flash (s : State) (i : Fin 16) (f : StreamSlot → StreamSlot) : (s.modSlot i f).flash = s.flash := rfl
@[simp] theorem State.modSlot_glb (s : State) (i : Fin 16) (f : StreamSlot → StreamSlot) : (s.modSlot i f).glb = s.glb := rfl
@[simp] theorem State.modSlot_tmb (s : State) (i : Fin 16) (f : StreamSlot → StreamSlot) : (s.modSlot i f).tmb = s.tmb := rfl
@[simp] theorem State.modSlot_slk (s : State) (i : Fin 16) (f : StreamSlot → StreamSlot) : (s.modSlot i f).slk = s.slk := rfl
@[simp] theorem State.modSlot_sxq (s : State) (i : Fin 16) (f : StreamSlot → StreamSlot) : (s.modSlot i f).sxq = s.sxq := rfl
@[simp] theorem State.modSlot_src (s : State) (i : Fin 16) (f : StreamSlot → StreamSlot) : (s.modSlot i f).src = s.src := rfl
@[simp] theorem State.modSlot_cmp (s : State) (i : Fin 16) (f : StreamSlot → StreamSlot) : (s.modSlot i f).cmp = s.cmp := rfl
@[simp] theorem State.modSlot_scn (s : State) (i : Fin 16) (f : StreamSlot → StreamSlot) : (s.modSlot i f).scn = s.scn := rfl
@[simp] theorem State.modSlot_cor (s : State) (i : Fin 16) (f : StreamSlot → StreamSlot) : (s.modSlot i f).cor = s.cor := rfl
@[simp] theorem State.modSlot_fur (s : State) (i : Fin 16) (f : StreamSlot → StreamSlot) : (s.modSlot i f).fur = s.fur := rfl
@[simp] theorem State.modSlot_lmp (s : State) (i : Fin 16) (f : StreamSlot → StreamSlot) : (s.modSlot i f).lmp = s.lmp := rfl
@[simp] theorem State.modSlot_cal (s : State) (i : Fin 16) (f : StreamSlot → StreamSlot) : (s.modSlot i f).cal = s.cal := rfl
@[simp] theorem State.modSlot_aud (s : State) (i : Fin 16) (f : StreamSlot → StreamSlot) : (s.modSlot i f).aud = s.aud := rfl
@[simp] theorem State.modSlot_dmc (s : State) (i : Fin 16) (f : StreamSlot → StreamSlot) : (s.modSlot i f).dmc = s.dmc := rfl
@[simp] theorem State.modSlot_mec (s : State) (i : Fin 16) (f : StreamSlot → StreamSlot) : (s.modSlot i f).mec = s.mec := rfl
@[simp] theorem State.modSlot_hkp (s : State) (i : Fin 16) (f : StreamSlot → StreamSlot) : (s.modSlot i f).hkp = s.hkp := rfl
@[simp] theorem State.modSlot_evt (s : State) (i : Fin 16) (f : StreamSlot → StreamSlot) : (s.modSlot i f).evt = s.evt := rfl
@[simp] theorem State.modSlot_boot (s : State) (i : Fin 16) (f : StreamSlot → StreamSlot) : (s.modSlot i f).boot = s.boot := rfl
@[simp] theorem State.modSlot_pci (s : State) (i : Fin 16) (f : StreamSlot → StreamSlot) : (s.modSlot i f).pci = s.pci := rfl
@[simp] theorem State.modSlot_mge (s : State) (i : Fin 16) (f : StreamSlot → StreamSlot) : (s.modSlot i f).mge = s.mge := rfl
@[simp] theorem State.modSlot_mon (s : State) (i : Fin 16) (f : StreamSlot → StreamSlot) : (s.modSlot i f).mon = s.mon := rfl

@[simp] theorem State.modTb_pending (s : State) (n : TbIx) (f : Tb → Tb) : (s.modTb n f).pending = s.pending := rfl
@[simp] theorem State.modTb_freeCtr (s : State) (n : TbIx) (f : Tb → Tb) : (s.modTb n f).freeCtr = s.freeCtr := rfl
@[simp] theorem State.modTb_out (s : State) (n : TbIx) (f : Tb → Tb) : (s.modTb n f).out = s.out := rfl
@[simp] theorem State.modTb_regs (s : State) (n : TbIx) (f : Tb → Tb) : (s.modTb n f).regs = s.regs := rfl
@[simp] theorem State.modTb_act (s : State) (n : TbIx) (f : Tb → Tb) : (s.modTb n f).act = s.act := rfl
@[simp] theorem State.modTb_mem (s : State) (n : TbIx) (f : Tb → Tb) : (s.modTb n f).mem = s.mem := rfl
@[simp] theorem State.modTb_flash (s : State) (n : TbIx) (f : Tb → Tb) : (s.modTb n f).flash = s.flash := rfl
@[simp] theorem State.modTb_glb (s : State) (n : TbIx) (f : Tb → Tb) : (s.modTb n f).glb = s.glb := rfl
@[simp] theorem State.modTb_slk (s : State) (n : TbIx) (f : Tb → Tb) : (s.modTb n f).slk = s.slk := rfl
@[simp] theorem State.modTb_sxq (s : State) (n : TbIx) (f : Tb → Tb) : (s.modTb n f).sxq = s.sxq := rfl
@[simp] theorem State.modTb_red (s : State) (n : TbIx) (f : Tb → Tb) : (s.modTb n f).red = s.red := rfl
@[simp] theorem State.modTb_src (s : State) (n : TbIx) (f : Tb → Tb) : (s.modTb n f).src = s.src := rfl
@[simp] theorem State.modTb_cmp (s : State) (n : TbIx) (f : Tb → Tb) : (s.modTb n f).cmp = s.cmp := rfl
@[simp] theorem State.modTb_scn (s : State) (n : TbIx) (f : Tb → Tb) : (s.modTb n f).scn = s.scn := rfl
@[simp] theorem State.modTb_cor (s : State) (n : TbIx) (f : Tb → Tb) : (s.modTb n f).cor = s.cor := rfl
@[simp] theorem State.modTb_fur (s : State) (n : TbIx) (f : Tb → Tb) : (s.modTb n f).fur = s.fur := rfl
@[simp] theorem State.modTb_lmp (s : State) (n : TbIx) (f : Tb → Tb) : (s.modTb n f).lmp = s.lmp := rfl
@[simp] theorem State.modTb_cal (s : State) (n : TbIx) (f : Tb → Tb) : (s.modTb n f).cal = s.cal := rfl
@[simp] theorem State.modTb_aud (s : State) (n : TbIx) (f : Tb → Tb) : (s.modTb n f).aud = s.aud := rfl
@[simp] theorem State.modTb_dmc (s : State) (n : TbIx) (f : Tb → Tb) : (s.modTb n f).dmc = s.dmc := rfl
@[simp] theorem State.modTb_mec (s : State) (n : TbIx) (f : Tb → Tb) : (s.modTb n f).mec = s.mec := rfl
@[simp] theorem State.modTb_hkp (s : State) (n : TbIx) (f : Tb → Tb) : (s.modTb n f).hkp = s.hkp := rfl
@[simp] theorem State.modTb_evt (s : State) (n : TbIx) (f : Tb → Tb) : (s.modTb n f).evt = s.evt := rfl
@[simp] theorem State.modTb_boot (s : State) (n : TbIx) (f : Tb → Tb) : (s.modTb n f).boot = s.boot := rfl
@[simp] theorem State.modTb_pci (s : State) (n : TbIx) (f : Tb → Tb) : (s.modTb n f).pci = s.pci := rfl
@[simp] theorem State.modTb_mge (s : State) (n : TbIx) (f : Tb → Tb) : (s.modTb n f).mge = s.mge := rfl
@[simp] theorem State.modTb_mon (s : State) (n : TbIx) (f : Tb → Tb) : (s.modTb n f).mon = s.mon := rfl

@[simp] theorem State.modSource_pending (s : State) (n : Fin 16) (f : Source → Source) : (s.modSource n f).pending = s.pending := rfl
@[simp] theorem State.modSource_freeCtr (s : State) (n : Fin 16) (f : Source → Source) : (s.modSource n f).freeCtr = s.freeCtr := rfl
@[simp] theorem State.modSource_out (s : State) (n : Fin 16) (f : Source → Source) : (s.modSource n f).out = s.out := rfl
@[simp] theorem State.modSource_regs (s : State) (n : Fin 16) (f : Source → Source) : (s.modSource n f).regs = s.regs := rfl
@[simp] theorem State.modSource_act (s : State) (n : Fin 16) (f : Source → Source) : (s.modSource n f).act = s.act := rfl
@[simp] theorem State.modSource_mem (s : State) (n : Fin 16) (f : Source → Source) : (s.modSource n f).mem = s.mem := rfl
@[simp] theorem State.modSource_flash (s : State) (n : Fin 16) (f : Source → Source) : (s.modSource n f).flash = s.flash := rfl
@[simp] theorem State.modSource_glb (s : State) (n : Fin 16) (f : Source → Source) : (s.modSource n f).glb = s.glb := rfl
@[simp] theorem State.modSource_tmb (s : State) (n : Fin 16) (f : Source → Source) : (s.modSource n f).tmb = s.tmb := rfl
@[simp] theorem State.modSource_slk (s : State) (n : Fin 16) (f : Source → Source) : (s.modSource n f).slk = s.slk := rfl
@[simp] theorem State.modSource_sxq (s : State) (n : Fin 16) (f : Source → Source) : (s.modSource n f).sxq = s.sxq := rfl
@[simp] theorem State.modSource_red (s : State) (n : Fin 16) (f : Source → Source) : (s.modSource n f).red = s.red := rfl
@[simp] theorem State.modSource_cmp (s : State) (n : Fin 16) (f : Source → Source) : (s.modSource n f).cmp = s.cmp := rfl
@[simp] theorem State.modSource_scn (s : State) (n : Fin 16) (f : Source → Source) : (s.modSource n f).scn = s.scn := rfl
@[simp] theorem State.modSource_cor (s : State) (n : Fin 16) (f : Source → Source) : (s.modSource n f).cor = s.cor := rfl
@[simp] theorem State.modSource_fur (s : State) (n : Fin 16) (f : Source → Source) : (s.modSource n f).fur = s.fur := rfl
@[simp] theorem State.modSource_lmp (s : State) (n : Fin 16) (f : Source → Source) : (s.modSource n f).lmp = s.lmp := rfl
@[simp] theorem State.modSource_cal (s : State) (n : Fin 16) (f : Source → Source) : (s.modSource n f).cal = s.cal := rfl
@[simp] theorem State.modSource_aud (s : State) (n : Fin 16) (f : Source → Source) : (s.modSource n f).aud = s.aud := rfl
@[simp] theorem State.modSource_dmc (s : State) (n : Fin 16) (f : Source → Source) : (s.modSource n f).dmc = s.dmc := rfl
@[simp] theorem State.modSource_mec (s : State) (n : Fin 16) (f : Source → Source) : (s.modSource n f).mec = s.mec := rfl
@[simp] theorem State.modSource_hkp (s : State) (n : Fin 16) (f : Source → Source) : (s.modSource n f).hkp = s.hkp := rfl
@[simp] theorem State.modSource_evt (s : State) (n : Fin 16) (f : Source → Source) : (s.modSource n f).evt = s.evt := rfl
@[simp] theorem State.modSource_boot (s : State) (n : Fin 16) (f : Source → Source) : (s.modSource n f).boot = s.boot := rfl
@[simp] theorem State.modSource_pci (s : State) (n : Fin 16) (f : Source → Source) : (s.modSource n f).pci = s.pci := rfl
@[simp] theorem State.modSource_mge (s : State) (n : Fin 16) (f : Source → Source) : (s.modSource n f).mge = s.mge := rfl
@[simp] theorem State.modSource_mon (s : State) (n : Fin 16) (f : Source → Source) : (s.modSource n f).mon = s.mon := rfl

@[simp] theorem State.modLoaf_pending (s : State) (f : Loaf → Loaf) : (s.modLoaf f).pending = s.pending := rfl
@[simp] theorem State.modLoaf_freeCtr (s : State) (f : Loaf → Loaf) : (s.modLoaf f).freeCtr = s.freeCtr := rfl
@[simp] theorem State.modLoaf_out (s : State) (f : Loaf → Loaf) : (s.modLoaf f).out = s.out := rfl
@[simp] theorem State.modLoaf_regs (s : State) (f : Loaf → Loaf) : (s.modLoaf f).regs = s.regs := rfl
@[simp] theorem State.modLoaf_act (s : State) (f : Loaf → Loaf) : (s.modLoaf f).act = s.act := rfl
@[simp] theorem State.modLoaf_mem (s : State) (f : Loaf → Loaf) : (s.modLoaf f).mem = s.mem := rfl
@[simp] theorem State.modLoaf_flash (s : State) (f : Loaf → Loaf) : (s.modLoaf f).flash = s.flash := rfl
@[simp] theorem State.modLoaf_glb (s : State) (f : Loaf → Loaf) : (s.modLoaf f).glb = s.glb := rfl
@[simp] theorem State.modLoaf_tmb (s : State) (f : Loaf → Loaf) : (s.modLoaf f).tmb = s.tmb := rfl
@[simp] theorem State.modLoaf_slk (s : State) (f : Loaf → Loaf) : (s.modLoaf f).slk = s.slk := rfl
@[simp] theorem State.modLoaf_sxq (s : State) (f : Loaf → Loaf) : (s.modLoaf f).sxq = s.sxq := rfl
@[simp] theorem State.modLoaf_red (s : State) (f : Loaf → Loaf) : (s.modLoaf f).red = s.red := rfl
@[simp] theorem State.modLoaf_src (s : State) (f : Loaf → Loaf) : (s.modLoaf f).src = s.src := rfl
@[simp] theorem State.modLoaf_scn (s : State) (f : Loaf → Loaf) : (s.modLoaf f).scn = s.scn := rfl
@[simp] theorem State.modLoaf_cor (s : State) (f : Loaf → Loaf) : (s.modLoaf f).cor = s.cor := rfl
@[simp] theorem State.modLoaf_fur (s : State) (f : Loaf → Loaf) : (s.modLoaf f).fur = s.fur := rfl
@[simp] theorem State.modLoaf_lmp (s : State) (f : Loaf → Loaf) : (s.modLoaf f).lmp = s.lmp := rfl
@[simp] theorem State.modLoaf_cal (s : State) (f : Loaf → Loaf) : (s.modLoaf f).cal = s.cal := rfl
@[simp] theorem State.modLoaf_aud (s : State) (f : Loaf → Loaf) : (s.modLoaf f).aud = s.aud := rfl
@[simp] theorem State.modLoaf_dmc (s : State) (f : Loaf → Loaf) : (s.modLoaf f).dmc = s.dmc := rfl
@[simp] theorem State.modLoaf_mec (s : State) (f : Loaf → Loaf) : (s.modLoaf f).mec = s.mec := rfl
@[simp] theorem State.modLoaf_hkp (s : State) (f : Loaf → Loaf) : (s.modLoaf f).hkp = s.hkp := rfl
@[simp] theorem State.modLoaf_evt (s : State) (f : Loaf → Loaf) : (s.modLoaf f).evt = s.evt := rfl
@[simp] theorem State.modLoaf_boot (s : State) (f : Loaf → Loaf) : (s.modLoaf f).boot = s.boot := rfl
@[simp] theorem State.modLoaf_pci (s : State) (f : Loaf → Loaf) : (s.modLoaf f).pci = s.pci := rfl
@[simp] theorem State.modLoaf_mge (s : State) (f : Loaf → Loaf) : (s.modLoaf f).mge = s.mge := rfl
@[simp] theorem State.modLoaf_mon (s : State) (f : Loaf → Loaf) : (s.modLoaf f).mon = s.mon := rfl

@[simp] theorem State.modCor_pending (s : State) (f : Cor → Cor) : (s.modCor f).pending = s.pending := rfl
@[simp] theorem State.modCor_freeCtr (s : State) (f : Cor → Cor) : (s.modCor f).freeCtr = s.freeCtr := rfl
@[simp] theorem State.modCor_out (s : State) (f : Cor → Cor) : (s.modCor f).out = s.out := rfl
@[simp] theorem State.modCor_regs (s : State) (f : Cor → Cor) : (s.modCor f).regs = s.regs := rfl
@[simp] theorem State.modCor_act (s : State) (f : Cor → Cor) : (s.modCor f).act = s.act := rfl
@[simp] theorem State.modCor_mem (s : State) (f : Cor → Cor) : (s.modCor f).mem = s.mem := rfl
@[simp] theorem State.modCor_flash (s : State) (f : Cor → Cor) : (s.modCor f).flash = s.flash := rfl
@[simp] theorem State.modCor_glb (s : State) (f : Cor → Cor) : (s.modCor f).glb = s.glb := rfl
@[simp] theorem State.modCor_tmb (s : State) (f : Cor → Cor) : (s.modCor f).tmb = s.tmb := rfl
@[simp] theorem State.modCor_slk (s : State) (f : Cor → Cor) : (s.modCor f).slk = s.slk := rfl
@[simp] theorem State.modCor_sxq (s : State) (f : Cor → Cor) : (s.modCor f).sxq = s.sxq := rfl
@[simp] theorem State.modCor_red (s : State) (f : Cor → Cor) : (s.modCor f).red = s.red := rfl
@[simp] theorem State.modCor_src (s : State) (f : Cor → Cor) : (s.modCor f).src = s.src := rfl
@[simp] theorem State.modCor_cmp (s : State) (f : Cor → Cor) : (s.modCor f).cmp = s.cmp := rfl
@[simp] theorem State.modCor_scn (s : State) (f : Cor → Cor) : (s.modCor f).scn = s.scn := rfl
@[simp] theorem State.modCor_fur (s : State) (f : Cor → Cor) : (s.modCor f).fur = s.fur := rfl
@[simp] theorem State.modCor_lmp (s : State) (f : Cor → Cor) : (s.modCor f).lmp = s.lmp := rfl
@[simp] theorem State.modCor_cal (s : State) (f : Cor → Cor) : (s.modCor f).cal = s.cal := rfl
@[simp] theorem State.modCor_aud (s : State) (f : Cor → Cor) : (s.modCor f).aud = s.aud := rfl
@[simp] theorem State.modCor_dmc (s : State) (f : Cor → Cor) : (s.modCor f).dmc = s.dmc := rfl
@[simp] theorem State.modCor_mec (s : State) (f : Cor → Cor) : (s.modCor f).mec = s.mec := rfl
@[simp] theorem State.modCor_hkp (s : State) (f : Cor → Cor) : (s.modCor f).hkp = s.hkp := rfl
@[simp] theorem State.modCor_evt (s : State) (f : Cor → Cor) : (s.modCor f).evt = s.evt := rfl
@[simp] theorem State.modCor_boot (s : State) (f : Cor → Cor) : (s.modCor f).boot = s.boot := rfl
@[simp] theorem State.modCor_pci (s : State) (f : Cor → Cor) : (s.modCor f).pci = s.pci := rfl
@[simp] theorem State.modCor_mge (s : State) (f : Cor → Cor) : (s.modCor f).mge = s.mge := rfl
@[simp] theorem State.modCor_mon (s : State) (f : Cor → Cor) : (s.modCor f).mon = s.mon := rfl
@[simp] theorem State.modCor_cor (s : State) (f : Cor → Cor) : (s.modCor f).cor = f s.cor := rfl

@[simp] theorem State.modFur_pending (s : State) (f : Fur → Fur) : (s.modFur f).pending = s.pending := rfl
@[simp] theorem State.modFur_freeCtr (s : State) (f : Fur → Fur) : (s.modFur f).freeCtr = s.freeCtr := rfl
@[simp] theorem State.modFur_out (s : State) (f : Fur → Fur) : (s.modFur f).out = s.out := rfl
@[simp] theorem State.modFur_regs (s : State) (f : Fur → Fur) : (s.modFur f).regs = s.regs := rfl
@[simp] theorem State.modFur_act (s : State) (f : Fur → Fur) : (s.modFur f).act = s.act := rfl
@[simp] theorem State.modFur_mem (s : State) (f : Fur → Fur) : (s.modFur f).mem = s.mem := rfl
@[simp] theorem State.modFur_flash (s : State) (f : Fur → Fur) : (s.modFur f).flash = s.flash := rfl
@[simp] theorem State.modFur_glb (s : State) (f : Fur → Fur) : (s.modFur f).glb = s.glb := rfl
@[simp] theorem State.modFur_tmb (s : State) (f : Fur → Fur) : (s.modFur f).tmb = s.tmb := rfl
@[simp] theorem State.modFur_slk (s : State) (f : Fur → Fur) : (s.modFur f).slk = s.slk := rfl
@[simp] theorem State.modFur_sxq (s : State) (f : Fur → Fur) : (s.modFur f).sxq = s.sxq := rfl
@[simp] theorem State.modFur_red (s : State) (f : Fur → Fur) : (s.modFur f).red = s.red := rfl
@[simp] theorem State.modFur_src (s : State) (f : Fur → Fur) : (s.modFur f).src = s.src := rfl
@[simp] theorem State.modFur_cmp (s : State) (f : Fur → Fur) : (s.modFur f).cmp = s.cmp := rfl
@[simp] theorem State.modFur_scn (s : State) (f : Fur → Fur) : (s.modFur f).scn = s.scn := rfl
@[simp] theorem State.modFur_cor (s : State) (f : Fur → Fur) : (s.modFur f).cor = s.cor := rfl
@[simp] theorem State.modFur_lmp (s : State) (f : Fur → Fur) : (s.modFur f).lmp = s.lmp := rfl
@[simp] theorem State.modFur_cal (s : State) (f : Fur → Fur) : (s.modFur f).cal = s.cal := rfl
@[simp] theorem State.modFur_aud (s : State) (f : Fur → Fur) : (s.modFur f).aud = s.aud := rfl
@[simp] theorem State.modFur_dmc (s : State) (f : Fur → Fur) : (s.modFur f).dmc = s.dmc := rfl
@[simp] theorem State.modFur_mec (s : State) (f : Fur → Fur) : (s.modFur f).mec = s.mec := rfl
@[simp] theorem State.modFur_hkp (s : State) (f : Fur → Fur) : (s.modFur f).hkp = s.hkp := rfl
@[simp] theorem State.modFur_evt (s : State) (f : Fur → Fur) : (s.modFur f).evt = s.evt := rfl
@[simp] theorem State.modFur_boot (s : State) (f : Fur → Fur) : (s.modFur f).boot = s.boot := rfl
@[simp] theorem State.modFur_pci (s : State) (f : Fur → Fur) : (s.modFur f).pci = s.pci := rfl
@[simp] theorem State.modFur_mge (s : State) (f : Fur → Fur) : (s.modFur f).mge = s.mge := rfl
@[simp] theorem State.modFur_mon (s : State) (f : Fur → Fur) : (s.modFur f).mon = s.mon := rfl
@[simp] theorem State.modFur_fur (s : State) (f : Fur → Fur) : (s.modFur f).fur = f s.fur := rfl

@[simp] theorem State.modLmp_pending (s : State) (f : Lmp → Lmp) : (s.modLmp f).pending = s.pending := rfl
@[simp] theorem State.modLmp_freeCtr (s : State) (f : Lmp → Lmp) : (s.modLmp f).freeCtr = s.freeCtr := rfl
@[simp] theorem State.modLmp_out (s : State) (f : Lmp → Lmp) : (s.modLmp f).out = s.out := rfl
@[simp] theorem State.modLmp_regs (s : State) (f : Lmp → Lmp) : (s.modLmp f).regs = s.regs := rfl
@[simp] theorem State.modLmp_act (s : State) (f : Lmp → Lmp) : (s.modLmp f).act = s.act := rfl
@[simp] theorem State.modLmp_mem (s : State) (f : Lmp → Lmp) : (s.modLmp f).mem = s.mem := rfl
@[simp] theorem State.modLmp_flash (s : State) (f : Lmp → Lmp) : (s.modLmp f).flash = s.flash := rfl
@[simp] theorem State.modLmp_glb (s : State) (f : Lmp → Lmp) : (s.modLmp f).glb = s.glb := rfl
@[simp] theorem State.modLmp_tmb (s : State) (f : Lmp → Lmp) : (s.modLmp f).tmb = s.tmb := rfl
@[simp] theorem State.modLmp_slk (s : State) (f : Lmp → Lmp) : (s.modLmp f).slk = s.slk := rfl
@[simp] theorem State.modLmp_sxq (s : State) (f : Lmp → Lmp) : (s.modLmp f).sxq = s.sxq := rfl
@[simp] theorem State.modLmp_red (s : State) (f : Lmp → Lmp) : (s.modLmp f).red = s.red := rfl
@[simp] theorem State.modLmp_src (s : State) (f : Lmp → Lmp) : (s.modLmp f).src = s.src := rfl
@[simp] theorem State.modLmp_cmp (s : State) (f : Lmp → Lmp) : (s.modLmp f).cmp = s.cmp := rfl
@[simp] theorem State.modLmp_scn (s : State) (f : Lmp → Lmp) : (s.modLmp f).scn = s.scn := rfl
@[simp] theorem State.modLmp_cor (s : State) (f : Lmp → Lmp) : (s.modLmp f).cor = s.cor := rfl
@[simp] theorem State.modLmp_fur (s : State) (f : Lmp → Lmp) : (s.modLmp f).fur = s.fur := rfl
@[simp] theorem State.modLmp_cal (s : State) (f : Lmp → Lmp) : (s.modLmp f).cal = s.cal := rfl
@[simp] theorem State.modLmp_aud (s : State) (f : Lmp → Lmp) : (s.modLmp f).aud = s.aud := rfl
@[simp] theorem State.modLmp_dmc (s : State) (f : Lmp → Lmp) : (s.modLmp f).dmc = s.dmc := rfl
@[simp] theorem State.modLmp_mec (s : State) (f : Lmp → Lmp) : (s.modLmp f).mec = s.mec := rfl
@[simp] theorem State.modLmp_hkp (s : State) (f : Lmp → Lmp) : (s.modLmp f).hkp = s.hkp := rfl
@[simp] theorem State.modLmp_evt (s : State) (f : Lmp → Lmp) : (s.modLmp f).evt = s.evt := rfl
@[simp] theorem State.modLmp_boot (s : State) (f : Lmp → Lmp) : (s.modLmp f).boot = s.boot := rfl
@[simp] theorem State.modLmp_pci (s : State) (f : Lmp → Lmp) : (s.modLmp f).pci = s.pci := rfl
@[simp] theorem State.modLmp_mge (s : State) (f : Lmp → Lmp) : (s.modLmp f).mge = s.mge := rfl
@[simp] theorem State.modLmp_mon (s : State) (f : Lmp → Lmp) : (s.modLmp f).mon = s.mon := rfl
@[simp] theorem State.modLmp_lmp (s : State) (f : Lmp → Lmp) : (s.modLmp f).lmp = f s.lmp := rfl

@[simp] theorem State.modCal_pending (s : State) (f : Cal → Cal) : (s.modCal f).pending = s.pending := rfl
@[simp] theorem State.modCal_freeCtr (s : State) (f : Cal → Cal) : (s.modCal f).freeCtr = s.freeCtr := rfl
@[simp] theorem State.modCal_out (s : State) (f : Cal → Cal) : (s.modCal f).out = s.out := rfl
@[simp] theorem State.modCal_regs (s : State) (f : Cal → Cal) : (s.modCal f).regs = s.regs := rfl
@[simp] theorem State.modCal_act (s : State) (f : Cal → Cal) : (s.modCal f).act = s.act := rfl
@[simp] theorem State.modCal_mem (s : State) (f : Cal → Cal) : (s.modCal f).mem = s.mem := rfl
@[simp] theorem State.modCal_flash (s : State) (f : Cal → Cal) : (s.modCal f).flash = s.flash := rfl
@[simp] theorem State.modCal_glb (s : State) (f : Cal → Cal) : (s.modCal f).glb = s.glb := rfl
@[simp] theorem State.modCal_tmb (s : State) (f : Cal → Cal) : (s.modCal f).tmb = s.tmb := rfl
@[simp] theorem State.modCal_slk (s : State) (f : Cal → Cal) : (s.modCal f).slk = s.slk := rfl
@[simp] theorem State.modCal_sxq (s : State) (f : Cal → Cal) : (s.modCal f).sxq = s.sxq := rfl
@[simp] theorem State.modCal_red (s : State) (f : Cal → Cal) : (s.modCal f).red = s.red := rfl
@[simp] theorem State.modCal_src (s : State) (f : Cal → Cal) : (s.modCal f).src = s.src := rfl
@[simp] theorem State.modCal_cmp (s : State) (f : Cal → Cal) : (s.modCal f).cmp = s.cmp := rfl
@[simp] theorem State.modCal_scn (s : State) (f : Cal → Cal) : (s.modCal f).scn = s.scn := rfl
@[simp] theorem State.modCal_cor (s : State) (f : Cal → Cal) : (s.modCal f).cor = s.cor := rfl
@[simp] theorem State.modCal_fur (s : State) (f : Cal → Cal) : (s.modCal f).fur = s.fur := rfl
@[simp] theorem State.modCal_lmp (s : State) (f : Cal → Cal) : (s.modCal f).lmp = s.lmp := rfl
@[simp] theorem State.modCal_aud (s : State) (f : Cal → Cal) : (s.modCal f).aud = s.aud := rfl
@[simp] theorem State.modCal_dmc (s : State) (f : Cal → Cal) : (s.modCal f).dmc = s.dmc := rfl
@[simp] theorem State.modCal_mec (s : State) (f : Cal → Cal) : (s.modCal f).mec = s.mec := rfl
@[simp] theorem State.modCal_hkp (s : State) (f : Cal → Cal) : (s.modCal f).hkp = s.hkp := rfl
@[simp] theorem State.modCal_evt (s : State) (f : Cal → Cal) : (s.modCal f).evt = s.evt := rfl
@[simp] theorem State.modCal_boot (s : State) (f : Cal → Cal) : (s.modCal f).boot = s.boot := rfl
@[simp] theorem State.modCal_pci (s : State) (f : Cal → Cal) : (s.modCal f).pci = s.pci := rfl
@[simp] theorem State.modCal_mge (s : State) (f : Cal → Cal) : (s.modCal f).mge = s.mge := rfl
@[simp] theorem State.modCal_mon (s : State) (f : Cal → Cal) : (s.modCal f).mon = s.mon := rfl
@[simp] theorem State.modCal_cal (s : State) (f : Cal → Cal) : (s.modCal f).cal = f s.cal := rfl

@[simp] theorem State.modAud_pending (s : State) (f : Aud → Aud) : (s.modAud f).pending = s.pending := rfl
@[simp] theorem State.modAud_freeCtr (s : State) (f : Aud → Aud) : (s.modAud f).freeCtr = s.freeCtr := rfl
@[simp] theorem State.modAud_out (s : State) (f : Aud → Aud) : (s.modAud f).out = s.out := rfl
@[simp] theorem State.modAud_regs (s : State) (f : Aud → Aud) : (s.modAud f).regs = s.regs := rfl
@[simp] theorem State.modAud_act (s : State) (f : Aud → Aud) : (s.modAud f).act = s.act := rfl
@[simp] theorem State.modAud_mem (s : State) (f : Aud → Aud) : (s.modAud f).mem = s.mem := rfl
@[simp] theorem State.modAud_flash (s : State) (f : Aud → Aud) : (s.modAud f).flash = s.flash := rfl
@[simp] theorem State.modAud_glb (s : State) (f : Aud → Aud) : (s.modAud f).glb = s.glb := rfl
@[simp] theorem State.modAud_tmb (s : State) (f : Aud → Aud) : (s.modAud f).tmb = s.tmb := rfl
@[simp] theorem State.modAud_slk (s : State) (f : Aud → Aud) : (s.modAud f).slk = s.slk := rfl
@[simp] theorem State.modAud_sxq (s : State) (f : Aud → Aud) : (s.modAud f).sxq = s.sxq := rfl
@[simp] theorem State.modAud_red (s : State) (f : Aud → Aud) : (s.modAud f).red = s.red := rfl
@[simp] theorem State.modAud_src (s : State) (f : Aud → Aud) : (s.modAud f).src = s.src := rfl
@[simp] theorem State.modAud_cmp (s : State) (f : Aud → Aud) : (s.modAud f).cmp = s.cmp := rfl
@[simp] theorem State.modAud_scn (s : State) (f : Aud → Aud) : (s.modAud f).scn = s.scn := rfl
@[simp] theorem State.modAud_cor (s : State) (f : Aud → Aud) : (s.modAud f).cor = s.cor := rfl
@[simp] theorem State.modAud_fur (s : State) (f : Aud → Aud) : (s.modAud f).fur = s.fur := rfl
@[simp] theorem State.modAud_lmp (s : State) (f : Aud → Aud) : (s.modAud f).lmp = s.lmp := rfl
@[simp] theorem State.modAud_cal (s : State) (f : Aud → Aud) : (s.modAud f).cal = s.cal := rfl
@[simp] theorem State.modAud_dmc (s : State) (f : Aud → Aud) : (s.modAud f).dmc = s.dmc := rfl
@[simp] theorem State.modAud_mec (s : State) (f : Aud → Aud) : (s.modAud f).mec = s.mec := rfl
@[simp] theorem State.modAud_hkp (s : State) (f : Aud → Aud) : (s.modAud f).hkp = s.hkp := rfl
@[simp] theorem State.modAud_evt (s : State) (f : Aud → Aud) : (s.modAud f).evt = s.evt := rfl
@[simp] theorem State.modAud_boot (s : State) (f : Aud → Aud) : (s.modAud f).boot = s.boot := rfl
@[simp] theorem State.modAud_pci (s : State) (f : Aud → Aud) : (s.modAud f).pci = s.pci := rfl
@[simp] theorem State.modAud_mge (s : State) (f : Aud → Aud) : (s.modAud f).mge = s.mge := rfl
@[simp] theorem State.modAud_mon (s : State) (f : Aud → Aud) : (s.modAud f).mon = s.mon := rfl
@[simp] theorem State.modAud_aud (s : State) (f : Aud → Aud) : (s.modAud f).aud = f s.aud := rfl

@[simp] theorem State.modGrp_pending (s : State) (g : Fin 2) (f : DmcGroup → DmcGroup) : (s.modGrp g f).pending = s.pending := rfl
@[simp] theorem State.modGrp_freeCtr (s : State) (g : Fin 2) (f : DmcGroup → DmcGroup) : (s.modGrp g f).freeCtr = s.freeCtr := rfl
@[simp] theorem State.modGrp_out (s : State) (g : Fin 2) (f : DmcGroup → DmcGroup) : (s.modGrp g f).out = s.out := rfl
@[simp] theorem State.modGrp_regs (s : State) (g : Fin 2) (f : DmcGroup → DmcGroup) : (s.modGrp g f).regs = s.regs := rfl
@[simp] theorem State.modGrp_act (s : State) (g : Fin 2) (f : DmcGroup → DmcGroup) : (s.modGrp g f).act = s.act := rfl
@[simp] theorem State.modGrp_mem (s : State) (g : Fin 2) (f : DmcGroup → DmcGroup) : (s.modGrp g f).mem = s.mem := rfl
@[simp] theorem State.modGrp_flash (s : State) (g : Fin 2) (f : DmcGroup → DmcGroup) : (s.modGrp g f).flash = s.flash := rfl
@[simp] theorem State.modGrp_glb (s : State) (g : Fin 2) (f : DmcGroup → DmcGroup) : (s.modGrp g f).glb = s.glb := rfl
@[simp] theorem State.modGrp_tmb (s : State) (g : Fin 2) (f : DmcGroup → DmcGroup) : (s.modGrp g f).tmb = s.tmb := rfl
@[simp] theorem State.modGrp_slk (s : State) (g : Fin 2) (f : DmcGroup → DmcGroup) : (s.modGrp g f).slk = s.slk := rfl
@[simp] theorem State.modGrp_sxq (s : State) (g : Fin 2) (f : DmcGroup → DmcGroup) : (s.modGrp g f).sxq = s.sxq := rfl
@[simp] theorem State.modGrp_red (s : State) (g : Fin 2) (f : DmcGroup → DmcGroup) : (s.modGrp g f).red = s.red := rfl
@[simp] theorem State.modGrp_src (s : State) (g : Fin 2) (f : DmcGroup → DmcGroup) : (s.modGrp g f).src = s.src := rfl
@[simp] theorem State.modGrp_cmp (s : State) (g : Fin 2) (f : DmcGroup → DmcGroup) : (s.modGrp g f).cmp = s.cmp := rfl
@[simp] theorem State.modGrp_scn (s : State) (g : Fin 2) (f : DmcGroup → DmcGroup) : (s.modGrp g f).scn = s.scn := rfl
@[simp] theorem State.modGrp_cor (s : State) (g : Fin 2) (f : DmcGroup → DmcGroup) : (s.modGrp g f).cor = s.cor := rfl
@[simp] theorem State.modGrp_fur (s : State) (g : Fin 2) (f : DmcGroup → DmcGroup) : (s.modGrp g f).fur = s.fur := rfl
@[simp] theorem State.modGrp_lmp (s : State) (g : Fin 2) (f : DmcGroup → DmcGroup) : (s.modGrp g f).lmp = s.lmp := rfl
@[simp] theorem State.modGrp_cal (s : State) (g : Fin 2) (f : DmcGroup → DmcGroup) : (s.modGrp g f).cal = s.cal := rfl
@[simp] theorem State.modGrp_aud (s : State) (g : Fin 2) (f : DmcGroup → DmcGroup) : (s.modGrp g f).aud = s.aud := rfl
@[simp] theorem State.modGrp_mec (s : State) (g : Fin 2) (f : DmcGroup → DmcGroup) : (s.modGrp g f).mec = s.mec := rfl
@[simp] theorem State.modGrp_hkp (s : State) (g : Fin 2) (f : DmcGroup → DmcGroup) : (s.modGrp g f).hkp = s.hkp := rfl
@[simp] theorem State.modGrp_evt (s : State) (g : Fin 2) (f : DmcGroup → DmcGroup) : (s.modGrp g f).evt = s.evt := rfl
@[simp] theorem State.modGrp_boot (s : State) (g : Fin 2) (f : DmcGroup → DmcGroup) : (s.modGrp g f).boot = s.boot := rfl
@[simp] theorem State.modGrp_pci (s : State) (g : Fin 2) (f : DmcGroup → DmcGroup) : (s.modGrp g f).pci = s.pci := rfl
@[simp] theorem State.modGrp_mge (s : State) (g : Fin 2) (f : DmcGroup → DmcGroup) : (s.modGrp g f).mge = s.mge := rfl
@[simp] theorem State.modGrp_mon (s : State) (g : Fin 2) (f : DmcGroup → DmcGroup) : (s.modGrp g f).mon = s.mon := rfl

@[simp] theorem State.modMec_pending (s : State) (f : Mec → Mec) : (s.modMec f).pending = s.pending := rfl
@[simp] theorem State.modMec_freeCtr (s : State) (f : Mec → Mec) : (s.modMec f).freeCtr = s.freeCtr := rfl
@[simp] theorem State.modMec_out (s : State) (f : Mec → Mec) : (s.modMec f).out = s.out := rfl
@[simp] theorem State.modMec_regs (s : State) (f : Mec → Mec) : (s.modMec f).regs = s.regs := rfl
@[simp] theorem State.modMec_act (s : State) (f : Mec → Mec) : (s.modMec f).act = s.act := rfl
@[simp] theorem State.modMec_mem (s : State) (f : Mec → Mec) : (s.modMec f).mem = s.mem := rfl
@[simp] theorem State.modMec_flash (s : State) (f : Mec → Mec) : (s.modMec f).flash = s.flash := rfl
@[simp] theorem State.modMec_glb (s : State) (f : Mec → Mec) : (s.modMec f).glb = s.glb := rfl
@[simp] theorem State.modMec_tmb (s : State) (f : Mec → Mec) : (s.modMec f).tmb = s.tmb := rfl
@[simp] theorem State.modMec_slk (s : State) (f : Mec → Mec) : (s.modMec f).slk = s.slk := rfl
@[simp] theorem State.modMec_sxq (s : State) (f : Mec → Mec) : (s.modMec f).sxq = s.sxq := rfl
@[simp] theorem State.modMec_red (s : State) (f : Mec → Mec) : (s.modMec f).red = s.red := rfl
@[simp] theorem State.modMec_src (s : State) (f : Mec → Mec) : (s.modMec f).src = s.src := rfl
@[simp] theorem State.modMec_cmp (s : State) (f : Mec → Mec) : (s.modMec f).cmp = s.cmp := rfl
@[simp] theorem State.modMec_scn (s : State) (f : Mec → Mec) : (s.modMec f).scn = s.scn := rfl
@[simp] theorem State.modMec_cor (s : State) (f : Mec → Mec) : (s.modMec f).cor = s.cor := rfl
@[simp] theorem State.modMec_fur (s : State) (f : Mec → Mec) : (s.modMec f).fur = s.fur := rfl
@[simp] theorem State.modMec_lmp (s : State) (f : Mec → Mec) : (s.modMec f).lmp = s.lmp := rfl
@[simp] theorem State.modMec_cal (s : State) (f : Mec → Mec) : (s.modMec f).cal = s.cal := rfl
@[simp] theorem State.modMec_aud (s : State) (f : Mec → Mec) : (s.modMec f).aud = s.aud := rfl
@[simp] theorem State.modMec_dmc (s : State) (f : Mec → Mec) : (s.modMec f).dmc = s.dmc := rfl
@[simp] theorem State.modMec_hkp (s : State) (f : Mec → Mec) : (s.modMec f).hkp = s.hkp := rfl
@[simp] theorem State.modMec_evt (s : State) (f : Mec → Mec) : (s.modMec f).evt = s.evt := rfl
@[simp] theorem State.modMec_boot (s : State) (f : Mec → Mec) : (s.modMec f).boot = s.boot := rfl
@[simp] theorem State.modMec_pci (s : State) (f : Mec → Mec) : (s.modMec f).pci = s.pci := rfl
@[simp] theorem State.modMec_mge (s : State) (f : Mec → Mec) : (s.modMec f).mge = s.mge := rfl
@[simp] theorem State.modMec_mon (s : State) (f : Mec → Mec) : (s.modMec f).mon = s.mon := rfl
@[simp] theorem State.modMec_mec (s : State) (f : Mec → Mec) : (s.modMec f).mec = f s.mec := rfl

@[simp] theorem State.modHkp_pending (s : State) (f : Hkp → Hkp) : (s.modHkp f).pending = s.pending := rfl
@[simp] theorem State.modHkp_freeCtr (s : State) (f : Hkp → Hkp) : (s.modHkp f).freeCtr = s.freeCtr := rfl
@[simp] theorem State.modHkp_out (s : State) (f : Hkp → Hkp) : (s.modHkp f).out = s.out := rfl
@[simp] theorem State.modHkp_regs (s : State) (f : Hkp → Hkp) : (s.modHkp f).regs = s.regs := rfl
@[simp] theorem State.modHkp_act (s : State) (f : Hkp → Hkp) : (s.modHkp f).act = s.act := rfl
@[simp] theorem State.modHkp_mem (s : State) (f : Hkp → Hkp) : (s.modHkp f).mem = s.mem := rfl
@[simp] theorem State.modHkp_flash (s : State) (f : Hkp → Hkp) : (s.modHkp f).flash = s.flash := rfl
@[simp] theorem State.modHkp_glb (s : State) (f : Hkp → Hkp) : (s.modHkp f).glb = s.glb := rfl
@[simp] theorem State.modHkp_tmb (s : State) (f : Hkp → Hkp) : (s.modHkp f).tmb = s.tmb := rfl
@[simp] theorem State.modHkp_slk (s : State) (f : Hkp → Hkp) : (s.modHkp f).slk = s.slk := rfl
@[simp] theorem State.modHkp_sxq (s : State) (f : Hkp → Hkp) : (s.modHkp f).sxq = s.sxq := rfl
@[simp] theorem State.modHkp_red (s : State) (f : Hkp → Hkp) : (s.modHkp f).red = s.red := rfl
@[simp] theorem State.modHkp_src (s : State) (f : Hkp → Hkp) : (s.modHkp f).src = s.src := rfl
@[simp] theorem State.modHkp_cmp (s : State) (f : Hkp → Hkp) : (s.modHkp f).cmp = s.cmp := rfl
@[simp] theorem State.modHkp_scn (s : State) (f : Hkp → Hkp) : (s.modHkp f).scn = s.scn := rfl
@[simp] theorem State.modHkp_cor (s : State) (f : Hkp → Hkp) : (s.modHkp f).cor = s.cor := rfl
@[simp] theorem State.modHkp_fur (s : State) (f : Hkp → Hkp) : (s.modHkp f).fur = s.fur := rfl
@[simp] theorem State.modHkp_lmp (s : State) (f : Hkp → Hkp) : (s.modHkp f).lmp = s.lmp := rfl
@[simp] theorem State.modHkp_cal (s : State) (f : Hkp → Hkp) : (s.modHkp f).cal = s.cal := rfl
@[simp] theorem State.modHkp_aud (s : State) (f : Hkp → Hkp) : (s.modHkp f).aud = s.aud := rfl
@[simp] theorem State.modHkp_dmc (s : State) (f : Hkp → Hkp) : (s.modHkp f).dmc = s.dmc := rfl
@[simp] theorem State.modHkp_mec (s : State) (f : Hkp → Hkp) : (s.modHkp f).mec = s.mec := rfl
@[simp] theorem State.modHkp_evt (s : State) (f : Hkp → Hkp) : (s.modHkp f).evt = s.evt := rfl
@[simp] theorem State.modHkp_boot (s : State) (f : Hkp → Hkp) : (s.modHkp f).boot = s.boot := rfl
@[simp] theorem State.modHkp_pci (s : State) (f : Hkp → Hkp) : (s.modHkp f).pci = s.pci := rfl
@[simp] theorem State.modHkp_mge (s : State) (f : Hkp → Hkp) : (s.modHkp f).mge = s.mge := rfl
@[simp] theorem State.modHkp_mon (s : State) (f : Hkp → Hkp) : (s.modHkp f).mon = s.mon := rfl
@[simp] theorem State.modHkp_hkp (s : State) (f : Hkp → Hkp) : (s.modHkp f).hkp = f s.hkp := rfl

@[simp] theorem State.modEvt_pending (s : State) (f : Evt → Evt) : (s.modEvt f).pending = s.pending := rfl
@[simp] theorem State.modEvt_freeCtr (s : State) (f : Evt → Evt) : (s.modEvt f).freeCtr = s.freeCtr := rfl
@[simp] theorem State.modEvt_out (s : State) (f : Evt → Evt) : (s.modEvt f).out = s.out := rfl
@[simp] theorem State.modEvt_regs (s : State) (f : Evt → Evt) : (s.modEvt f).regs = s.regs := rfl
@[simp] theorem State.modEvt_act (s : State) (f : Evt → Evt) : (s.modEvt f).act = s.act := rfl
@[simp] theorem State.modEvt_mem (s : State) (f : Evt → Evt) : (s.modEvt f).mem = s.mem := rfl
@[simp] theorem State.modEvt_flash (s : State) (f : Evt → Evt) : (s.modEvt f).flash = s.flash := rfl
@[simp] theorem State.modEvt_glb (s : State) (f : Evt → Evt) : (s.modEvt f).glb = s.glb := rfl
@[simp] theorem State.modEvt_tmb (s : State) (f : Evt → Evt) : (s.modEvt f).tmb = s.tmb := rfl
@[simp] theorem State.modEvt_slk (s : State) (f : Evt → Evt) : (s.modEvt f).slk = s.slk := rfl
@[simp] theorem State.modEvt_sxq (s : State) (f : Evt → Evt) : (s.modEvt f).sxq = s.sxq := rfl
@[simp] theorem State.modEvt_red (s : State) (f : Evt → Evt) : (s.modEvt f).red = s.red := rfl
@[simp] theorem State.modEvt_src (s : State) (f : Evt → Evt) : (s.modEvt f).src = s.src := rfl
@[simp] theorem State.modEvt_cmp (s : State) (f : Evt → Evt) : (s.modEvt f).cmp = s.cmp := rfl
@[simp] theorem State.modEvt_scn (s : State) (f : Evt → Evt) : (s.modEvt f).scn = s.scn := rfl
@[simp] theorem State.modEvt_cor (s : State) (f : Evt → Evt) : (s.modEvt f).cor = s.cor := rfl
@[simp] theorem State.modEvt_fur (s : State) (f : Evt → Evt) : (s.modEvt f).fur = s.fur := rfl
@[simp] theorem State.modEvt_lmp (s : State) (f : Evt → Evt) : (s.modEvt f).lmp = s.lmp := rfl
@[simp] theorem State.modEvt_cal (s : State) (f : Evt → Evt) : (s.modEvt f).cal = s.cal := rfl
@[simp] theorem State.modEvt_aud (s : State) (f : Evt → Evt) : (s.modEvt f).aud = s.aud := rfl
@[simp] theorem State.modEvt_dmc (s : State) (f : Evt → Evt) : (s.modEvt f).dmc = s.dmc := rfl
@[simp] theorem State.modEvt_mec (s : State) (f : Evt → Evt) : (s.modEvt f).mec = s.mec := rfl
@[simp] theorem State.modEvt_hkp (s : State) (f : Evt → Evt) : (s.modEvt f).hkp = s.hkp := rfl
@[simp] theorem State.modEvt_boot (s : State) (f : Evt → Evt) : (s.modEvt f).boot = s.boot := rfl
@[simp] theorem State.modEvt_pci (s : State) (f : Evt → Evt) : (s.modEvt f).pci = s.pci := rfl
@[simp] theorem State.modEvt_mge (s : State) (f : Evt → Evt) : (s.modEvt f).mge = s.mge := rfl
@[simp] theorem State.modEvt_mon (s : State) (f : Evt → Evt) : (s.modEvt f).mon = s.mon := rfl
@[simp] theorem State.modEvt_evt (s : State) (f : Evt → Evt) : (s.modEvt f).evt = f s.evt := rfl

@[simp] theorem State.modBoot_pending (s : State) (f : Boot → Boot) : (s.modBoot f).pending = s.pending := rfl
@[simp] theorem State.modBoot_freeCtr (s : State) (f : Boot → Boot) : (s.modBoot f).freeCtr = s.freeCtr := rfl
@[simp] theorem State.modBoot_out (s : State) (f : Boot → Boot) : (s.modBoot f).out = s.out := rfl
@[simp] theorem State.modBoot_regs (s : State) (f : Boot → Boot) : (s.modBoot f).regs = s.regs := rfl
@[simp] theorem State.modBoot_act (s : State) (f : Boot → Boot) : (s.modBoot f).act = s.act := rfl
@[simp] theorem State.modBoot_mem (s : State) (f : Boot → Boot) : (s.modBoot f).mem = s.mem := rfl
@[simp] theorem State.modBoot_flash (s : State) (f : Boot → Boot) : (s.modBoot f).flash = s.flash := rfl
@[simp] theorem State.modBoot_glb (s : State) (f : Boot → Boot) : (s.modBoot f).glb = s.glb := rfl
@[simp] theorem State.modBoot_tmb (s : State) (f : Boot → Boot) : (s.modBoot f).tmb = s.tmb := rfl
@[simp] theorem State.modBoot_slk (s : State) (f : Boot → Boot) : (s.modBoot f).slk = s.slk := rfl
@[simp] theorem State.modBoot_sxq (s : State) (f : Boot → Boot) : (s.modBoot f).sxq = s.sxq := rfl
@[simp] theorem State.modBoot_red (s : State) (f : Boot → Boot) : (s.modBoot f).red = s.red := rfl
@[simp] theorem State.modBoot_src (s : State) (f : Boot → Boot) : (s.modBoot f).src = s.src := rfl
@[simp] theorem State.modBoot_cmp (s : State) (f : Boot → Boot) : (s.modBoot f).cmp = s.cmp := rfl
@[simp] theorem State.modBoot_scn (s : State) (f : Boot → Boot) : (s.modBoot f).scn = s.scn := rfl
@[simp] theorem State.modBoot_cor (s : State) (f : Boot → Boot) : (s.modBoot f).cor = s.cor := rfl
@[simp] theorem State.modBoot_fur (s : State) (f : Boot → Boot) : (s.modBoot f).fur = s.fur := rfl
@[simp] theorem State.modBoot_lmp (s : State) (f : Boot → Boot) : (s.modBoot f).lmp = s.lmp := rfl
@[simp] theorem State.modBoot_cal (s : State) (f : Boot → Boot) : (s.modBoot f).cal = s.cal := rfl
@[simp] theorem State.modBoot_aud (s : State) (f : Boot → Boot) : (s.modBoot f).aud = s.aud := rfl
@[simp] theorem State.modBoot_dmc (s : State) (f : Boot → Boot) : (s.modBoot f).dmc = s.dmc := rfl
@[simp] theorem State.modBoot_mec (s : State) (f : Boot → Boot) : (s.modBoot f).mec = s.mec := rfl
@[simp] theorem State.modBoot_hkp (s : State) (f : Boot → Boot) : (s.modBoot f).hkp = s.hkp := rfl
@[simp] theorem State.modBoot_evt (s : State) (f : Boot → Boot) : (s.modBoot f).evt = s.evt := rfl
@[simp] theorem State.modBoot_pci (s : State) (f : Boot → Boot) : (s.modBoot f).pci = s.pci := rfl
@[simp] theorem State.modBoot_mge (s : State) (f : Boot → Boot) : (s.modBoot f).mge = s.mge := rfl
@[simp] theorem State.modBoot_mon (s : State) (f : Boot → Boot) : (s.modBoot f).mon = s.mon := rfl
@[simp] theorem State.modBoot_boot (s : State) (f : Boot → Boot) : (s.modBoot f).boot = f s.boot := rfl

@[simp] theorem State.setFlash_pending (s : State) (a : Nat) (b : Byte) : (s.setFlash a b).pending = s.pending := rfl
@[simp] theorem State.setFlash_freeCtr (s : State) (a : Nat) (b : Byte) : (s.setFlash a b).freeCtr = s.freeCtr := rfl
@[simp] theorem State.setFlash_out (s : State) (a : Nat) (b : Byte) : (s.setFlash a b).out = s.out := rfl
@[simp] theorem State.setFlash_regs (s : State) (a : Nat) (b : Byte) : (s.setFlash a b).regs = s.regs := rfl
@[simp] theorem State.setFlash_act (s : State) (a : Nat) (b : Byte) : (s.setFlash a b).act = s.act := rfl
@[simp] theorem State.setFlash_mem (s : State) (a : Nat) (b : Byte) : (s.setFlash a b).mem = s.mem := rfl
@[simp] theorem State.setFlash_glb (s : State) (a : Nat) (b : Byte) : (s.setFlash a b).glb = s.glb := rfl
@[simp] theorem State.setFlash_tmb (s : State) (a : Nat) (b : Byte) : (s.setFlash a b).tmb = s.tmb := rfl
@[simp] theorem State.setFlash_slk (s : State) (a : Nat) (b : Byte) : (s.setFlash a b).slk = s.slk := rfl
@[simp] theorem State.setFlash_sxq (s : State) (a : Nat) (b : Byte) : (s.setFlash a b).sxq = s.sxq := rfl
@[simp] theorem State.setFlash_red (s : State) (a : Nat) (b : Byte) : (s.setFlash a b).red = s.red := rfl
@[simp] theorem State.setFlash_src (s : State) (a : Nat) (b : Byte) : (s.setFlash a b).src = s.src := rfl
@[simp] theorem State.setFlash_cmp (s : State) (a : Nat) (b : Byte) : (s.setFlash a b).cmp = s.cmp := rfl
@[simp] theorem State.setFlash_scn (s : State) (a : Nat) (b : Byte) : (s.setFlash a b).scn = s.scn := rfl
@[simp] theorem State.setFlash_cor (s : State) (a : Nat) (b : Byte) : (s.setFlash a b).cor = s.cor := rfl
@[simp] theorem State.setFlash_fur (s : State) (a : Nat) (b : Byte) : (s.setFlash a b).fur = s.fur := rfl
@[simp] theorem State.setFlash_lmp (s : State) (a : Nat) (b : Byte) : (s.setFlash a b).lmp = s.lmp := rfl
@[simp] theorem State.setFlash_cal (s : State) (a : Nat) (b : Byte) : (s.setFlash a b).cal = s.cal := rfl
@[simp] theorem State.setFlash_aud (s : State) (a : Nat) (b : Byte) : (s.setFlash a b).aud = s.aud := rfl
@[simp] theorem State.setFlash_dmc (s : State) (a : Nat) (b : Byte) : (s.setFlash a b).dmc = s.dmc := rfl
@[simp] theorem State.setFlash_mec (s : State) (a : Nat) (b : Byte) : (s.setFlash a b).mec = s.mec := rfl
@[simp] theorem State.setFlash_hkp (s : State) (a : Nat) (b : Byte) : (s.setFlash a b).hkp = s.hkp := rfl
@[simp] theorem State.setFlash_evt (s : State) (a : Nat) (b : Byte) : (s.setFlash a b).evt = s.evt := rfl
@[simp] theorem State.setFlash_boot (s : State) (a : Nat) (b : Byte) : (s.setFlash a b).boot = s.boot := rfl
@[simp] theorem State.setFlash_pci (s : State) (a : Nat) (b : Byte) : (s.setFlash a b).pci = s.pci := rfl
@[simp] theorem State.setFlash_mge (s : State) (a : Nat) (b : Byte) : (s.setFlash a b).mge = s.mge := rfl
@[simp] theorem State.setFlash_mon (s : State) (a : Nat) (b : Byte) : (s.setFlash a b).mon = s.mon := rfl

@[simp] theorem State.keepRegs_pending (s : State) (p : Nat → Bool) : (s.keepRegs p).pending = s.pending := rfl
@[simp] theorem State.keepRegs_freeCtr (s : State) (p : Nat → Bool) : (s.keepRegs p).freeCtr = s.freeCtr := rfl
@[simp] theorem State.keepRegs_out (s : State) (p : Nat → Bool) : (s.keepRegs p).out = s.out := rfl
@[simp] theorem State.keepRegs_act (s : State) (p : Nat → Bool) : (s.keepRegs p).act = s.act := rfl
@[simp] theorem State.keepRegs_mem (s : State) (p : Nat → Bool) : (s.keepRegs p).mem = s.mem := rfl
@[simp] theorem State.keepRegs_flash (s : State) (p : Nat → Bool) : (s.keepRegs p).flash = s.flash := rfl
@[simp] theorem State.keepRegs_glb (s : State) (p : Nat → Bool) : (s.keepRegs p).glb = s.glb := rfl
@[simp] theorem State.keepRegs_tmb (s : State) (p : Nat → Bool) : (s.keepRegs p).tmb = s.tmb := rfl
@[simp] theorem State.keepRegs_slk (s : State) (p : Nat → Bool) : (s.keepRegs p).slk = s.slk := rfl
@[simp] theorem State.keepRegs_sxq (s : State) (p : Nat → Bool) : (s.keepRegs p).sxq = s.sxq := rfl
@[simp] theorem State.keepRegs_red (s : State) (p : Nat → Bool) : (s.keepRegs p).red = s.red := rfl
@[simp] theorem State.keepRegs_src (s : State) (p : Nat → Bool) : (s.keepRegs p).src = s.src := rfl
@[simp] theorem State.keepRegs_cmp (s : State) (p : Nat → Bool) : (s.keepRegs p).cmp = s.cmp := rfl
@[simp] theorem State.keepRegs_scn (s : State) (p : Nat → Bool) : (s.keepRegs p).scn = s.scn := rfl
@[simp] theorem State.keepRegs_cor (s : State) (p : Nat → Bool) : (s.keepRegs p).cor = s.cor := rfl
@[simp] theorem State.keepRegs_fur (s : State) (p : Nat → Bool) : (s.keepRegs p).fur = s.fur := rfl
@[simp] theorem State.keepRegs_lmp (s : State) (p : Nat → Bool) : (s.keepRegs p).lmp = s.lmp := rfl
@[simp] theorem State.keepRegs_cal (s : State) (p : Nat → Bool) : (s.keepRegs p).cal = s.cal := rfl
@[simp] theorem State.keepRegs_aud (s : State) (p : Nat → Bool) : (s.keepRegs p).aud = s.aud := rfl
@[simp] theorem State.keepRegs_dmc (s : State) (p : Nat → Bool) : (s.keepRegs p).dmc = s.dmc := rfl
@[simp] theorem State.keepRegs_mec (s : State) (p : Nat → Bool) : (s.keepRegs p).mec = s.mec := rfl
@[simp] theorem State.keepRegs_hkp (s : State) (p : Nat → Bool) : (s.keepRegs p).hkp = s.hkp := rfl
@[simp] theorem State.keepRegs_evt (s : State) (p : Nat → Bool) : (s.keepRegs p).evt = s.evt := rfl
@[simp] theorem State.keepRegs_boot (s : State) (p : Nat → Bool) : (s.keepRegs p).boot = s.boot := rfl
@[simp] theorem State.keepRegs_pci (s : State) (p : Nat → Bool) : (s.keepRegs p).pci = s.pci := rfl
@[simp] theorem State.keepRegs_mge (s : State) (p : Nat → Bool) : (s.keepRegs p).mge = s.mge := rfl
@[simp] theorem State.keepRegs_mon (s : State) (p : Nat → Bool) : (s.keepRegs p).mon = s.mon := rfl

@[simp] theorem State.keepMem_pending (s : State) (p : Nat → Bool) : (s.keepMem p).pending = s.pending := rfl
@[simp] theorem State.keepMem_freeCtr (s : State) (p : Nat → Bool) : (s.keepMem p).freeCtr = s.freeCtr := rfl
@[simp] theorem State.keepMem_out (s : State) (p : Nat → Bool) : (s.keepMem p).out = s.out := rfl
@[simp] theorem State.keepMem_regs (s : State) (p : Nat → Bool) : (s.keepMem p).regs = s.regs := rfl
@[simp] theorem State.keepMem_act (s : State) (p : Nat → Bool) : (s.keepMem p).act = s.act := rfl
@[simp] theorem State.keepMem_flash (s : State) (p : Nat → Bool) : (s.keepMem p).flash = s.flash := rfl
@[simp] theorem State.keepMem_glb (s : State) (p : Nat → Bool) : (s.keepMem p).glb = s.glb := rfl
@[simp] theorem State.keepMem_tmb (s : State) (p : Nat → Bool) : (s.keepMem p).tmb = s.tmb := rfl
@[simp] theorem State.keepMem_slk (s : State) (p : Nat → Bool) : (s.keepMem p).slk = s.slk := rfl
@[simp] theorem State.keepMem_sxq (s : State) (p : Nat → Bool) : (s.keepMem p).sxq = s.sxq := rfl
@[simp] theorem State.keepMem_red (s : State) (p : Nat → Bool) : (s.keepMem p).red = s.red := rfl
@[simp] theorem State.keepMem_src (s : State) (p : Nat → Bool) : (s.keepMem p).src = s.src := rfl
@[simp] theorem State.keepMem_cmp (s : State) (p : Nat → Bool) : (s.keepMem p).cmp = s.cmp := rfl
@[simp] theorem State.keepMem_scn (s : State) (p : Nat → Bool) : (s.keepMem p).scn = s.scn := rfl
@[simp] theorem State.keepMem_cor (s : State) (p : Nat → Bool) : (s.keepMem p).cor = s.cor := rfl
@[simp] theorem State.keepMem_fur (s : State) (p : Nat → Bool) : (s.keepMem p).fur = s.fur := rfl
@[simp] theorem State.keepMem_lmp (s : State) (p : Nat → Bool) : (s.keepMem p).lmp = s.lmp := rfl
@[simp] theorem State.keepMem_cal (s : State) (p : Nat → Bool) : (s.keepMem p).cal = s.cal := rfl
@[simp] theorem State.keepMem_aud (s : State) (p : Nat → Bool) : (s.keepMem p).aud = s.aud := rfl
@[simp] theorem State.keepMem_dmc (s : State) (p : Nat → Bool) : (s.keepMem p).dmc = s.dmc := rfl
@[simp] theorem State.keepMem_mec (s : State) (p : Nat → Bool) : (s.keepMem p).mec = s.mec := rfl
@[simp] theorem State.keepMem_hkp (s : State) (p : Nat → Bool) : (s.keepMem p).hkp = s.hkp := rfl
@[simp] theorem State.keepMem_evt (s : State) (p : Nat → Bool) : (s.keepMem p).evt = s.evt := rfl
@[simp] theorem State.keepMem_boot (s : State) (p : Nat → Bool) : (s.keepMem p).boot = s.boot := rfl
@[simp] theorem State.keepMem_pci (s : State) (p : Nat → Bool) : (s.keepMem p).pci = s.pci := rfl
@[simp] theorem State.keepMem_mge (s : State) (p : Nat → Bool) : (s.keepMem p).mge = s.mge := rfl
@[simp] theorem State.keepMem_mon (s : State) (p : Nat → Bool) : (s.keepMem p).mon = s.mon := rfl

@[simp] theorem State.keepFlash_pending (s : State) (p : Nat → Bool) : (s.keepFlash p).pending = s.pending := rfl
@[simp] theorem State.keepFlash_freeCtr (s : State) (p : Nat → Bool) : (s.keepFlash p).freeCtr = s.freeCtr := rfl
@[simp] theorem State.keepFlash_out (s : State) (p : Nat → Bool) : (s.keepFlash p).out = s.out := rfl
@[simp] theorem State.keepFlash_regs (s : State) (p : Nat → Bool) : (s.keepFlash p).regs = s.regs := rfl
@[simp] theorem State.keepFlash_act (s : State) (p : Nat → Bool) : (s.keepFlash p).act = s.act := rfl
@[simp] theorem State.keepFlash_mem (s : State) (p : Nat → Bool) : (s.keepFlash p).mem = s.mem := rfl
@[simp] theorem State.keepFlash_glb (s : State) (p : Nat → Bool) : (s.keepFlash p).glb = s.glb := rfl
@[simp] theorem State.keepFlash_tmb (s : State) (p : Nat → Bool) : (s.keepFlash p).tmb = s.tmb := rfl
@[simp] theorem State.keepFlash_slk (s : State) (p : Nat → Bool) : (s.keepFlash p).slk = s.slk := rfl
@[simp] theorem State.keepFlash_sxq (s : State) (p : Nat → Bool) : (s.keepFlash p).sxq = s.sxq := rfl
@[simp] theorem State.keepFlash_red (s : State) (p : Nat → Bool) : (s.keepFlash p).red = s.red := rfl
@[simp] theorem State.keepFlash_src (s : State) (p : Nat → Bool) : (s.keepFlash p).src = s.src := rfl
@[simp] theorem State.keepFlash_cmp (s : State) (p : Nat → Bool) : (s.keepFlash p).cmp = s.cmp := rfl
@[simp] theorem State.keepFlash_scn (s : State) (p : Nat → Bool) : (s.keepFlash p).scn = s.scn := rfl
@[simp] theorem State.keepFlash_cor (s : State) (p : Nat → Bool) : (s.keepFlash p).cor = s.cor := rfl
@[simp] theorem State.keepFlash_fur (s : State) (p : Nat → Bool) : (s.keepFlash p).fur = s.fur := rfl
@[simp] theorem State.keepFlash_lmp (s : State) (p : Nat → Bool) : (s.keepFlash p).lmp = s.lmp := rfl
@[simp] theorem State.keepFlash_cal (s : State) (p : Nat → Bool) : (s.keepFlash p).cal = s.cal := rfl
@[simp] theorem State.keepFlash_aud (s : State) (p : Nat → Bool) : (s.keepFlash p).aud = s.aud := rfl
@[simp] theorem State.keepFlash_dmc (s : State) (p : Nat → Bool) : (s.keepFlash p).dmc = s.dmc := rfl
@[simp] theorem State.keepFlash_mec (s : State) (p : Nat → Bool) : (s.keepFlash p).mec = s.mec := rfl
@[simp] theorem State.keepFlash_hkp (s : State) (p : Nat → Bool) : (s.keepFlash p).hkp = s.hkp := rfl
@[simp] theorem State.keepFlash_evt (s : State) (p : Nat → Bool) : (s.keepFlash p).evt = s.evt := rfl
@[simp] theorem State.keepFlash_boot (s : State) (p : Nat → Bool) : (s.keepFlash p).boot = s.boot := rfl
@[simp] theorem State.keepFlash_pci (s : State) (p : Nat → Bool) : (s.keepFlash p).pci = s.pci := rfl
@[simp] theorem State.keepFlash_mge (s : State) (p : Nat → Bool) : (s.keepFlash p).mge = s.mge := rfl
@[simp] theorem State.keepFlash_mon (s : State) (p : Nat → Bool) : (s.keepFlash p).mon = s.mon := rfl

@[simp] theorem State.modGlb_pending (s : State) (f : Glb → Glb) : (s.modGlb f).pending = s.pending := rfl
@[simp] theorem State.modGlb_freeCtr (s : State) (f : Glb → Glb) : (s.modGlb f).freeCtr = s.freeCtr := rfl
@[simp] theorem State.modGlb_out (s : State) (f : Glb → Glb) : (s.modGlb f).out = s.out := rfl
@[simp] theorem State.modGlb_regs (s : State) (f : Glb → Glb) : (s.modGlb f).regs = s.regs := rfl
@[simp] theorem State.modGlb_act (s : State) (f : Glb → Glb) : (s.modGlb f).act = s.act := rfl
@[simp] theorem State.modGlb_mem (s : State) (f : Glb → Glb) : (s.modGlb f).mem = s.mem := rfl
@[simp] theorem State.modGlb_flash (s : State) (f : Glb → Glb) : (s.modGlb f).flash = s.flash := rfl
@[simp] theorem State.modGlb_tmb (s : State) (f : Glb → Glb) : (s.modGlb f).tmb = s.tmb := rfl
@[simp] theorem State.modGlb_slk (s : State) (f : Glb → Glb) : (s.modGlb f).slk = s.slk := rfl
@[simp] theorem State.modGlb_sxq (s : State) (f : Glb → Glb) : (s.modGlb f).sxq = s.sxq := rfl
@[simp] theorem State.modGlb_red (s : State) (f : Glb → Glb) : (s.modGlb f).red = s.red := rfl
@[simp] theorem State.modGlb_src (s : State) (f : Glb → Glb) : (s.modGlb f).src = s.src := rfl
@[simp] theorem State.modGlb_cmp (s : State) (f : Glb → Glb) : (s.modGlb f).cmp = s.cmp := rfl
@[simp] theorem State.modGlb_scn (s : State) (f : Glb → Glb) : (s.modGlb f).scn = s.scn := rfl
@[simp] theorem State.modGlb_cor (s : State) (f : Glb → Glb) : (s.modGlb f).cor = s.cor := rfl
@[simp] theorem State.modGlb_fur (s : State) (f : Glb → Glb) : (s.modGlb f).fur = s.fur := rfl
@[simp] theorem State.modGlb_lmp (s : State) (f : Glb → Glb) : (s.modGlb f).lmp = s.lmp := rfl
@[simp] theorem State.modGlb_cal (s : State) (f : Glb → Glb) : (s.modGlb f).cal = s.cal := rfl
@[simp] theorem State.modGlb_aud (s : State) (f : Glb → Glb) : (s.modGlb f).aud = s.aud := rfl
@[simp] theorem State.modGlb_dmc (s : State) (f : Glb → Glb) : (s.modGlb f).dmc = s.dmc := rfl
@[simp] theorem State.modGlb_mec (s : State) (f : Glb → Glb) : (s.modGlb f).mec = s.mec := rfl
@[simp] theorem State.modGlb_hkp (s : State) (f : Glb → Glb) : (s.modGlb f).hkp = s.hkp := rfl
@[simp] theorem State.modGlb_evt (s : State) (f : Glb → Glb) : (s.modGlb f).evt = s.evt := rfl
@[simp] theorem State.modGlb_boot (s : State) (f : Glb → Glb) : (s.modGlb f).boot = s.boot := rfl
@[simp] theorem State.modGlb_pci (s : State) (f : Glb → Glb) : (s.modGlb f).pci = s.pci := rfl
@[simp] theorem State.modGlb_mge (s : State) (f : Glb → Glb) : (s.modGlb f).mge = s.mge := rfl
@[simp] theorem State.modGlb_mon (s : State) (f : Glb → Glb) : (s.modGlb f).mon = s.mon := rfl
@[simp] theorem State.modGlb_glb (s : State) (f : Glb → Glb) : (s.modGlb f).glb = f s.glb := rfl

@[simp] theorem State.modTmb_pending (s : State) (f : Tmb → Tmb) : (s.modTmb f).pending = s.pending := rfl
@[simp] theorem State.modTmb_freeCtr (s : State) (f : Tmb → Tmb) : (s.modTmb f).freeCtr = s.freeCtr := rfl
@[simp] theorem State.modTmb_out (s : State) (f : Tmb → Tmb) : (s.modTmb f).out = s.out := rfl
@[simp] theorem State.modTmb_regs (s : State) (f : Tmb → Tmb) : (s.modTmb f).regs = s.regs := rfl
@[simp] theorem State.modTmb_act (s : State) (f : Tmb → Tmb) : (s.modTmb f).act = s.act := rfl
@[simp] theorem State.modTmb_mem (s : State) (f : Tmb → Tmb) : (s.modTmb f).mem = s.mem := rfl
@[simp] theorem State.modTmb_flash (s : State) (f : Tmb → Tmb) : (s.modTmb f).flash = s.flash := rfl
@[simp] theorem State.modTmb_glb (s : State) (f : Tmb → Tmb) : (s.modTmb f).glb = s.glb := rfl
@[simp] theorem State.modTmb_slk (s : State) (f : Tmb → Tmb) : (s.modTmb f).slk = s.slk := rfl
@[simp] theorem State.modTmb_sxq (s : State) (f : Tmb → Tmb) : (s.modTmb f).sxq = s.sxq := rfl
@[simp] theorem State.modTmb_red (s : State) (f : Tmb → Tmb) : (s.modTmb f).red = s.red := rfl
@[simp] theorem State.modTmb_src (s : State) (f : Tmb → Tmb) : (s.modTmb f).src = s.src := rfl
@[simp] theorem State.modTmb_cmp (s : State) (f : Tmb → Tmb) : (s.modTmb f).cmp = s.cmp := rfl
@[simp] theorem State.modTmb_scn (s : State) (f : Tmb → Tmb) : (s.modTmb f).scn = s.scn := rfl
@[simp] theorem State.modTmb_cor (s : State) (f : Tmb → Tmb) : (s.modTmb f).cor = s.cor := rfl
@[simp] theorem State.modTmb_fur (s : State) (f : Tmb → Tmb) : (s.modTmb f).fur = s.fur := rfl
@[simp] theorem State.modTmb_lmp (s : State) (f : Tmb → Tmb) : (s.modTmb f).lmp = s.lmp := rfl
@[simp] theorem State.modTmb_cal (s : State) (f : Tmb → Tmb) : (s.modTmb f).cal = s.cal := rfl
@[simp] theorem State.modTmb_aud (s : State) (f : Tmb → Tmb) : (s.modTmb f).aud = s.aud := rfl
@[simp] theorem State.modTmb_dmc (s : State) (f : Tmb → Tmb) : (s.modTmb f).dmc = s.dmc := rfl
@[simp] theorem State.modTmb_mec (s : State) (f : Tmb → Tmb) : (s.modTmb f).mec = s.mec := rfl
@[simp] theorem State.modTmb_hkp (s : State) (f : Tmb → Tmb) : (s.modTmb f).hkp = s.hkp := rfl
@[simp] theorem State.modTmb_evt (s : State) (f : Tmb → Tmb) : (s.modTmb f).evt = s.evt := rfl
@[simp] theorem State.modTmb_boot (s : State) (f : Tmb → Tmb) : (s.modTmb f).boot = s.boot := rfl
@[simp] theorem State.modTmb_pci (s : State) (f : Tmb → Tmb) : (s.modTmb f).pci = s.pci := rfl
@[simp] theorem State.modTmb_mge (s : State) (f : Tmb → Tmb) : (s.modTmb f).mge = s.mge := rfl
@[simp] theorem State.modTmb_mon (s : State) (f : Tmb → Tmb) : (s.modTmb f).mon = s.mon := rfl
@[simp] theorem State.modTmb_tmb (s : State) (f : Tmb → Tmb) : (s.modTmb f).tmb = f s.tmb := rfl

@[simp] theorem State.modSxq_pending (s : State) (f : Sxq → Sxq) : (s.modSxq f).pending = s.pending := rfl
@[simp] theorem State.modSxq_freeCtr (s : State) (f : Sxq → Sxq) : (s.modSxq f).freeCtr = s.freeCtr := rfl
@[simp] theorem State.modSxq_out (s : State) (f : Sxq → Sxq) : (s.modSxq f).out = s.out := rfl
@[simp] theorem State.modSxq_regs (s : State) (f : Sxq → Sxq) : (s.modSxq f).regs = s.regs := rfl
@[simp] theorem State.modSxq_act (s : State) (f : Sxq → Sxq) : (s.modSxq f).act = s.act := rfl
@[simp] theorem State.modSxq_mem (s : State) (f : Sxq → Sxq) : (s.modSxq f).mem = s.mem := rfl
@[simp] theorem State.modSxq_flash (s : State) (f : Sxq → Sxq) : (s.modSxq f).flash = s.flash := rfl
@[simp] theorem State.modSxq_glb (s : State) (f : Sxq → Sxq) : (s.modSxq f).glb = s.glb := rfl
@[simp] theorem State.modSxq_tmb (s : State) (f : Sxq → Sxq) : (s.modSxq f).tmb = s.tmb := rfl
@[simp] theorem State.modSxq_slk (s : State) (f : Sxq → Sxq) : (s.modSxq f).slk = s.slk := rfl
@[simp] theorem State.modSxq_red (s : State) (f : Sxq → Sxq) : (s.modSxq f).red = s.red := rfl
@[simp] theorem State.modSxq_src (s : State) (f : Sxq → Sxq) : (s.modSxq f).src = s.src := rfl
@[simp] theorem State.modSxq_cmp (s : State) (f : Sxq → Sxq) : (s.modSxq f).cmp = s.cmp := rfl
@[simp] theorem State.modSxq_scn (s : State) (f : Sxq → Sxq) : (s.modSxq f).scn = s.scn := rfl
@[simp] theorem State.modSxq_cor (s : State) (f : Sxq → Sxq) : (s.modSxq f).cor = s.cor := rfl
@[simp] theorem State.modSxq_fur (s : State) (f : Sxq → Sxq) : (s.modSxq f).fur = s.fur := rfl
@[simp] theorem State.modSxq_lmp (s : State) (f : Sxq → Sxq) : (s.modSxq f).lmp = s.lmp := rfl
@[simp] theorem State.modSxq_cal (s : State) (f : Sxq → Sxq) : (s.modSxq f).cal = s.cal := rfl
@[simp] theorem State.modSxq_aud (s : State) (f : Sxq → Sxq) : (s.modSxq f).aud = s.aud := rfl
@[simp] theorem State.modSxq_dmc (s : State) (f : Sxq → Sxq) : (s.modSxq f).dmc = s.dmc := rfl
@[simp] theorem State.modSxq_mec (s : State) (f : Sxq → Sxq) : (s.modSxq f).mec = s.mec := rfl
@[simp] theorem State.modSxq_hkp (s : State) (f : Sxq → Sxq) : (s.modSxq f).hkp = s.hkp := rfl
@[simp] theorem State.modSxq_evt (s : State) (f : Sxq → Sxq) : (s.modSxq f).evt = s.evt := rfl
@[simp] theorem State.modSxq_boot (s : State) (f : Sxq → Sxq) : (s.modSxq f).boot = s.boot := rfl
@[simp] theorem State.modSxq_pci (s : State) (f : Sxq → Sxq) : (s.modSxq f).pci = s.pci := rfl
@[simp] theorem State.modSxq_mge (s : State) (f : Sxq → Sxq) : (s.modSxq f).mge = s.mge := rfl
@[simp] theorem State.modSxq_mon (s : State) (f : Sxq → Sxq) : (s.modSxq f).mon = s.mon := rfl
@[simp] theorem State.modSxq_sxq (s : State) (f : Sxq → Sxq) : (s.modSxq f).sxq = f s.sxq := rfl

@[simp] theorem State.modRedAll_pending (s : State) (f : Red → Red) : (s.modRedAll f).pending = s.pending := rfl
@[simp] theorem State.modRedAll_freeCtr (s : State) (f : Red → Red) : (s.modRedAll f).freeCtr = s.freeCtr := rfl
@[simp] theorem State.modRedAll_out (s : State) (f : Red → Red) : (s.modRedAll f).out = s.out := rfl
@[simp] theorem State.modRedAll_regs (s : State) (f : Red → Red) : (s.modRedAll f).regs = s.regs := rfl
@[simp] theorem State.modRedAll_act (s : State) (f : Red → Red) : (s.modRedAll f).act = s.act := rfl
@[simp] theorem State.modRedAll_mem (s : State) (f : Red → Red) : (s.modRedAll f).mem = s.mem := rfl
@[simp] theorem State.modRedAll_flash (s : State) (f : Red → Red) : (s.modRedAll f).flash = s.flash := rfl
@[simp] theorem State.modRedAll_glb (s : State) (f : Red → Red) : (s.modRedAll f).glb = s.glb := rfl
@[simp] theorem State.modRedAll_tmb (s : State) (f : Red → Red) : (s.modRedAll f).tmb = s.tmb := rfl
@[simp] theorem State.modRedAll_slk (s : State) (f : Red → Red) : (s.modRedAll f).slk = s.slk := rfl
@[simp] theorem State.modRedAll_sxq (s : State) (f : Red → Red) : (s.modRedAll f).sxq = s.sxq := rfl
@[simp] theorem State.modRedAll_src (s : State) (f : Red → Red) : (s.modRedAll f).src = s.src := rfl
@[simp] theorem State.modRedAll_cmp (s : State) (f : Red → Red) : (s.modRedAll f).cmp = s.cmp := rfl
@[simp] theorem State.modRedAll_scn (s : State) (f : Red → Red) : (s.modRedAll f).scn = s.scn := rfl
@[simp] theorem State.modRedAll_cor (s : State) (f : Red → Red) : (s.modRedAll f).cor = s.cor := rfl
@[simp] theorem State.modRedAll_fur (s : State) (f : Red → Red) : (s.modRedAll f).fur = s.fur := rfl
@[simp] theorem State.modRedAll_lmp (s : State) (f : Red → Red) : (s.modRedAll f).lmp = s.lmp := rfl
@[simp] theorem State.modRedAll_cal (s : State) (f : Red → Red) : (s.modRedAll f).cal = s.cal := rfl
@[simp] theorem State.modRedAll_aud (s : State) (f : Red → Red) : (s.modRedAll f).aud = s.aud := rfl
@[simp] theorem State.modRedAll_dmc (s : State) (f : Red → Red) : (s.modRedAll f).dmc = s.dmc := rfl
@[simp] theorem State.modRedAll_mec (s : State) (f : Red → Red) : (s.modRedAll f).mec = s.mec := rfl
@[simp] theorem State.modRedAll_hkp (s : State) (f : Red → Red) : (s.modRedAll f).hkp = s.hkp := rfl
@[simp] theorem State.modRedAll_evt (s : State) (f : Red → Red) : (s.modRedAll f).evt = s.evt := rfl
@[simp] theorem State.modRedAll_boot (s : State) (f : Red → Red) : (s.modRedAll f).boot = s.boot := rfl
@[simp] theorem State.modRedAll_pci (s : State) (f : Red → Red) : (s.modRedAll f).pci = s.pci := rfl
@[simp] theorem State.modRedAll_mge (s : State) (f : Red → Red) : (s.modRedAll f).mge = s.mge := rfl
@[simp] theorem State.modRedAll_mon (s : State) (f : Red → Red) : (s.modRedAll f).mon = s.mon := rfl
@[simp] theorem State.modRedAll_red (s : State) (f : Red → Red) : (s.modRedAll f).red = f s.red := rfl

@[simp] theorem State.modCmp_pending (s : State) (f : Cmp → Cmp) : (s.modCmp f).pending = s.pending := rfl
@[simp] theorem State.modCmp_freeCtr (s : State) (f : Cmp → Cmp) : (s.modCmp f).freeCtr = s.freeCtr := rfl
@[simp] theorem State.modCmp_out (s : State) (f : Cmp → Cmp) : (s.modCmp f).out = s.out := rfl
@[simp] theorem State.modCmp_regs (s : State) (f : Cmp → Cmp) : (s.modCmp f).regs = s.regs := rfl
@[simp] theorem State.modCmp_act (s : State) (f : Cmp → Cmp) : (s.modCmp f).act = s.act := rfl
@[simp] theorem State.modCmp_mem (s : State) (f : Cmp → Cmp) : (s.modCmp f).mem = s.mem := rfl
@[simp] theorem State.modCmp_flash (s : State) (f : Cmp → Cmp) : (s.modCmp f).flash = s.flash := rfl
@[simp] theorem State.modCmp_glb (s : State) (f : Cmp → Cmp) : (s.modCmp f).glb = s.glb := rfl
@[simp] theorem State.modCmp_tmb (s : State) (f : Cmp → Cmp) : (s.modCmp f).tmb = s.tmb := rfl
@[simp] theorem State.modCmp_slk (s : State) (f : Cmp → Cmp) : (s.modCmp f).slk = s.slk := rfl
@[simp] theorem State.modCmp_sxq (s : State) (f : Cmp → Cmp) : (s.modCmp f).sxq = s.sxq := rfl
@[simp] theorem State.modCmp_red (s : State) (f : Cmp → Cmp) : (s.modCmp f).red = s.red := rfl
@[simp] theorem State.modCmp_src (s : State) (f : Cmp → Cmp) : (s.modCmp f).src = s.src := rfl
@[simp] theorem State.modCmp_scn (s : State) (f : Cmp → Cmp) : (s.modCmp f).scn = s.scn := rfl
@[simp] theorem State.modCmp_cor (s : State) (f : Cmp → Cmp) : (s.modCmp f).cor = s.cor := rfl
@[simp] theorem State.modCmp_fur (s : State) (f : Cmp → Cmp) : (s.modCmp f).fur = s.fur := rfl
@[simp] theorem State.modCmp_lmp (s : State) (f : Cmp → Cmp) : (s.modCmp f).lmp = s.lmp := rfl
@[simp] theorem State.modCmp_cal (s : State) (f : Cmp → Cmp) : (s.modCmp f).cal = s.cal := rfl
@[simp] theorem State.modCmp_aud (s : State) (f : Cmp → Cmp) : (s.modCmp f).aud = s.aud := rfl
@[simp] theorem State.modCmp_dmc (s : State) (f : Cmp → Cmp) : (s.modCmp f).dmc = s.dmc := rfl
@[simp] theorem State.modCmp_mec (s : State) (f : Cmp → Cmp) : (s.modCmp f).mec = s.mec := rfl
@[simp] theorem State.modCmp_hkp (s : State) (f : Cmp → Cmp) : (s.modCmp f).hkp = s.hkp := rfl
@[simp] theorem State.modCmp_evt (s : State) (f : Cmp → Cmp) : (s.modCmp f).evt = s.evt := rfl
@[simp] theorem State.modCmp_boot (s : State) (f : Cmp → Cmp) : (s.modCmp f).boot = s.boot := rfl
@[simp] theorem State.modCmp_pci (s : State) (f : Cmp → Cmp) : (s.modCmp f).pci = s.pci := rfl
@[simp] theorem State.modCmp_mge (s : State) (f : Cmp → Cmp) : (s.modCmp f).mge = s.mge := rfl
@[simp] theorem State.modCmp_mon (s : State) (f : Cmp → Cmp) : (s.modCmp f).mon = s.mon := rfl
@[simp] theorem State.modCmp_cmp (s : State) (f : Cmp → Cmp) : (s.modCmp f).cmp = f s.cmp := rfl

@[simp] theorem State.modScnAll_pending (s : State) (f : Scn → Scn) : (s.modScnAll f).pending = s.pending := rfl
@[simp] theorem State.modScnAll_freeCtr (s : State) (f : Scn → Scn) : (s.modScnAll f).freeCtr = s.freeCtr := rfl
@[simp] theorem State.modScnAll_out (s : State) (f : Scn → Scn) : (s.modScnAll f).out = s.out := rfl
@[simp] theorem State.modScnAll_regs (s : State) (f : Scn → Scn) : (s.modScnAll f).regs = s.regs := rfl
@[simp] theorem State.modScnAll_act (s : State) (f : Scn → Scn) : (s.modScnAll f).act = s.act := rfl
@[simp] theorem State.modScnAll_mem (s : State) (f : Scn → Scn) : (s.modScnAll f).mem = s.mem := rfl
@[simp] theorem State.modScnAll_flash (s : State) (f : Scn → Scn) : (s.modScnAll f).flash = s.flash := rfl
@[simp] theorem State.modScnAll_glb (s : State) (f : Scn → Scn) : (s.modScnAll f).glb = s.glb := rfl
@[simp] theorem State.modScnAll_tmb (s : State) (f : Scn → Scn) : (s.modScnAll f).tmb = s.tmb := rfl
@[simp] theorem State.modScnAll_slk (s : State) (f : Scn → Scn) : (s.modScnAll f).slk = s.slk := rfl
@[simp] theorem State.modScnAll_sxq (s : State) (f : Scn → Scn) : (s.modScnAll f).sxq = s.sxq := rfl
@[simp] theorem State.modScnAll_red (s : State) (f : Scn → Scn) : (s.modScnAll f).red = s.red := rfl
@[simp] theorem State.modScnAll_src (s : State) (f : Scn → Scn) : (s.modScnAll f).src = s.src := rfl
@[simp] theorem State.modScnAll_cmp (s : State) (f : Scn → Scn) : (s.modScnAll f).cmp = s.cmp := rfl
@[simp] theorem State.modScnAll_cor (s : State) (f : Scn → Scn) : (s.modScnAll f).cor = s.cor := rfl
@[simp] theorem State.modScnAll_fur (s : State) (f : Scn → Scn) : (s.modScnAll f).fur = s.fur := rfl
@[simp] theorem State.modScnAll_lmp (s : State) (f : Scn → Scn) : (s.modScnAll f).lmp = s.lmp := rfl
@[simp] theorem State.modScnAll_cal (s : State) (f : Scn → Scn) : (s.modScnAll f).cal = s.cal := rfl
@[simp] theorem State.modScnAll_aud (s : State) (f : Scn → Scn) : (s.modScnAll f).aud = s.aud := rfl
@[simp] theorem State.modScnAll_dmc (s : State) (f : Scn → Scn) : (s.modScnAll f).dmc = s.dmc := rfl
@[simp] theorem State.modScnAll_mec (s : State) (f : Scn → Scn) : (s.modScnAll f).mec = s.mec := rfl
@[simp] theorem State.modScnAll_hkp (s : State) (f : Scn → Scn) : (s.modScnAll f).hkp = s.hkp := rfl
@[simp] theorem State.modScnAll_evt (s : State) (f : Scn → Scn) : (s.modScnAll f).evt = s.evt := rfl
@[simp] theorem State.modScnAll_boot (s : State) (f : Scn → Scn) : (s.modScnAll f).boot = s.boot := rfl
@[simp] theorem State.modScnAll_pci (s : State) (f : Scn → Scn) : (s.modScnAll f).pci = s.pci := rfl
@[simp] theorem State.modScnAll_mge (s : State) (f : Scn → Scn) : (s.modScnAll f).mge = s.mge := rfl
@[simp] theorem State.modScnAll_mon (s : State) (f : Scn → Scn) : (s.modScnAll f).mon = s.mon := rfl
@[simp] theorem State.modScnAll_scn (s : State) (f : Scn → Scn) : (s.modScnAll f).scn = f s.scn := rfl

@[simp] theorem State.modDmc_pending (s : State) (f : Dmc → Dmc) : (s.modDmc f).pending = s.pending := rfl
@[simp] theorem State.modDmc_freeCtr (s : State) (f : Dmc → Dmc) : (s.modDmc f).freeCtr = s.freeCtr := rfl
@[simp] theorem State.modDmc_out (s : State) (f : Dmc → Dmc) : (s.modDmc f).out = s.out := rfl
@[simp] theorem State.modDmc_regs (s : State) (f : Dmc → Dmc) : (s.modDmc f).regs = s.regs := rfl
@[simp] theorem State.modDmc_act (s : State) (f : Dmc → Dmc) : (s.modDmc f).act = s.act := rfl
@[simp] theorem State.modDmc_mem (s : State) (f : Dmc → Dmc) : (s.modDmc f).mem = s.mem := rfl
@[simp] theorem State.modDmc_flash (s : State) (f : Dmc → Dmc) : (s.modDmc f).flash = s.flash := rfl
@[simp] theorem State.modDmc_glb (s : State) (f : Dmc → Dmc) : (s.modDmc f).glb = s.glb := rfl
@[simp] theorem State.modDmc_tmb (s : State) (f : Dmc → Dmc) : (s.modDmc f).tmb = s.tmb := rfl
@[simp] theorem State.modDmc_slk (s : State) (f : Dmc → Dmc) : (s.modDmc f).slk = s.slk := rfl
@[simp] theorem State.modDmc_sxq (s : State) (f : Dmc → Dmc) : (s.modDmc f).sxq = s.sxq := rfl
@[simp] theorem State.modDmc_red (s : State) (f : Dmc → Dmc) : (s.modDmc f).red = s.red := rfl
@[simp] theorem State.modDmc_src (s : State) (f : Dmc → Dmc) : (s.modDmc f).src = s.src := rfl
@[simp] theorem State.modDmc_cmp (s : State) (f : Dmc → Dmc) : (s.modDmc f).cmp = s.cmp := rfl
@[simp] theorem State.modDmc_scn (s : State) (f : Dmc → Dmc) : (s.modDmc f).scn = s.scn := rfl
@[simp] theorem State.modDmc_cor (s : State) (f : Dmc → Dmc) : (s.modDmc f).cor = s.cor := rfl
@[simp] theorem State.modDmc_fur (s : State) (f : Dmc → Dmc) : (s.modDmc f).fur = s.fur := rfl
@[simp] theorem State.modDmc_lmp (s : State) (f : Dmc → Dmc) : (s.modDmc f).lmp = s.lmp := rfl
@[simp] theorem State.modDmc_cal (s : State) (f : Dmc → Dmc) : (s.modDmc f).cal = s.cal := rfl
@[simp] theorem State.modDmc_aud (s : State) (f : Dmc → Dmc) : (s.modDmc f).aud = s.aud := rfl
@[simp] theorem State.modDmc_mec (s : State) (f : Dmc → Dmc) : (s.modDmc f).mec = s.mec := rfl
@[simp] theorem State.modDmc_hkp (s : State) (f : Dmc → Dmc) : (s.modDmc f).hkp = s.hkp := rfl
@[simp] theorem State.modDmc_evt (s : State) (f : Dmc → Dmc) : (s.modDmc f).evt = s.evt := rfl
@[simp] theorem State.modDmc_boot (s : State) (f : Dmc → Dmc) : (s.modDmc f).boot = s.boot := rfl
@[simp] theorem State.modDmc_pci (s : State) (f : Dmc → Dmc) : (s.modDmc f).pci = s.pci := rfl
@[simp] theorem State.modDmc_mge (s : State) (f : Dmc → Dmc) : (s.modDmc f).mge = s.mge := rfl
@[simp] theorem State.modDmc_mon (s : State) (f : Dmc → Dmc) : (s.modDmc f).mon = s.mon := rfl
@[simp] theorem State.modDmc_dmc (s : State) (f : Dmc → Dmc) : (s.modDmc f).dmc = f s.dmc := rfl

@[simp] theorem State.modMge_pending (s : State) (f : Mge → Mge) : (s.modMge f).pending = s.pending := rfl
@[simp] theorem State.modMge_freeCtr (s : State) (f : Mge → Mge) : (s.modMge f).freeCtr = s.freeCtr := rfl
@[simp] theorem State.modMge_out (s : State) (f : Mge → Mge) : (s.modMge f).out = s.out := rfl
@[simp] theorem State.modMge_regs (s : State) (f : Mge → Mge) : (s.modMge f).regs = s.regs := rfl
@[simp] theorem State.modMge_act (s : State) (f : Mge → Mge) : (s.modMge f).act = s.act := rfl
@[simp] theorem State.modMge_mem (s : State) (f : Mge → Mge) : (s.modMge f).mem = s.mem := rfl
@[simp] theorem State.modMge_flash (s : State) (f : Mge → Mge) : (s.modMge f).flash = s.flash := rfl
@[simp] theorem State.modMge_glb (s : State) (f : Mge → Mge) : (s.modMge f).glb = s.glb := rfl
@[simp] theorem State.modMge_tmb (s : State) (f : Mge → Mge) : (s.modMge f).tmb = s.tmb := rfl
@[simp] theorem State.modMge_slk (s : State) (f : Mge → Mge) : (s.modMge f).slk = s.slk := rfl
@[simp] theorem State.modMge_sxq (s : State) (f : Mge → Mge) : (s.modMge f).sxq = s.sxq := rfl
@[simp] theorem State.modMge_red (s : State) (f : Mge → Mge) : (s.modMge f).red = s.red := rfl
@[simp] theorem State.modMge_src (s : State) (f : Mge → Mge) : (s.modMge f).src = s.src := rfl
@[simp] theorem State.modMge_cmp (s : State) (f : Mge → Mge) : (s.modMge f).cmp = s.cmp := rfl
@[simp] theorem State.modMge_scn (s : State) (f : Mge → Mge) : (s.modMge f).scn = s.scn := rfl
@[simp] theorem State.modMge_cor (s : State) (f : Mge → Mge) : (s.modMge f).cor = s.cor := rfl
@[simp] theorem State.modMge_fur (s : State) (f : Mge → Mge) : (s.modMge f).fur = s.fur := rfl
@[simp] theorem State.modMge_lmp (s : State) (f : Mge → Mge) : (s.modMge f).lmp = s.lmp := rfl
@[simp] theorem State.modMge_cal (s : State) (f : Mge → Mge) : (s.modMge f).cal = s.cal := rfl
@[simp] theorem State.modMge_aud (s : State) (f : Mge → Mge) : (s.modMge f).aud = s.aud := rfl
@[simp] theorem State.modMge_dmc (s : State) (f : Mge → Mge) : (s.modMge f).dmc = s.dmc := rfl
@[simp] theorem State.modMge_mec (s : State) (f : Mge → Mge) : (s.modMge f).mec = s.mec := rfl
@[simp] theorem State.modMge_hkp (s : State) (f : Mge → Mge) : (s.modMge f).hkp = s.hkp := rfl
@[simp] theorem State.modMge_evt (s : State) (f : Mge → Mge) : (s.modMge f).evt = s.evt := rfl
@[simp] theorem State.modMge_boot (s : State) (f : Mge → Mge) : (s.modMge f).boot = s.boot := rfl
@[simp] theorem State.modMge_pci (s : State) (f : Mge → Mge) : (s.modMge f).pci = s.pci := rfl
@[simp] theorem State.modMge_mon (s : State) (f : Mge → Mge) : (s.modMge f).mon = s.mon := rfl
@[simp] theorem State.modMge_mge (s : State) (f : Mge → Mge) : (s.modMge f).mge = f s.mge := rfl

@[simp] theorem State.modPci_pending (s : State) (f : Pci → Pci) : (s.modPci f).pending = s.pending := rfl
@[simp] theorem State.modPci_freeCtr (s : State) (f : Pci → Pci) : (s.modPci f).freeCtr = s.freeCtr := rfl
@[simp] theorem State.modPci_out (s : State) (f : Pci → Pci) : (s.modPci f).out = s.out := rfl
@[simp] theorem State.modPci_regs (s : State) (f : Pci → Pci) : (s.modPci f).regs = s.regs := rfl
@[simp] theorem State.modPci_act (s : State) (f : Pci → Pci) : (s.modPci f).act = s.act := rfl
@[simp] theorem State.modPci_mem (s : State) (f : Pci → Pci) : (s.modPci f).mem = s.mem := rfl
@[simp] theorem State.modPci_flash (s : State) (f : Pci → Pci) : (s.modPci f).flash = s.flash := rfl
@[simp] theorem State.modPci_glb (s : State) (f : Pci → Pci) : (s.modPci f).glb = s.glb := rfl
@[simp] theorem State.modPci_tmb (s : State) (f : Pci → Pci) : (s.modPci f).tmb = s.tmb := rfl
@[simp] theorem State.modPci_slk (s : State) (f : Pci → Pci) : (s.modPci f).slk = s.slk := rfl
@[simp] theorem State.modPci_sxq (s : State) (f : Pci → Pci) : (s.modPci f).sxq = s.sxq := rfl
@[simp] theorem State.modPci_red (s : State) (f : Pci → Pci) : (s.modPci f).red = s.red := rfl
@[simp] theorem State.modPci_src (s : State) (f : Pci → Pci) : (s.modPci f).src = s.src := rfl
@[simp] theorem State.modPci_cmp (s : State) (f : Pci → Pci) : (s.modPci f).cmp = s.cmp := rfl
@[simp] theorem State.modPci_scn (s : State) (f : Pci → Pci) : (s.modPci f).scn = s.scn := rfl
@[simp] theorem State.modPci_cor (s : State) (f : Pci → Pci) : (s.modPci f).cor = s.cor := rfl
@[simp] theorem State.modPci_fur (s : State) (f : Pci → Pci) : (s.modPci f).fur = s.fur := rfl
@[simp] theorem State.modPci_lmp (s : State) (f : Pci → Pci) : (s.modPci f).lmp = s.lmp := rfl
@[simp] theorem State.modPci_cal (s : State) (f : Pci → Pci) : (s.modPci f).cal = s.cal := rfl
@[simp] theorem State.modPci_aud (s : State) (f : Pci → Pci) : (s.modPci f).aud = s.aud := rfl
@[simp] theorem State.modPci_dmc (s : State) (f : Pci → Pci) : (s.modPci f).dmc = s.dmc := rfl
@[simp] theorem State.modPci_mec (s : State) (f : Pci → Pci) : (s.modPci f).mec = s.mec := rfl
@[simp] theorem State.modPci_hkp (s : State) (f : Pci → Pci) : (s.modPci f).hkp = s.hkp := rfl
@[simp] theorem State.modPci_evt (s : State) (f : Pci → Pci) : (s.modPci f).evt = s.evt := rfl
@[simp] theorem State.modPci_boot (s : State) (f : Pci → Pci) : (s.modPci f).boot = s.boot := rfl
@[simp] theorem State.modPci_mge (s : State) (f : Pci → Pci) : (s.modPci f).mge = s.mge := rfl
@[simp] theorem State.modPci_mon (s : State) (f : Pci → Pci) : (s.modPci f).mon = s.mon := rfl
@[simp] theorem State.modPci_pci (s : State) (f : Pci → Pci) : (s.modPci f).pci = f s.pci := rfl

@[simp] theorem State.modMon_pending (s : State) (f : Mon → Mon) : (s.modMon f).pending = s.pending := rfl
@[simp] theorem State.modMon_freeCtr (s : State) (f : Mon → Mon) : (s.modMon f).freeCtr = s.freeCtr := rfl
@[simp] theorem State.modMon_out (s : State) (f : Mon → Mon) : (s.modMon f).out = s.out := rfl
@[simp] theorem State.modMon_regs (s : State) (f : Mon → Mon) : (s.modMon f).regs = s.regs := rfl
@[simp] theorem State.modMon_act (s : State) (f : Mon → Mon) : (s.modMon f).act = s.act := rfl
@[simp] theorem State.modMon_mem (s : State) (f : Mon → Mon) : (s.modMon f).mem = s.mem := rfl
@[simp] theorem State.modMon_flash (s : State) (f : Mon → Mon) : (s.modMon f).flash = s.flash := rfl
@[simp] theorem State.modMon_glb (s : State) (f : Mon → Mon) : (s.modMon f).glb = s.glb := rfl
@[simp] theorem State.modMon_tmb (s : State) (f : Mon → Mon) : (s.modMon f).tmb = s.tmb := rfl
@[simp] theorem State.modMon_slk (s : State) (f : Mon → Mon) : (s.modMon f).slk = s.slk := rfl
@[simp] theorem State.modMon_sxq (s : State) (f : Mon → Mon) : (s.modMon f).sxq = s.sxq := rfl
@[simp] theorem State.modMon_red (s : State) (f : Mon → Mon) : (s.modMon f).red = s.red := rfl
@[simp] theorem State.modMon_src (s : State) (f : Mon → Mon) : (s.modMon f).src = s.src := rfl
@[simp] theorem State.modMon_cmp (s : State) (f : Mon → Mon) : (s.modMon f).cmp = s.cmp := rfl
@[simp] theorem State.modMon_scn (s : State) (f : Mon → Mon) : (s.modMon f).scn = s.scn := rfl
@[simp] theorem State.modMon_cor (s : State) (f : Mon → Mon) : (s.modMon f).cor = s.cor := rfl
@[simp] theorem State.modMon_fur (s : State) (f : Mon → Mon) : (s.modMon f).fur = s.fur := rfl
@[simp] theorem State.modMon_lmp (s : State) (f : Mon → Mon) : (s.modMon f).lmp = s.lmp := rfl
@[simp] theorem State.modMon_cal (s : State) (f : Mon → Mon) : (s.modMon f).cal = s.cal := rfl
@[simp] theorem State.modMon_aud (s : State) (f : Mon → Mon) : (s.modMon f).aud = s.aud := rfl
@[simp] theorem State.modMon_dmc (s : State) (f : Mon → Mon) : (s.modMon f).dmc = s.dmc := rfl
@[simp] theorem State.modMon_mec (s : State) (f : Mon → Mon) : (s.modMon f).mec = s.mec := rfl
@[simp] theorem State.modMon_hkp (s : State) (f : Mon → Mon) : (s.modMon f).hkp = s.hkp := rfl
@[simp] theorem State.modMon_evt (s : State) (f : Mon → Mon) : (s.modMon f).evt = s.evt := rfl
@[simp] theorem State.modMon_boot (s : State) (f : Mon → Mon) : (s.modMon f).boot = s.boot := rfl
@[simp] theorem State.modMon_pci (s : State) (f : Mon → Mon) : (s.modMon f).pci = s.pci := rfl
@[simp] theorem State.modMon_mge (s : State) (f : Mon → Mon) : (s.modMon f).mge = s.mge := rfl
@[simp] theorem State.modMon_mon (s : State) (f : Mon → Mon) : (s.modMon f).mon = f s.mon := rfl

@[simp] theorem State.wr_byte (s : State) (o : Nat) (v : Word) (z : Nat) : (s.wr o v).byte z = s.byte z := rfl

@[simp] theorem State.wrN_byte (s : State) (o v : Nat) (z : Nat) : (s.wrN o v).byte z = s.byte z := rfl

@[simp] theorem State.setFld_byte (s : State) (o hi lo v : Nat) (z : Nat) : (s.setFld o hi lo v).byte z = s.byte z := rfl

@[simp] theorem State.setBit_byte (s : State) (o i : Nat) (b : Bool) (z : Nat) : (s.setBit o i b).byte z = s.byte z := rfl

@[simp] theorem State.inc_byte (s : State) (o n : Nat) (z : Nat) : (s.inc o n).byte z = s.byte z := rfl

@[simp] theorem State.incFld_byte (s : State) (o hi lo n : Nat) (z : Nat) : (s.incFld o hi lo n).byte z = s.byte z := rfl

@[simp] theorem State.bump_byte (s : State) (o n : Nat) (z : Nat) : (s.bump o n).byte z = s.byte z := rfl

@[simp] theorem State.unbump_byte (s : State) (o n : Nat) (z : Nat) : (s.unbump o n).byte z = s.byte z := rfl

@[simp] theorem State.bumpFld_byte (s : State) (o hi lo v : Nat) (z : Nat) : (s.bumpFld o hi lo v).byte z = s.byte z := rfl

@[simp] theorem State.wr64_byte (s : State) (o v : Nat) (z : Nat) : (s.wr64 o v).byte z = s.byte z := rfl

@[simp] theorem State.wrA_rd (s : State) (o : Nat) (v : Word) (z : Nat) : (s.wrA o v).rd z = s.rd z := rfl
@[simp] theorem State.wrA_fld (s : State) (o : Nat) (v : Word) (z h l : Nat) : (s.wrA o v).fld z h l = s.fld z h l := rfl
@[simp] theorem State.wrA_bit (s : State) (o : Nat) (v : Word) (z j : Nat) : (s.wrA o v).bit z j = s.bit z j := rfl
@[simp] theorem State.wrA_byte (s : State) (o : Nat) (v : Word) (z : Nat) : (s.wrA o v).byte z = s.byte z := rfl

@[simp] theorem State.setByte_rd (s : State) (a : Nat) (b : Byte) (z : Nat) : (s.setByte a b).rd z = s.rd z := rfl
@[simp] theorem State.setByte_fld (s : State) (a : Nat) (b : Byte) (z h l : Nat) : (s.setByte a b).fld z h l = s.fld z h l := rfl
@[simp] theorem State.setByte_bit (s : State) (a : Nat) (b : Byte) (z j : Nat) : (s.setByte a b).bit z j = s.bit z j := rfl
@[simp] theorem State.setByte_rdA (s : State) (a : Nat) (b : Byte) (z : Nat) : (s.setByte a b).rdA z = s.rdA z := rfl
@[simp] theorem State.setByte_fldA (s : State) (a : Nat) (b : Byte) (z h l : Nat) : (s.setByte a b).fldA z h l = s.fldA z h l := rfl
@[simp] theorem State.setByte_bitA (s : State) (a : Nat) (b : Byte) (z j : Nat) : (s.setByte a b).bitA z j = s.bitA z j := rfl

@[simp] theorem State.emit_rd (s : State) (o : Output) (z : Nat) : (s.emit o).rd z = s.rd z := rfl
@[simp] theorem State.emit_fld (s : State) (o : Output) (z h l : Nat) : (s.emit o).fld z h l = s.fld z h l := rfl
@[simp] theorem State.emit_bit (s : State) (o : Output) (z j : Nat) : (s.emit o).bit z j = s.bit z j := rfl
@[simp] theorem State.emit_rdA (s : State) (o : Output) (z : Nat) : (s.emit o).rdA z = s.rdA z := rfl
@[simp] theorem State.emit_fldA (s : State) (o : Output) (z h l : Nat) : (s.emit o).fldA z h l = s.fldA z h l := rfl
@[simp] theorem State.emit_bitA (s : State) (o : Output) (z j : Nat) : (s.emit o).bitA z j = s.bitA z j := rfl
@[simp] theorem State.emit_byte (s : State) (o : Output) (z : Nat) : (s.emit o).byte z = s.byte z := rfl

@[simp] theorem State.modSlk_rd (s : State) (p : Port) (f : SlkPort → SlkPort) (z : Nat) : (s.modSlk p f).rd z = s.rd z := rfl
@[simp] theorem State.modSlk_fld (s : State) (p : Port) (f : SlkPort → SlkPort) (z h l : Nat) : (s.modSlk p f).fld z h l = s.fld z h l := rfl
@[simp] theorem State.modSlk_bit (s : State) (p : Port) (f : SlkPort → SlkPort) (z j : Nat) : (s.modSlk p f).bit z j = s.bit z j := rfl
@[simp] theorem State.modSlk_rdA (s : State) (p : Port) (f : SlkPort → SlkPort) (z : Nat) : (s.modSlk p f).rdA z = s.rdA z := rfl
@[simp] theorem State.modSlk_fldA (s : State) (p : Port) (f : SlkPort → SlkPort) (z h l : Nat) : (s.modSlk p f).fldA z h l = s.fldA z h l := rfl
@[simp] theorem State.modSlk_bitA (s : State) (p : Port) (f : SlkPort → SlkPort) (z j : Nat) : (s.modSlk p f).bitA z j = s.bitA z j := rfl
@[simp] theorem State.modSlk_byte (s : State) (p : Port) (f : SlkPort → SlkPort) (z : Nat) : (s.modSlk p f).byte z = s.byte z := rfl

@[simp] theorem State.modRoll_rd (s : State) (p : Port) (f : PortRoll → PortRoll) (z : Nat) : (s.modRoll p f).rd z = s.rd z := rfl
@[simp] theorem State.modRoll_fld (s : State) (p : Port) (f : PortRoll → PortRoll) (z h l : Nat) : (s.modRoll p f).fld z h l = s.fld z h l := rfl
@[simp] theorem State.modRoll_bit (s : State) (p : Port) (f : PortRoll → PortRoll) (z j : Nat) : (s.modRoll p f).bit z j = s.bit z j := rfl
@[simp] theorem State.modRoll_rdA (s : State) (p : Port) (f : PortRoll → PortRoll) (z : Nat) : (s.modRoll p f).rdA z = s.rdA z := rfl
@[simp] theorem State.modRoll_fldA (s : State) (p : Port) (f : PortRoll → PortRoll) (z h l : Nat) : (s.modRoll p f).fldA z h l = s.fldA z h l := rfl
@[simp] theorem State.modRoll_bitA (s : State) (p : Port) (f : PortRoll → PortRoll) (z j : Nat) : (s.modRoll p f).bitA z j = s.bitA z j := rfl
@[simp] theorem State.modRoll_byte (s : State) (p : Port) (f : PortRoll → PortRoll) (z : Nat) : (s.modRoll p f).byte z = s.byte z := rfl

@[simp] theorem State.setReserved_rd (s : State) (q n : Nat) (z : Nat) : (s.setReserved q n).rd z = s.rd z := rfl
@[simp] theorem State.setReserved_fld (s : State) (q n : Nat) (z h l : Nat) : (s.setReserved q n).fld z h l = s.fld z h l := rfl
@[simp] theorem State.setReserved_bit (s : State) (q n : Nat) (z j : Nat) : (s.setReserved q n).bit z j = s.bit z j := rfl
@[simp] theorem State.setReserved_rdA (s : State) (q n : Nat) (z : Nat) : (s.setReserved q n).rdA z = s.rdA z := rfl
@[simp] theorem State.setReserved_fldA (s : State) (q n : Nat) (z h l : Nat) : (s.setReserved q n).fldA z h l = s.fldA z h l := rfl
@[simp] theorem State.setReserved_bitA (s : State) (q n : Nat) (z j : Nat) : (s.setReserved q n).bitA z j = s.bitA z j := rfl
@[simp] theorem State.setReserved_byte (s : State) (q n : Nat) (z : Nat) : (s.setReserved q n).byte z = s.byte z := rfl

@[simp] theorem State.modRed_rd (s : State) (p : Port) (f : RedPort → RedPort) (z : Nat) : (s.modRed p f).rd z = s.rd z := rfl
@[simp] theorem State.modRed_fld (s : State) (p : Port) (f : RedPort → RedPort) (z h l : Nat) : (s.modRed p f).fld z h l = s.fld z h l := rfl
@[simp] theorem State.modRed_bit (s : State) (p : Port) (f : RedPort → RedPort) (z j : Nat) : (s.modRed p f).bit z j = s.bit z j := rfl
@[simp] theorem State.modRed_rdA (s : State) (p : Port) (f : RedPort → RedPort) (z : Nat) : (s.modRed p f).rdA z = s.rdA z := rfl
@[simp] theorem State.modRed_fldA (s : State) (p : Port) (f : RedPort → RedPort) (z h l : Nat) : (s.modRed p f).fldA z h l = s.fldA z h l := rfl
@[simp] theorem State.modRed_bitA (s : State) (p : Port) (f : RedPort → RedPort) (z j : Nat) : (s.modRed p f).bitA z j = s.bitA z j := rfl
@[simp] theorem State.modRed_byte (s : State) (p : Port) (f : RedPort → RedPort) (z : Nat) : (s.modRed p f).byte z = s.byte z := rfl

@[simp] theorem State.modSlot_rd (s : State) (i : Fin 16) (f : StreamSlot → StreamSlot) (z : Nat) : (s.modSlot i f).rd z = s.rd z := rfl
@[simp] theorem State.modSlot_fld (s : State) (i : Fin 16) (f : StreamSlot → StreamSlot) (z h l : Nat) : (s.modSlot i f).fld z h l = s.fld z h l := rfl
@[simp] theorem State.modSlot_bit (s : State) (i : Fin 16) (f : StreamSlot → StreamSlot) (z j : Nat) : (s.modSlot i f).bit z j = s.bit z j := rfl
@[simp] theorem State.modSlot_rdA (s : State) (i : Fin 16) (f : StreamSlot → StreamSlot) (z : Nat) : (s.modSlot i f).rdA z = s.rdA z := rfl
@[simp] theorem State.modSlot_fldA (s : State) (i : Fin 16) (f : StreamSlot → StreamSlot) (z h l : Nat) : (s.modSlot i f).fldA z h l = s.fldA z h l := rfl
@[simp] theorem State.modSlot_bitA (s : State) (i : Fin 16) (f : StreamSlot → StreamSlot) (z j : Nat) : (s.modSlot i f).bitA z j = s.bitA z j := rfl
@[simp] theorem State.modSlot_byte (s : State) (i : Fin 16) (f : StreamSlot → StreamSlot) (z : Nat) : (s.modSlot i f).byte z = s.byte z := rfl

@[simp] theorem State.modTb_rd (s : State) (n : TbIx) (f : Tb → Tb) (z : Nat) : (s.modTb n f).rd z = s.rd z := rfl
@[simp] theorem State.modTb_fld (s : State) (n : TbIx) (f : Tb → Tb) (z h l : Nat) : (s.modTb n f).fld z h l = s.fld z h l := rfl
@[simp] theorem State.modTb_bit (s : State) (n : TbIx) (f : Tb → Tb) (z j : Nat) : (s.modTb n f).bit z j = s.bit z j := rfl
@[simp] theorem State.modTb_rdA (s : State) (n : TbIx) (f : Tb → Tb) (z : Nat) : (s.modTb n f).rdA z = s.rdA z := rfl
@[simp] theorem State.modTb_fldA (s : State) (n : TbIx) (f : Tb → Tb) (z h l : Nat) : (s.modTb n f).fldA z h l = s.fldA z h l := rfl
@[simp] theorem State.modTb_bitA (s : State) (n : TbIx) (f : Tb → Tb) (z j : Nat) : (s.modTb n f).bitA z j = s.bitA z j := rfl
@[simp] theorem State.modTb_byte (s : State) (n : TbIx) (f : Tb → Tb) (z : Nat) : (s.modTb n f).byte z = s.byte z := rfl

@[simp] theorem State.modSource_rd (s : State) (n : Fin 16) (f : Source → Source) (z : Nat) : (s.modSource n f).rd z = s.rd z := rfl
@[simp] theorem State.modSource_fld (s : State) (n : Fin 16) (f : Source → Source) (z h l : Nat) : (s.modSource n f).fld z h l = s.fld z h l := rfl
@[simp] theorem State.modSource_bit (s : State) (n : Fin 16) (f : Source → Source) (z j : Nat) : (s.modSource n f).bit z j = s.bit z j := rfl
@[simp] theorem State.modSource_rdA (s : State) (n : Fin 16) (f : Source → Source) (z : Nat) : (s.modSource n f).rdA z = s.rdA z := rfl
@[simp] theorem State.modSource_fldA (s : State) (n : Fin 16) (f : Source → Source) (z h l : Nat) : (s.modSource n f).fldA z h l = s.fldA z h l := rfl
@[simp] theorem State.modSource_bitA (s : State) (n : Fin 16) (f : Source → Source) (z j : Nat) : (s.modSource n f).bitA z j = s.bitA z j := rfl
@[simp] theorem State.modSource_byte (s : State) (n : Fin 16) (f : Source → Source) (z : Nat) : (s.modSource n f).byte z = s.byte z := rfl

@[simp] theorem State.modLoaf_rd (s : State) (f : Loaf → Loaf) (z : Nat) : (s.modLoaf f).rd z = s.rd z := rfl
@[simp] theorem State.modLoaf_fld (s : State) (f : Loaf → Loaf) (z h l : Nat) : (s.modLoaf f).fld z h l = s.fld z h l := rfl
@[simp] theorem State.modLoaf_bit (s : State) (f : Loaf → Loaf) (z j : Nat) : (s.modLoaf f).bit z j = s.bit z j := rfl
@[simp] theorem State.modLoaf_rdA (s : State) (f : Loaf → Loaf) (z : Nat) : (s.modLoaf f).rdA z = s.rdA z := rfl
@[simp] theorem State.modLoaf_fldA (s : State) (f : Loaf → Loaf) (z h l : Nat) : (s.modLoaf f).fldA z h l = s.fldA z h l := rfl
@[simp] theorem State.modLoaf_bitA (s : State) (f : Loaf → Loaf) (z j : Nat) : (s.modLoaf f).bitA z j = s.bitA z j := rfl
@[simp] theorem State.modLoaf_byte (s : State) (f : Loaf → Loaf) (z : Nat) : (s.modLoaf f).byte z = s.byte z := rfl

@[simp] theorem State.modCor_rd (s : State) (f : Cor → Cor) (z : Nat) : (s.modCor f).rd z = s.rd z := rfl
@[simp] theorem State.modCor_fld (s : State) (f : Cor → Cor) (z h l : Nat) : (s.modCor f).fld z h l = s.fld z h l := rfl
@[simp] theorem State.modCor_bit (s : State) (f : Cor → Cor) (z j : Nat) : (s.modCor f).bit z j = s.bit z j := rfl
@[simp] theorem State.modCor_rdA (s : State) (f : Cor → Cor) (z : Nat) : (s.modCor f).rdA z = s.rdA z := rfl
@[simp] theorem State.modCor_fldA (s : State) (f : Cor → Cor) (z h l : Nat) : (s.modCor f).fldA z h l = s.fldA z h l := rfl
@[simp] theorem State.modCor_bitA (s : State) (f : Cor → Cor) (z j : Nat) : (s.modCor f).bitA z j = s.bitA z j := rfl
@[simp] theorem State.modCor_byte (s : State) (f : Cor → Cor) (z : Nat) : (s.modCor f).byte z = s.byte z := rfl

@[simp] theorem State.modFur_rd (s : State) (f : Fur → Fur) (z : Nat) : (s.modFur f).rd z = s.rd z := rfl
@[simp] theorem State.modFur_fld (s : State) (f : Fur → Fur) (z h l : Nat) : (s.modFur f).fld z h l = s.fld z h l := rfl
@[simp] theorem State.modFur_bit (s : State) (f : Fur → Fur) (z j : Nat) : (s.modFur f).bit z j = s.bit z j := rfl
@[simp] theorem State.modFur_rdA (s : State) (f : Fur → Fur) (z : Nat) : (s.modFur f).rdA z = s.rdA z := rfl
@[simp] theorem State.modFur_fldA (s : State) (f : Fur → Fur) (z h l : Nat) : (s.modFur f).fldA z h l = s.fldA z h l := rfl
@[simp] theorem State.modFur_bitA (s : State) (f : Fur → Fur) (z j : Nat) : (s.modFur f).bitA z j = s.bitA z j := rfl
@[simp] theorem State.modFur_byte (s : State) (f : Fur → Fur) (z : Nat) : (s.modFur f).byte z = s.byte z := rfl

@[simp] theorem State.modLmp_rd (s : State) (f : Lmp → Lmp) (z : Nat) : (s.modLmp f).rd z = s.rd z := rfl
@[simp] theorem State.modLmp_fld (s : State) (f : Lmp → Lmp) (z h l : Nat) : (s.modLmp f).fld z h l = s.fld z h l := rfl
@[simp] theorem State.modLmp_bit (s : State) (f : Lmp → Lmp) (z j : Nat) : (s.modLmp f).bit z j = s.bit z j := rfl
@[simp] theorem State.modLmp_rdA (s : State) (f : Lmp → Lmp) (z : Nat) : (s.modLmp f).rdA z = s.rdA z := rfl
@[simp] theorem State.modLmp_fldA (s : State) (f : Lmp → Lmp) (z h l : Nat) : (s.modLmp f).fldA z h l = s.fldA z h l := rfl
@[simp] theorem State.modLmp_bitA (s : State) (f : Lmp → Lmp) (z j : Nat) : (s.modLmp f).bitA z j = s.bitA z j := rfl
@[simp] theorem State.modLmp_byte (s : State) (f : Lmp → Lmp) (z : Nat) : (s.modLmp f).byte z = s.byte z := rfl

@[simp] theorem State.modCal_rd (s : State) (f : Cal → Cal) (z : Nat) : (s.modCal f).rd z = s.rd z := rfl
@[simp] theorem State.modCal_fld (s : State) (f : Cal → Cal) (z h l : Nat) : (s.modCal f).fld z h l = s.fld z h l := rfl
@[simp] theorem State.modCal_bit (s : State) (f : Cal → Cal) (z j : Nat) : (s.modCal f).bit z j = s.bit z j := rfl
@[simp] theorem State.modCal_rdA (s : State) (f : Cal → Cal) (z : Nat) : (s.modCal f).rdA z = s.rdA z := rfl
@[simp] theorem State.modCal_fldA (s : State) (f : Cal → Cal) (z h l : Nat) : (s.modCal f).fldA z h l = s.fldA z h l := rfl
@[simp] theorem State.modCal_bitA (s : State) (f : Cal → Cal) (z j : Nat) : (s.modCal f).bitA z j = s.bitA z j := rfl
@[simp] theorem State.modCal_byte (s : State) (f : Cal → Cal) (z : Nat) : (s.modCal f).byte z = s.byte z := rfl

@[simp] theorem State.modAud_rd (s : State) (f : Aud → Aud) (z : Nat) : (s.modAud f).rd z = s.rd z := rfl
@[simp] theorem State.modAud_fld (s : State) (f : Aud → Aud) (z h l : Nat) : (s.modAud f).fld z h l = s.fld z h l := rfl
@[simp] theorem State.modAud_bit (s : State) (f : Aud → Aud) (z j : Nat) : (s.modAud f).bit z j = s.bit z j := rfl
@[simp] theorem State.modAud_rdA (s : State) (f : Aud → Aud) (z : Nat) : (s.modAud f).rdA z = s.rdA z := rfl
@[simp] theorem State.modAud_fldA (s : State) (f : Aud → Aud) (z h l : Nat) : (s.modAud f).fldA z h l = s.fldA z h l := rfl
@[simp] theorem State.modAud_bitA (s : State) (f : Aud → Aud) (z j : Nat) : (s.modAud f).bitA z j = s.bitA z j := rfl
@[simp] theorem State.modAud_byte (s : State) (f : Aud → Aud) (z : Nat) : (s.modAud f).byte z = s.byte z := rfl

@[simp] theorem State.modGrp_rd (s : State) (g : Fin 2) (f : DmcGroup → DmcGroup) (z : Nat) : (s.modGrp g f).rd z = s.rd z := rfl
@[simp] theorem State.modGrp_fld (s : State) (g : Fin 2) (f : DmcGroup → DmcGroup) (z h l : Nat) : (s.modGrp g f).fld z h l = s.fld z h l := rfl
@[simp] theorem State.modGrp_bit (s : State) (g : Fin 2) (f : DmcGroup → DmcGroup) (z j : Nat) : (s.modGrp g f).bit z j = s.bit z j := rfl
@[simp] theorem State.modGrp_rdA (s : State) (g : Fin 2) (f : DmcGroup → DmcGroup) (z : Nat) : (s.modGrp g f).rdA z = s.rdA z := rfl
@[simp] theorem State.modGrp_fldA (s : State) (g : Fin 2) (f : DmcGroup → DmcGroup) (z h l : Nat) : (s.modGrp g f).fldA z h l = s.fldA z h l := rfl
@[simp] theorem State.modGrp_bitA (s : State) (g : Fin 2) (f : DmcGroup → DmcGroup) (z j : Nat) : (s.modGrp g f).bitA z j = s.bitA z j := rfl
@[simp] theorem State.modGrp_byte (s : State) (g : Fin 2) (f : DmcGroup → DmcGroup) (z : Nat) : (s.modGrp g f).byte z = s.byte z := rfl

@[simp] theorem State.modMec_rd (s : State) (f : Mec → Mec) (z : Nat) : (s.modMec f).rd z = s.rd z := rfl
@[simp] theorem State.modMec_fld (s : State) (f : Mec → Mec) (z h l : Nat) : (s.modMec f).fld z h l = s.fld z h l := rfl
@[simp] theorem State.modMec_bit (s : State) (f : Mec → Mec) (z j : Nat) : (s.modMec f).bit z j = s.bit z j := rfl
@[simp] theorem State.modMec_rdA (s : State) (f : Mec → Mec) (z : Nat) : (s.modMec f).rdA z = s.rdA z := rfl
@[simp] theorem State.modMec_fldA (s : State) (f : Mec → Mec) (z h l : Nat) : (s.modMec f).fldA z h l = s.fldA z h l := rfl
@[simp] theorem State.modMec_bitA (s : State) (f : Mec → Mec) (z j : Nat) : (s.modMec f).bitA z j = s.bitA z j := rfl
@[simp] theorem State.modMec_byte (s : State) (f : Mec → Mec) (z : Nat) : (s.modMec f).byte z = s.byte z := rfl

@[simp] theorem State.modHkp_rd (s : State) (f : Hkp → Hkp) (z : Nat) : (s.modHkp f).rd z = s.rd z := rfl
@[simp] theorem State.modHkp_fld (s : State) (f : Hkp → Hkp) (z h l : Nat) : (s.modHkp f).fld z h l = s.fld z h l := rfl
@[simp] theorem State.modHkp_bit (s : State) (f : Hkp → Hkp) (z j : Nat) : (s.modHkp f).bit z j = s.bit z j := rfl
@[simp] theorem State.modHkp_rdA (s : State) (f : Hkp → Hkp) (z : Nat) : (s.modHkp f).rdA z = s.rdA z := rfl
@[simp] theorem State.modHkp_fldA (s : State) (f : Hkp → Hkp) (z h l : Nat) : (s.modHkp f).fldA z h l = s.fldA z h l := rfl
@[simp] theorem State.modHkp_bitA (s : State) (f : Hkp → Hkp) (z j : Nat) : (s.modHkp f).bitA z j = s.bitA z j := rfl
@[simp] theorem State.modHkp_byte (s : State) (f : Hkp → Hkp) (z : Nat) : (s.modHkp f).byte z = s.byte z := rfl

@[simp] theorem State.modEvt_rd (s : State) (f : Evt → Evt) (z : Nat) : (s.modEvt f).rd z = s.rd z := rfl
@[simp] theorem State.modEvt_fld (s : State) (f : Evt → Evt) (z h l : Nat) : (s.modEvt f).fld z h l = s.fld z h l := rfl
@[simp] theorem State.modEvt_bit (s : State) (f : Evt → Evt) (z j : Nat) : (s.modEvt f).bit z j = s.bit z j := rfl
@[simp] theorem State.modEvt_rdA (s : State) (f : Evt → Evt) (z : Nat) : (s.modEvt f).rdA z = s.rdA z := rfl
@[simp] theorem State.modEvt_fldA (s : State) (f : Evt → Evt) (z h l : Nat) : (s.modEvt f).fldA z h l = s.fldA z h l := rfl
@[simp] theorem State.modEvt_bitA (s : State) (f : Evt → Evt) (z j : Nat) : (s.modEvt f).bitA z j = s.bitA z j := rfl
@[simp] theorem State.modEvt_byte (s : State) (f : Evt → Evt) (z : Nat) : (s.modEvt f).byte z = s.byte z := rfl

@[simp] theorem State.modBoot_rd (s : State) (f : Boot → Boot) (z : Nat) : (s.modBoot f).rd z = s.rd z := rfl
@[simp] theorem State.modBoot_fld (s : State) (f : Boot → Boot) (z h l : Nat) : (s.modBoot f).fld z h l = s.fld z h l := rfl
@[simp] theorem State.modBoot_bit (s : State) (f : Boot → Boot) (z j : Nat) : (s.modBoot f).bit z j = s.bit z j := rfl
@[simp] theorem State.modBoot_rdA (s : State) (f : Boot → Boot) (z : Nat) : (s.modBoot f).rdA z = s.rdA z := rfl
@[simp] theorem State.modBoot_fldA (s : State) (f : Boot → Boot) (z h l : Nat) : (s.modBoot f).fldA z h l = s.fldA z h l := rfl
@[simp] theorem State.modBoot_bitA (s : State) (f : Boot → Boot) (z j : Nat) : (s.modBoot f).bitA z j = s.bitA z j := rfl
@[simp] theorem State.modBoot_byte (s : State) (f : Boot → Boot) (z : Nat) : (s.modBoot f).byte z = s.byte z := rfl

@[simp] theorem State.setFlash_rd (s : State) (a : Nat) (b : Byte) (z : Nat) : (s.setFlash a b).rd z = s.rd z := rfl
@[simp] theorem State.setFlash_fld (s : State) (a : Nat) (b : Byte) (z h l : Nat) : (s.setFlash a b).fld z h l = s.fld z h l := rfl
@[simp] theorem State.setFlash_bit (s : State) (a : Nat) (b : Byte) (z j : Nat) : (s.setFlash a b).bit z j = s.bit z j := rfl
@[simp] theorem State.setFlash_rdA (s : State) (a : Nat) (b : Byte) (z : Nat) : (s.setFlash a b).rdA z = s.rdA z := rfl
@[simp] theorem State.setFlash_fldA (s : State) (a : Nat) (b : Byte) (z h l : Nat) : (s.setFlash a b).fldA z h l = s.fldA z h l := rfl
@[simp] theorem State.setFlash_bitA (s : State) (a : Nat) (b : Byte) (z j : Nat) : (s.setFlash a b).bitA z j = s.bitA z j := rfl
@[simp] theorem State.setFlash_byte (s : State) (a : Nat) (b : Byte) (z : Nat) : (s.setFlash a b).byte z = s.byte z := rfl

@[simp] theorem State.keepRegs_byte (s : State) (p : Nat → Bool) (z : Nat) : (s.keepRegs p).byte z = s.byte z := rfl

@[simp] theorem State.keepMem_rd (s : State) (p : Nat → Bool) (z : Nat) : (s.keepMem p).rd z = s.rd z := rfl
@[simp] theorem State.keepMem_fld (s : State) (p : Nat → Bool) (z h l : Nat) : (s.keepMem p).fld z h l = s.fld z h l := rfl
@[simp] theorem State.keepMem_bit (s : State) (p : Nat → Bool) (z j : Nat) : (s.keepMem p).bit z j = s.bit z j := rfl
@[simp] theorem State.keepMem_rdA (s : State) (p : Nat → Bool) (z : Nat) : (s.keepMem p).rdA z = s.rdA z := rfl
@[simp] theorem State.keepMem_fldA (s : State) (p : Nat → Bool) (z h l : Nat) : (s.keepMem p).fldA z h l = s.fldA z h l := rfl
@[simp] theorem State.keepMem_bitA (s : State) (p : Nat → Bool) (z j : Nat) : (s.keepMem p).bitA z j = s.bitA z j := rfl

@[simp] theorem State.keepFlash_rd (s : State) (p : Nat → Bool) (z : Nat) : (s.keepFlash p).rd z = s.rd z := rfl
@[simp] theorem State.keepFlash_fld (s : State) (p : Nat → Bool) (z h l : Nat) : (s.keepFlash p).fld z h l = s.fld z h l := rfl
@[simp] theorem State.keepFlash_bit (s : State) (p : Nat → Bool) (z j : Nat) : (s.keepFlash p).bit z j = s.bit z j := rfl
@[simp] theorem State.keepFlash_rdA (s : State) (p : Nat → Bool) (z : Nat) : (s.keepFlash p).rdA z = s.rdA z := rfl
@[simp] theorem State.keepFlash_fldA (s : State) (p : Nat → Bool) (z h l : Nat) : (s.keepFlash p).fldA z h l = s.fldA z h l := rfl
@[simp] theorem State.keepFlash_bitA (s : State) (p : Nat → Bool) (z j : Nat) : (s.keepFlash p).bitA z j = s.bitA z j := rfl
@[simp] theorem State.keepFlash_byte (s : State) (p : Nat → Bool) (z : Nat) : (s.keepFlash p).byte z = s.byte z := rfl

@[simp] theorem State.modGlb_rd (s : State) (f : Glb → Glb) (z : Nat) : (s.modGlb f).rd z = s.rd z := rfl
@[simp] theorem State.modGlb_fld (s : State) (f : Glb → Glb) (z h l : Nat) : (s.modGlb f).fld z h l = s.fld z h l := rfl
@[simp] theorem State.modGlb_bit (s : State) (f : Glb → Glb) (z j : Nat) : (s.modGlb f).bit z j = s.bit z j := rfl
@[simp] theorem State.modGlb_rdA (s : State) (f : Glb → Glb) (z : Nat) : (s.modGlb f).rdA z = s.rdA z := rfl
@[simp] theorem State.modGlb_fldA (s : State) (f : Glb → Glb) (z h l : Nat) : (s.modGlb f).fldA z h l = s.fldA z h l := rfl
@[simp] theorem State.modGlb_bitA (s : State) (f : Glb → Glb) (z j : Nat) : (s.modGlb f).bitA z j = s.bitA z j := rfl
@[simp] theorem State.modGlb_byte (s : State) (f : Glb → Glb) (z : Nat) : (s.modGlb f).byte z = s.byte z := rfl

@[simp] theorem State.modTmb_rd (s : State) (f : Tmb → Tmb) (z : Nat) : (s.modTmb f).rd z = s.rd z := rfl
@[simp] theorem State.modTmb_fld (s : State) (f : Tmb → Tmb) (z h l : Nat) : (s.modTmb f).fld z h l = s.fld z h l := rfl
@[simp] theorem State.modTmb_bit (s : State) (f : Tmb → Tmb) (z j : Nat) : (s.modTmb f).bit z j = s.bit z j := rfl
@[simp] theorem State.modTmb_rdA (s : State) (f : Tmb → Tmb) (z : Nat) : (s.modTmb f).rdA z = s.rdA z := rfl
@[simp] theorem State.modTmb_fldA (s : State) (f : Tmb → Tmb) (z h l : Nat) : (s.modTmb f).fldA z h l = s.fldA z h l := rfl
@[simp] theorem State.modTmb_bitA (s : State) (f : Tmb → Tmb) (z j : Nat) : (s.modTmb f).bitA z j = s.bitA z j := rfl
@[simp] theorem State.modTmb_byte (s : State) (f : Tmb → Tmb) (z : Nat) : (s.modTmb f).byte z = s.byte z := rfl

@[simp] theorem State.modSxq_rd (s : State) (f : Sxq → Sxq) (z : Nat) : (s.modSxq f).rd z = s.rd z := rfl
@[simp] theorem State.modSxq_fld (s : State) (f : Sxq → Sxq) (z h l : Nat) : (s.modSxq f).fld z h l = s.fld z h l := rfl
@[simp] theorem State.modSxq_bit (s : State) (f : Sxq → Sxq) (z j : Nat) : (s.modSxq f).bit z j = s.bit z j := rfl
@[simp] theorem State.modSxq_rdA (s : State) (f : Sxq → Sxq) (z : Nat) : (s.modSxq f).rdA z = s.rdA z := rfl
@[simp] theorem State.modSxq_fldA (s : State) (f : Sxq → Sxq) (z h l : Nat) : (s.modSxq f).fldA z h l = s.fldA z h l := rfl
@[simp] theorem State.modSxq_bitA (s : State) (f : Sxq → Sxq) (z j : Nat) : (s.modSxq f).bitA z j = s.bitA z j := rfl
@[simp] theorem State.modSxq_byte (s : State) (f : Sxq → Sxq) (z : Nat) : (s.modSxq f).byte z = s.byte z := rfl

@[simp] theorem State.modRedAll_rd (s : State) (f : Red → Red) (z : Nat) : (s.modRedAll f).rd z = s.rd z := rfl
@[simp] theorem State.modRedAll_fld (s : State) (f : Red → Red) (z h l : Nat) : (s.modRedAll f).fld z h l = s.fld z h l := rfl
@[simp] theorem State.modRedAll_bit (s : State) (f : Red → Red) (z j : Nat) : (s.modRedAll f).bit z j = s.bit z j := rfl
@[simp] theorem State.modRedAll_rdA (s : State) (f : Red → Red) (z : Nat) : (s.modRedAll f).rdA z = s.rdA z := rfl
@[simp] theorem State.modRedAll_fldA (s : State) (f : Red → Red) (z h l : Nat) : (s.modRedAll f).fldA z h l = s.fldA z h l := rfl
@[simp] theorem State.modRedAll_bitA (s : State) (f : Red → Red) (z j : Nat) : (s.modRedAll f).bitA z j = s.bitA z j := rfl
@[simp] theorem State.modRedAll_byte (s : State) (f : Red → Red) (z : Nat) : (s.modRedAll f).byte z = s.byte z := rfl

@[simp] theorem State.modCmp_rd (s : State) (f : Cmp → Cmp) (z : Nat) : (s.modCmp f).rd z = s.rd z := rfl
@[simp] theorem State.modCmp_fld (s : State) (f : Cmp → Cmp) (z h l : Nat) : (s.modCmp f).fld z h l = s.fld z h l := rfl
@[simp] theorem State.modCmp_bit (s : State) (f : Cmp → Cmp) (z j : Nat) : (s.modCmp f).bit z j = s.bit z j := rfl
@[simp] theorem State.modCmp_rdA (s : State) (f : Cmp → Cmp) (z : Nat) : (s.modCmp f).rdA z = s.rdA z := rfl
@[simp] theorem State.modCmp_fldA (s : State) (f : Cmp → Cmp) (z h l : Nat) : (s.modCmp f).fldA z h l = s.fldA z h l := rfl
@[simp] theorem State.modCmp_bitA (s : State) (f : Cmp → Cmp) (z j : Nat) : (s.modCmp f).bitA z j = s.bitA z j := rfl
@[simp] theorem State.modCmp_byte (s : State) (f : Cmp → Cmp) (z : Nat) : (s.modCmp f).byte z = s.byte z := rfl

@[simp] theorem State.modScnAll_rd (s : State) (f : Scn → Scn) (z : Nat) : (s.modScnAll f).rd z = s.rd z := rfl
@[simp] theorem State.modScnAll_fld (s : State) (f : Scn → Scn) (z h l : Nat) : (s.modScnAll f).fld z h l = s.fld z h l := rfl
@[simp] theorem State.modScnAll_bit (s : State) (f : Scn → Scn) (z j : Nat) : (s.modScnAll f).bit z j = s.bit z j := rfl
@[simp] theorem State.modScnAll_rdA (s : State) (f : Scn → Scn) (z : Nat) : (s.modScnAll f).rdA z = s.rdA z := rfl
@[simp] theorem State.modScnAll_fldA (s : State) (f : Scn → Scn) (z h l : Nat) : (s.modScnAll f).fldA z h l = s.fldA z h l := rfl
@[simp] theorem State.modScnAll_bitA (s : State) (f : Scn → Scn) (z j : Nat) : (s.modScnAll f).bitA z j = s.bitA z j := rfl
@[simp] theorem State.modScnAll_byte (s : State) (f : Scn → Scn) (z : Nat) : (s.modScnAll f).byte z = s.byte z := rfl

@[simp] theorem State.modDmc_rd (s : State) (f : Dmc → Dmc) (z : Nat) : (s.modDmc f).rd z = s.rd z := rfl
@[simp] theorem State.modDmc_fld (s : State) (f : Dmc → Dmc) (z h l : Nat) : (s.modDmc f).fld z h l = s.fld z h l := rfl
@[simp] theorem State.modDmc_bit (s : State) (f : Dmc → Dmc) (z j : Nat) : (s.modDmc f).bit z j = s.bit z j := rfl
@[simp] theorem State.modDmc_rdA (s : State) (f : Dmc → Dmc) (z : Nat) : (s.modDmc f).rdA z = s.rdA z := rfl
@[simp] theorem State.modDmc_fldA (s : State) (f : Dmc → Dmc) (z h l : Nat) : (s.modDmc f).fldA z h l = s.fldA z h l := rfl
@[simp] theorem State.modDmc_bitA (s : State) (f : Dmc → Dmc) (z j : Nat) : (s.modDmc f).bitA z j = s.bitA z j := rfl
@[simp] theorem State.modDmc_byte (s : State) (f : Dmc → Dmc) (z : Nat) : (s.modDmc f).byte z = s.byte z := rfl

@[simp] theorem State.modMge_rd (s : State) (f : Mge → Mge) (z : Nat) : (s.modMge f).rd z = s.rd z := rfl
@[simp] theorem State.modMge_fld (s : State) (f : Mge → Mge) (z h l : Nat) : (s.modMge f).fld z h l = s.fld z h l := rfl
@[simp] theorem State.modMge_bit (s : State) (f : Mge → Mge) (z j : Nat) : (s.modMge f).bit z j = s.bit z j := rfl
@[simp] theorem State.modMge_rdA (s : State) (f : Mge → Mge) (z : Nat) : (s.modMge f).rdA z = s.rdA z := rfl
@[simp] theorem State.modMge_fldA (s : State) (f : Mge → Mge) (z h l : Nat) : (s.modMge f).fldA z h l = s.fldA z h l := rfl
@[simp] theorem State.modMge_bitA (s : State) (f : Mge → Mge) (z j : Nat) : (s.modMge f).bitA z j = s.bitA z j := rfl
@[simp] theorem State.modMge_byte (s : State) (f : Mge → Mge) (z : Nat) : (s.modMge f).byte z = s.byte z := rfl

@[simp] theorem State.modPci_rd (s : State) (f : Pci → Pci) (z : Nat) : (s.modPci f).rd z = s.rd z := rfl
@[simp] theorem State.modPci_fld (s : State) (f : Pci → Pci) (z h l : Nat) : (s.modPci f).fld z h l = s.fld z h l := rfl
@[simp] theorem State.modPci_bit (s : State) (f : Pci → Pci) (z j : Nat) : (s.modPci f).bit z j = s.bit z j := rfl
@[simp] theorem State.modPci_rdA (s : State) (f : Pci → Pci) (z : Nat) : (s.modPci f).rdA z = s.rdA z := rfl
@[simp] theorem State.modPci_fldA (s : State) (f : Pci → Pci) (z h l : Nat) : (s.modPci f).fldA z h l = s.fldA z h l := rfl
@[simp] theorem State.modPci_bitA (s : State) (f : Pci → Pci) (z j : Nat) : (s.modPci f).bitA z j = s.bitA z j := rfl
@[simp] theorem State.modPci_byte (s : State) (f : Pci → Pci) (z : Nat) : (s.modPci f).byte z = s.byte z := rfl

@[simp] theorem State.modMon_rd (s : State) (f : Mon → Mon) (z : Nat) : (s.modMon f).rd z = s.rd z := rfl
@[simp] theorem State.modMon_fld (s : State) (f : Mon → Mon) (z h l : Nat) : (s.modMon f).fld z h l = s.fld z h l := rfl
@[simp] theorem State.modMon_bit (s : State) (f : Mon → Mon) (z j : Nat) : (s.modMon f).bit z j = s.bit z j := rfl
@[simp] theorem State.modMon_rdA (s : State) (f : Mon → Mon) (z : Nat) : (s.modMon f).rdA z = s.rdA z := rfl
@[simp] theorem State.modMon_fldA (s : State) (f : Mon → Mon) (z h l : Nat) : (s.modMon f).fldA z h l = s.fldA z h l := rfl
@[simp] theorem State.modMon_bitA (s : State) (f : Mon → Mon) (z j : Nat) : (s.modMon f).bitA z j = s.bitA z j := rfl
@[simp] theorem State.modMon_byte (s : State) (f : Mon → Mon) (z : Nat) : (s.modMon f).byte z = s.byte z := rfl


@[simp] theorem State.free_pending (s : State) : s.free.2.pending = s.pending := rfl
@[simp] theorem State.free_out (s : State) : s.free.2.out = s.out := rfl
@[simp] theorem State.free_regs (s : State) : s.free.2.regs = s.regs := rfl
@[simp] theorem State.free_act (s : State) : s.free.2.act = s.act := rfl
@[simp] theorem State.free_mem (s : State) : s.free.2.mem = s.mem := rfl
@[simp] theorem State.free_flash (s : State) : s.free.2.flash = s.flash := rfl
@[simp] theorem State.free_glb (s : State) : s.free.2.glb = s.glb := rfl
@[simp] theorem State.free_tmb (s : State) : s.free.2.tmb = s.tmb := rfl
@[simp] theorem State.free_slk (s : State) : s.free.2.slk = s.slk := rfl
@[simp] theorem State.free_sxq (s : State) : s.free.2.sxq = s.sxq := rfl
@[simp] theorem State.free_red (s : State) : s.free.2.red = s.red := rfl
@[simp] theorem State.free_src (s : State) : s.free.2.src = s.src := rfl
@[simp] theorem State.free_cmp (s : State) : s.free.2.cmp = s.cmp := rfl
@[simp] theorem State.free_scn (s : State) : s.free.2.scn = s.scn := rfl
@[simp] theorem State.free_cor (s : State) : s.free.2.cor = s.cor := rfl
@[simp] theorem State.free_fur (s : State) : s.free.2.fur = s.fur := rfl
@[simp] theorem State.free_lmp (s : State) : s.free.2.lmp = s.lmp := rfl
@[simp] theorem State.free_cal (s : State) : s.free.2.cal = s.cal := rfl
@[simp] theorem State.free_aud (s : State) : s.free.2.aud = s.aud := rfl
@[simp] theorem State.free_dmc (s : State) : s.free.2.dmc = s.dmc := rfl
@[simp] theorem State.free_mec (s : State) : s.free.2.mec = s.mec := rfl
@[simp] theorem State.free_hkp (s : State) : s.free.2.hkp = s.hkp := rfl
@[simp] theorem State.free_evt (s : State) : s.free.2.evt = s.evt := rfl
@[simp] theorem State.free_boot (s : State) : s.free.2.boot = s.boot := rfl
@[simp] theorem State.free_pci (s : State) : s.free.2.pci = s.pci := rfl
@[simp] theorem State.free_mge (s : State) : s.free.2.mge = s.mge := rfl
@[simp] theorem State.free_mon (s : State) : s.free.2.mon = s.mon := rfl
@[simp] theorem State.free_rd (s : State) (z : Nat) : s.free.2.rd z = s.rd z := rfl
@[simp] theorem State.free_fld (s : State) (z h l : Nat) : s.free.2.fld z h l = s.fld z h l := rfl
@[simp] theorem State.free_bit (s : State) (z j : Nat) : s.free.2.bit z j = s.bit z j := rfl
@[simp] theorem State.free_rdA (s : State) (z : Nat) : s.free.2.rdA z = s.rdA z := rfl
@[simp] theorem State.free_fldA (s : State) (z h l : Nat) : s.free.2.fldA z h l = s.fldA z h l := rfl
@[simp] theorem State.free_bitA (s : State) (z j : Nat) : s.free.2.bitA z j = s.bitA z j := rfl
@[simp] theorem State.free_byte (s : State) (z : Nat) : s.free.2.byte z = s.byte z := rfl

end Sys2Proof.Machine
end

