-- ==== Sys2Proof/Laws/Regs.lean ====
section
/-!
SUPPORT. The laws of registers, bit fields and memory bytes: a read after a write, and that the canonical form stays.
-/

namespace Sys2Proof.Machine

/-! ### Bits of numbers -/

theorem bits_lt (x hi lo : Nat) : bits x hi lo < 2 ^ (hi + 1 - lo) := Nat.mod_lt _ (Nat.two_pow_pos _)

/-- A number is what lies above a field, the field and what lies below it. -/
theorem bits_split (x : Nat) {hi lo : Nat} (h : lo ≤ hi + 1) :
    2 ^ lo * (2 ^ (hi + 1 - lo) * (x / 2 ^ (hi + 1)) + bits x hi lo) + x % 2 ^ lo = x := by
  have e : 2 ^ lo * 2 ^ (hi + 1 - lo) = 2 ^ (hi + 1) := by rw [← Nat.pow_add]; congr 1; omega
  have h2 := Nat.div_add_mod (x / 2 ^ lo) (2 ^ (hi + 1 - lo))
  rw [Nat.div_div_eq_div_mul, e] at h2
  unfold bits
  rw [h2, Nat.div_add_mod]

/-- Replacing a field replaces it and nothing above or below it. -/
theorem putBits_split (x v : Nat) {hi lo : Nat} (h : lo ≤ hi + 1) :
    putBits x hi lo v = 2 ^ lo * (2 ^ (hi + 1 - lo) * (x / 2 ^ (hi + 1)) + v % 2 ^ (hi + 1 - lo)) + x % 2 ^ lo := by
  have h1 := bits_split x h
  unfold putBits
  generalize bits x hi lo = b at *
  generalize v % 2 ^ (hi + 1 - lo) = w at *
  generalize 2 ^ (hi + 1 - lo) * (x / 2 ^ (hi + 1)) = a at *
  generalize x % 2 ^ lo = r at *
  rw [Nat.mul_add] at h1
  rw [Nat.mul_add, Nat.mul_comm b, Nat.mul_comm w]
  omega

theorem testBit_bits (x hi lo i : Nat) : (bits x hi lo).testBit i = (decide (i < hi + 1 - lo) && x.testBit (lo + i)) := by
  unfold bits
  rw [Nat.testBit_mod_two_pow, Nat.testBit_div_two_pow, Nat.add_comm i lo]

theorem testBit_putBits (x v i : Nat) {hi lo : Nat} (h : lo ≤ hi + 1) :
    (putBits x hi lo v).testBit i = if lo ≤ i ∧ i ≤ hi then v.testBit (i - lo) else x.testBit i := by
  have e : lo + (hi + 1 - lo) = hi + 1 := by omega
  rw [putBits_split x v h, Nat.testBit_two_pow_mul_add _ (Nat.mod_lt _ (Nat.two_pow_pos _)),
    Nat.testBit_two_pow_mul_add _ (Nat.mod_lt _ (Nat.two_pow_pos _))]
  by_cases h1 : i < lo
  · have h2 : ¬ (lo ≤ i ∧ i ≤ hi) := by omega
    simp [h1, h2, Nat.testBit_mod_two_pow]
  · by_cases h3 : i ≤ hi
    · have h2 : lo ≤ i ∧ i ≤ hi := by omega
      have h4 : i - lo < hi + 1 - lo := by omega
      simp [h1, h2, h4, Nat.testBit_mod_two_pow]
    · have h2 : ¬ (lo ≤ i ∧ i ≤ hi) := by omega
      have h4 : ¬ (i - lo < hi + 1 - lo) := by omega
      have h5 : i - lo - (hi + 1 - lo) + (hi + 1) = i := by omega
      simp only [h1, h2, h4, if_false, Nat.testBit_div_two_pow, h5]

theorem bits_putBits_same (x v : Nat) {hi lo : Nat} (h : lo ≤ hi + 1) :
    bits (putBits x hi lo v) hi lo = v % 2 ^ (hi + 1 - lo) := by
  apply Nat.eq_of_testBit_eq
  intro i
  rw [testBit_bits, testBit_putBits _ _ _ h, Nat.testBit_mod_two_pow]
  by_cases h1 : i < hi + 1 - lo
  · have h2 : lo ≤ lo + i ∧ lo + i ≤ hi := by omega
    simp [h1, h2]
  · simp [h1]

theorem bits_putBits_disjoint (x v : Nat) {hi lo hi' lo' : Nat} (h : lo ≤ hi + 1) (hd : hi' < lo ∨ hi < lo') :
    bits (putBits x hi lo v) hi' lo' = bits x hi' lo' := by
  apply Nat.eq_of_testBit_eq
  intro i
  rw [testBit_bits, testBit_bits, testBit_putBits _ _ _ h]
  by_cases h1 : i < hi' + 1 - lo'
  · have h2 : ¬ (lo ≤ lo' + i ∧ lo' + i ≤ hi) := by omega
    simp [h2]
  · simp [h1]

theorem bits_mod_two_pow (x : Nat) {hi lo w : Nat} (h : hi < w) : bits (x % 2 ^ w) hi lo = bits x hi lo := by
  apply Nat.eq_of_testBit_eq
  intro i
  rw [testBit_bits, testBit_bits, Nat.testBit_mod_two_pow]
  by_cases h1 : i < hi + 1 - lo
  · have h2 : lo + i < w := by omega
    simp [h2]
  · simp [h1]

/-! ### Registers -/

theorem State.rd_wr_same {s : State} (o : Nat) (v : Word) (h : s.canonical) : (s.wr o v).rd o = v :=
  sGet_sPut_same v h.2.2.1

theorem State.rd_wr_ne (s : State) {o o' : Nat} (v : Word) (h : o' ≠ o) : (s.wr o v).rd o' = s.rd o' := sGet_sPut_ne _ v h

/-- A read after a write of a register. -/
theorem State.rd_wr {s : State} (o o' : Nat) (v : Word) (h : s.canonical) :
    (s.wr o v).rd o' = if o' = o then v else s.rd o' := by
  by_cases e : o' = o
  · subst e; rw [if_pos rfl, s.rd_wr_same _ _ h]
  · rw [if_neg e, s.rd_wr_ne _ e]

theorem State.rd_wrN {s : State} (o o' v : Nat) (h : s.canonical) :
    (s.wrN o v).rd o' = if o' = o then BitVec.ofNat 32 v else s.rd o' := State.rd_wr o o' _ h

theorem State.rd_wrN_ne (s : State) {o o' : Nat} (v : Nat) (h : o' ≠ o) : (s.wrN o v).rd o' = s.rd o' := s.rd_wr_ne _ h
theorem State.rd_setFld_ne (s : State) {o o' : Nat} (hi lo v : Nat) (h : o' ≠ o) : (s.setFld o hi lo v).rd o' = s.rd o' :=
  s.rd_wr_ne _ h
theorem State.rd_setBit_ne (s : State) {o o' : Nat} (i : Nat) (b : Bool) (h : o' ≠ o) : (s.setBit o i b).rd o' = s.rd o' :=
  s.rd_wr_ne _ h
theorem State.rd_inc_ne (s : State) {o o' : Nat} (n : Nat) (h : o' ≠ o) : (s.inc o n).rd o' = s.rd o' := s.rd_wr_ne _ h
theorem State.rd_incFld_ne (s : State) {o o' : Nat} (hi lo n : Nat) (h : o' ≠ o) : (s.incFld o hi lo n).rd o' = s.rd o' :=
  s.rd_wr_ne _ h
theorem State.rd_bump_ne (s : State) {o o' : Nat} (n : Nat) (h : o' ≠ o) : (s.bump o n).rd o' = s.rd o' := s.rd_wr_ne _ h
theorem State.rd_unbump_ne (s : State) {o o' : Nat} (n : Nat) (h : o' ≠ o) : (s.unbump o n).rd o' = s.rd o' :=
  s.rd_wr_ne _ h
theorem State.rd_bumpFld_ne (s : State) {o o' : Nat} (hi lo n : Nat) (h : o' ≠ o) : (s.bumpFld o hi lo n).rd o' = s.rd o' :=
  s.rd_wr_ne _ h
theorem State.rd_wr64_ne (s : State) {o o' : Nat} (v : Nat) (h : o' ≠ o) (h' : o' ≠ o + 4) : (s.wr64 o v).rd o' = s.rd o' := by
  unfold State.wr64; rw [State.rd_wrN_ne _ _ h', State.rd_wrN_ne _ _ h]
theorem State.rd_wrA (s : State) (o o' : Nat) (v : Word) : (s.wrA o v).rd o' = s.rd o' := rfl

theorem State.toNat_wrN_same {s : State} (o v : Nat) (h : s.canonical) : ((s.wrN o v).rd o).toNat = v % 2 ^ 32 := by
  rw [State.rd_wrN _ _ _ h, if_pos rfl, BitVec.toNat_ofNat]

/-- The field just written reads as written. -/
theorem State.fld_setFld_same {s : State} (o v : Nat) {hi lo : Nat} (h : s.canonical) (h1 : lo ≤ hi + 1) (h2 : hi < 32) :
    (s.setFld o hi lo v).fld o hi lo = v % 2 ^ (hi + 1 - lo) := by
  unfold State.fld State.setFld
  rw [State.toNat_wrN_same _ _ h, bits_mod_two_pow _ h2, bits_putBits_same _ _ h1]

/-- A field apart from the one written is as it was. -/
theorem State.fld_setFld_disjoint {s : State} (o v : Nat) {hi lo hi' lo' : Nat} (h : s.canonical) (h1 : lo ≤ hi + 1)
    (h2 : hi' < 32) (hd : hi' < lo ∨ hi < lo') : (s.setFld o hi lo v).fld o hi' lo' = s.fld o hi' lo' := by
  unfold State.fld State.setFld
  rw [State.toNat_wrN_same _ _ h, bits_mod_two_pow _ h2, bits_putBits_disjoint _ _ h1 hd]

theorem State.fld_of_rd_eq {s t : State} {o : Nat} (h : t.rd o = s.rd o) (hi lo : Nat) : t.fld o hi lo = s.fld o hi lo := by
  unfold State.fld; rw [h]

theorem State.bit_of_rd_eq {s t : State} {o : Nat} (h : t.rd o = s.rd o) (i : Nat) : t.bit o i = s.bit o i := by
  unfold State.bit; rw [h]

/-- The bit just written reads as written. -/
theorem State.bit_setBit_same {s : State} (o i : Nat) (b : Bool) (h : s.canonical) (h2 : i < 32) :
    (s.setBit o i b).bit o i = b := by
  unfold State.bit State.setBit State.setFld
  rw [State.toNat_wrN_same _ _ h, Nat.testBit_mod_two_pow, testBit_putBits _ _ _ (by omega)]
  cases b <;> simp [h2, b2n]

/-- A bit outside the field written is as it was. -/
theorem State.bit_setFld_disjoint {s : State} (o v : Nat) {hi lo i : Nat} (h : s.canonical) (h1 : lo ≤ hi + 1) (h2 : i < 32)
    (hd : i < lo ∨ hi < i) : (s.setFld o hi lo v).bit o i = s.bit o i := by
  unfold State.bit State.setFld
  have h3 : ¬ (lo ≤ i ∧ i ≤ hi) := by omega
  rw [State.toNat_wrN_same _ _ h, Nat.testBit_mod_two_pow, testBit_putBits _ _ _ h1, if_neg h3]
  simp [h2]

/-! ### Bytes of memory -/

theorem State.byte_setByte_same {s : State} (a : Nat) (b : Byte) (h : s.canonical) : (s.setByte a b).byte a = b :=
  sGet_sPut_same b h.1

theorem State.byte_setByte_ne (s : State) {a a' : Nat} (b : Byte) (h : a' ≠ a) : (s.setByte a b).byte a' = s.byte a' :=
  sGet_sPut_ne _ b h

/-- A write of bytes leaves every byte outside them as it was. -/
theorem State.byte_wrRaw_ne (s : State) (a : Nat) (b : List Byte) (a' : Nat) (h : a' < a ∨ a + b.length ≤ a') :
    (s.wrRaw a b).byte a' = s.byte a' := by
  induction b generalizing s a with
  | nil => rfl
  | cons x t ih =>
    simp only [List.length_cons] at h
    unfold State.wrRaw
    rw [ih _ _ (by omega), State.byte_setByte_ne _ _ (by omega)]

/-! ### The canonical form -/

theorem State.canonical_wr {s : State} (o : Nat) (v : Word) (h : s.canonical) : (s.wr o v).canonical :=
  ⟨h.1, h.2.1, sWf_sPut o v h.2.2.1, h.2.2.2⟩
theorem State.canonical_wrA {s : State} (o : Nat) (v : Word) (h : s.canonical) : (s.wrA o v).canonical :=
  ⟨h.1, h.2.1, h.2.2.1, sWf_sPut o v h.2.2.2⟩
theorem State.canonical_wrN {s : State} (o v : Nat) (h : s.canonical) : (s.wrN o v).canonical := State.canonical_wr o _ h
theorem State.canonical_setFld {s : State} (o hi lo v : Nat) (h : s.canonical) : (s.setFld o hi lo v).canonical :=
  State.canonical_wr o _ h
theorem State.canonical_setBit {s : State} (o i : Nat) (b : Bool) (h : s.canonical) : (s.setBit o i b).canonical :=
  State.canonical_wr o _ h
theorem State.canonical_inc {s : State} (o n : Nat) (h : s.canonical) : (s.inc o n).canonical := State.canonical_wr o _ h
theorem State.canonical_incFld {s : State} (o hi lo n : Nat) (h : s.canonical) : (s.incFld o hi lo n).canonical :=
  State.canonical_wr o _ h
theorem State.canonical_bump {s : State} (o n : Nat) (h : s.canonical) : (s.bump o n).canonical := State.canonical_wr o _ h
theorem State.canonical_unbump {s : State} (o n : Nat) (h : s.canonical) : (s.unbump o n).canonical := State.canonical_wr o _ h
theorem State.canonical_bumpFld {s : State} (o hi lo n : Nat) (h : s.canonical) : (s.bumpFld o hi lo n).canonical :=
  State.canonical_wr o _ h
theorem State.canonical_wr64 {s : State} (o v : Nat) (h : s.canonical) : (s.wr64 o v).canonical :=
  State.canonical_wrN _ _ (State.canonical_wrN _ _ h)
theorem State.canonical_setByte {s : State} (a : Nat) (b : Byte) (h : s.canonical) : (s.setByte a b).canonical :=
  ⟨sWf_sPut a b h.1, h.2⟩
theorem State.canonical_modGlb {s : State} (f : Glb → Glb) (h : s.canonical) : (s.modGlb f).canonical := h
theorem State.canonical_modTmb {s : State} (f : Tmb → Tmb) (h : s.canonical) : (s.modTmb f).canonical := h
theorem State.canonical_modSxq {s : State} (f : Sxq → Sxq) (h : s.canonical) : (s.modSxq f).canonical := h
theorem State.canonical_modRedAll {s : State} (f : Red → Red) (h : s.canonical) : (s.modRedAll f).canonical := h
theorem State.canonical_modCmp {s : State} (f : Cmp → Cmp) (h : s.canonical) : (s.modCmp f).canonical := h
theorem State.canonical_modScnAll {s : State} (f : Scn → Scn) (h : s.canonical) : (s.modScnAll f).canonical := h
theorem State.canonical_modCor {s : State} (f : Cor → Cor) (h : s.canonical) : (s.modCor f).canonical := h
theorem State.canonical_modFur {s : State} (f : Fur → Fur) (h : s.canonical) : (s.modFur f).canonical := h
theorem State.canonical_modLmp {s : State} (f : Lmp → Lmp) (h : s.canonical) : (s.modLmp f).canonical := h
theorem State.canonical_modCal {s : State} (f : Cal → Cal) (h : s.canonical) : (s.modCal f).canonical := h
theorem State.canonical_modAud {s : State} (f : Aud → Aud) (h : s.canonical) : (s.modAud f).canonical := h
theorem State.canonical_modDmc {s : State} (f : Dmc → Dmc) (h : s.canonical) : (s.modDmc f).canonical := h
theorem State.canonical_modMec {s : State} (f : Mec → Mec) (h : s.canonical) : (s.modMec f).canonical := h
theorem State.canonical_modHkp {s : State} (f : Hkp → Hkp) (h : s.canonical) : (s.modHkp f).canonical := h
theorem State.canonical_modEvt {s : State} (f : Evt → Evt) (h : s.canonical) : (s.modEvt f).canonical := h
theorem State.canonical_modBoot {s : State} (f : Boot → Boot) (h : s.canonical) : (s.modBoot f).canonical := h
theorem State.canonical_modPci {s : State} (f : Pci → Pci) (h : s.canonical) : (s.modPci f).canonical := h
theorem State.canonical_modMge {s : State} (f : Mge → Mge) (h : s.canonical) : (s.modMge f).canonical := h
theorem State.canonical_modMon {s : State} (f : Mon → Mon) (h : s.canonical) : (s.modMon f).canonical := h
theorem State.canonical_modSlk {s : State} (p : Port) (f : SlkPort → SlkPort) (h : s.canonical) : (s.modSlk p f).canonical := h
theorem State.canonical_modSource {s : State} (n : Fin 16) (f : Source → Source) (h : s.canonical) : (s.modSource n f).canonical := h
theorem State.canonical_keepRegs {s : State} (p : Nat → Bool) (h : s.canonical) : (s.keepRegs p).canonical :=
  ⟨h.1, h.2.1, sWf_filter _ h.2.2.1, h.2.2.2⟩
theorem State.canonical_keepMem {s : State} (p : Nat → Bool) (h : s.canonical) : (s.keepMem p).canonical :=
  ⟨sWf_filter _ h.1, h.2⟩
theorem State.canonical_keepFlash {s : State} (p : Nat → Bool) (h : s.canonical) : (s.keepFlash p).canonical :=
  ⟨h.1, sWf_filter _ h.2.1, h.2.2⟩
theorem State.canonical_setFlash {s : State} (a : Nat) (b : Byte) (h : s.canonical) : (s.setFlash a b).canonical :=
  ⟨h.1, sWf_sPut a b h.2.1, h.2.2⟩
theorem State.canonical_emit {s : State} (o : Output) (h : s.canonical) : (s.emit o).canonical := h
theorem State.canonical_free {s : State} (h : s.canonical) : s.free.2.canonical := h

theorem State.canonical_wrRaw {s : State} (a : Nat) (b : List Byte) (h : s.canonical) : (s.wrRaw a b).canonical := by
  induction b generalizing s a with
  | nil => exact h
  | cons x t ih => exact ih _ (State.canonical_setByte _ _ h)

theorem State.canonical_wrFlash {s : State} (a : Nat) (b : List Byte) (h : s.canonical) : (s.wrFlash a b).canonical := by
  induction b generalizing s a with
  | nil => exact h
  | cons x t ih => exact ih _ ⟨h.1, sWf_sPut a x h.2.1, h.2.2⟩

/-- Bytes written are read back. -/
theorem State.byte_wrRaw_same {s : State} (a : Nat) (b : List Byte) (i : Nat) (hi : i < b.length) (h : s.canonical) :
    (s.wrRaw a b).byte (a + i) = b[i] := by
  induction b generalizing s a i with
  | nil => simp at hi
  | cons x t ih =>
    unfold State.wrRaw
    cases i with
    | zero => rw [State.byte_wrRaw_ne _ _ _ _ (by omega)]; exact State.byte_setByte_same _ _ h
    | succ j =>
      have e : a + (j + 1) = a + 1 + j := by omega
      rw [e, ih _ _ (by simpa using hi) (State.canonical_setByte _ _ h)]
      simp

/-- Effects in a row keep the canonical form when each of them does. -/
theorem State.canonical_foldl {α : Type} {f : State → α → State} (hf : ∀ s a, s.canonical → (f s a).canonical) (l : List α)
    {s : State} (h : s.canonical) : (l.foldl f s).canonical := by
  induction l generalizing s with
  | nil => exact h
  | cons x t ih => exact ih (hf _ _ h)

end Sys2Proof.Machine
end

