-- ==== Sys2Proof/Laws/Events.lean ====
section
/-!
SUPPORT. What the occurrence of an event does (R606, R607, R615, R616) and leaves as it was, and the laws of a conditional effect.
-/

namespace Sys2Proof.Machine

/-- A command whose condition holds has its effect. -/
theorem gate_of_true {c : Bool} (f : State → State) (s : State) (h : c = true) : gate c f s = .next (f s) := by
  simp [gate, h]

/-- A command whose condition does not hold changes nothing. -/
theorem gate_of_false {c : Bool} (f : State → State) (s : State) (h : c = false) : gate c f s = .next s := by
  simp [gate, h]

/-! ### Routing -/

theorem State.route_frame (s : State) (cfg : Word) (src : Nat) (b : Bool) :
    ∃ e o, s.route cfg src b = { s with evt := e, out := s.out ++ o } := by
  unfold State.route State.modEvt
  by_cases h1 : bits cfg.toNat 29 28 / 2 = 1
  · by_cases h2 : (b && bits cfg.toNat 29 28 % 2 == 1 && (s.emit (.coreIrq src)).role == 0) = true
    · exact ⟨_, [_], by simp only [h1, h2, if_true]; rfl⟩
    · exact ⟨s.evt, [_], by simp only [h1, h2, if_true]; rfl⟩
  · by_cases h2 : (b && bits cfg.toNat 29 28 % 2 == 1 && s.role == 0) = true
    · exact ⟨_, [], by simp only [h1, h2, if_true, if_false, List.append_nil]; rfl⟩
    · exact ⟨s.evt, [], by simp only [h1, h2, if_false, List.append_nil]; rfl⟩

theorem State.route_regs (s : State) (cfg : Word) (src : Nat) (b : Bool) : (s.route cfg src b).regs = s.regs := by
  obtain ⟨e, o, h⟩ := s.route_frame cfg src b; rw [h]

theorem State.route_rd (s : State) (cfg : Word) (src : Nat) (b : Bool) (o : Nat) : (s.route cfg src b).rd o = s.rd o := by
  unfold State.rd; rw [s.route_regs]

@[simp] theorem State.route_pending (s : State) (cfg : Word) (n : Nat) (b : Bool) : (s.route cfg n b).pending = s.pending := by
  obtain ⟨_, _, h⟩ := s.route_frame cfg n b; rw [h]
@[simp] theorem State.route_freeCtr (s : State) (cfg : Word) (n : Nat) (b : Bool) : (s.route cfg n b).freeCtr = s.freeCtr := by
  obtain ⟨_, _, h⟩ := s.route_frame cfg n b; rw [h]
@[simp] theorem State.route_act (s : State) (cfg : Word) (n : Nat) (b : Bool) : (s.route cfg n b).act = s.act := by
  obtain ⟨_, _, h⟩ := s.route_frame cfg n b; rw [h]
@[simp] theorem State.route_mem (s : State) (cfg : Word) (n : Nat) (b : Bool) : (s.route cfg n b).mem = s.mem := by
  obtain ⟨_, _, h⟩ := s.route_frame cfg n b; rw [h]
@[simp] theorem State.route_flash (s : State) (cfg : Word) (n : Nat) (b : Bool) : (s.route cfg n b).flash = s.flash := by
  obtain ⟨_, _, h⟩ := s.route_frame cfg n b; rw [h]
@[simp] theorem State.route_glb (s : State) (cfg : Word) (n : Nat) (b : Bool) : (s.route cfg n b).glb = s.glb := by
  obtain ⟨_, _, h⟩ := s.route_frame cfg n b; rw [h]
@[simp] theorem State.route_tmb (s : State) (cfg : Word) (n : Nat) (b : Bool) : (s.route cfg n b).tmb = s.tmb := by
  obtain ⟨_, _, h⟩ := s.route_frame cfg n b; rw [h]
@[simp] theorem State.route_slk (s : State) (cfg : Word) (n : Nat) (b : Bool) : (s.route cfg n b).slk = s.slk := by
  obtain ⟨_, _, h⟩ := s.route_frame cfg n b; rw [h]
@[simp] theorem State.route_sxq (s : State) (cfg : Word) (n : Nat) (b : Bool) : (s.route cfg n b).sxq = s.sxq := by
  obtain ⟨_, _, h⟩ := s.route_frame cfg n b; rw [h]
@[simp] theorem State.route_red (s : State) (cfg : Word) (n : Nat) (b : Bool) : (s.route cfg n b).red = s.red := by
  obtain ⟨_, _, h⟩ := s.route_frame cfg n b; rw [h]
@[simp] theorem State.route_src (s : State) (cfg : Word) (n : Nat) (b : Bool) : (s.route cfg n b).src = s.src := by
  obtain ⟨_, _, h⟩ := s.route_frame cfg n b; rw [h]
@[simp] theorem State.route_cmp (s : State) (cfg : Word) (n : Nat) (b : Bool) : (s.route cfg n b).cmp = s.cmp := by
  obtain ⟨_, _, h⟩ := s.route_frame cfg n b; rw [h]
@[simp] theorem State.route_scn (s : State) (cfg : Word) (n : Nat) (b : Bool) : (s.route cfg n b).scn = s.scn := by
  obtain ⟨_, _, h⟩ := s.route_frame cfg n b; rw [h]
@[simp] theorem State.route_cor (s : State) (cfg : Word) (n : Nat) (b : Bool) : (s.route cfg n b).cor = s.cor := by
  obtain ⟨_, _, h⟩ := s.route_frame cfg n b; rw [h]
@[simp] theorem State.route_fur (s : State) (cfg : Word) (n : Nat) (b : Bool) : (s.route cfg n b).fur = s.fur := by
  obtain ⟨_, _, h⟩ := s.route_frame cfg n b; rw [h]
@[simp] theorem State.route_lmp (s : State) (cfg : Word) (n : Nat) (b : Bool) : (s.route cfg n b).lmp = s.lmp := by
  obtain ⟨_, _, h⟩ := s.route_frame cfg n b; rw [h]
@[simp] theorem State.route_cal (s : State) (cfg : Word) (n : Nat) (b : Bool) : (s.route cfg n b).cal = s.cal := by
  obtain ⟨_, _, h⟩ := s.route_frame cfg n b; rw [h]
@[simp] theorem State.route_aud (s : State) (cfg : Word) (n : Nat) (b : Bool) : (s.route cfg n b).aud = s.aud := by
  obtain ⟨_, _, h⟩ := s.route_frame cfg n b; rw [h]
@[simp] theorem State.route_dmc (s : State) (cfg : Word) (n : Nat) (b : Bool) : (s.route cfg n b).dmc = s.dmc := by
  obtain ⟨_, _, h⟩ := s.route_frame cfg n b; rw [h]
@[simp] theorem State.route_mec (s : State) (cfg : Word) (n : Nat) (b : Bool) : (s.route cfg n b).mec = s.mec := by
  obtain ⟨_, _, h⟩ := s.route_frame cfg n b; rw [h]
@[simp] theorem State.route_hkp (s : State) (cfg : Word) (n : Nat) (b : Bool) : (s.route cfg n b).hkp = s.hkp := by
  obtain ⟨_, _, h⟩ := s.route_frame cfg n b; rw [h]
@[simp] theorem State.route_boot (s : State) (cfg : Word) (n : Nat) (b : Bool) : (s.route cfg n b).boot = s.boot := by
  obtain ⟨_, _, h⟩ := s.route_frame cfg n b; rw [h]
@[simp] theorem State.route_pci (s : State) (cfg : Word) (n : Nat) (b : Bool) : (s.route cfg n b).pci = s.pci := by
  obtain ⟨_, _, h⟩ := s.route_frame cfg n b; rw [h]
@[simp] theorem State.route_mge (s : State) (cfg : Word) (n : Nat) (b : Bool) : (s.route cfg n b).mge = s.mge := by
  obtain ⟨_, _, h⟩ := s.route_frame cfg n b; rw [h]
@[simp] theorem State.route_mon (s : State) (cfg : Word) (n : Nat) (b : Bool) : (s.route cfg n b).mon = s.mon := by
  obtain ⟨_, _, h⟩ := s.route_frame cfg n b; rw [h]

theorem State.canonical_route {s : State} (cfg : Word) (src : Nat) (b : Bool) (h : s.canonical) :
    (s.route cfg src b).canonical := by
  obtain ⟨e, o, h1⟩ := s.route_frame cfg src b; rw [h1]; exact h

/-! ### Occurrences -/

theorem State.canonical_raiseAt {s : State} (src inst stamp : Nat) (vals : List (Nat × Nat)) (h : s.canonical) :
    (s.raiseAt src inst stamp vals).canonical := by
  have h1 : ((s.setFld (Reg.EVT_SEQ src) 15 0 (s.fld (Reg.EVT_SEQ src) 15 0 + 1)).setBit
      (Reg.EVT_PEND (src / 32)) (src % 32) true).canonical := State.canonical_setBit _ _ _ (State.canonical_setFld _ _ _ _ h)
  unfold State.raiseAt
  dsimp only
  split
  · exact State.canonical_route _ _ _ (State.canonical_bump _ _ (State.canonical_bump _ _ h1))
  · split
    · exact State.canonical_route _ _ _ (State.canonical_bump _ _ (State.canonical_bump _ _ h1))
    · exact State.canonical_route _ _ _ (State.canonical_bump _ _ (State.canonical_bump _ _ (State.canonical_inc _ _ h1)))

theorem State.canonical_raise {s : State} (src inst : Nat) (tb : TbIx) (vals : List (Nat × Nat)) (h : s.canonical) :
    (s.raise src inst tb vals).canonical := State.canonical_raiseAt _ _ _ _ h

/-- An occurrence leaves every register outside the EVT window as it was. -/
theorem State.raiseAt_rd (s : State) (src inst stamp : Nat) (vals : List (Nat × Nat)) {o : Nat} (hs : src < 512)
    (ho : o / 0x10000 ≠ 3) : (s.raiseAt src inst stamp vals).rd o = s.rd o := by
  have w : ∀ k, k / 0x10000 = 3 → o ≠ k := fun k hk e => ho (e ▸ hk)
  have a : o ≠ Reg.EVT_SEQ src := w _ (by show (0x33000 + 0x4 * src) / 0x10000 = 3; omega)
  have b : o ≠ Reg.EVT_PEND (src / 32) := w _ (by show (0x30200 + 0x4 * (src / 32)) / 0x10000 = 3; omega)
  have c : o ≠ Reg.EVT_PRODUCED := w _ rfl
  have d : o ≠ Reg.EVT_DROPPED := w _ rfl
  have e : o ≠ Reg.EVT_STAGED := w _ rfl
  have f : o ≠ Reg.EVT_LOSS src := w _ (by show (0x32000 + 0x4 * src) / 0x10000 = 3; omega)
  have h1 : ((s.setFld (Reg.EVT_SEQ src) 15 0 (s.fld (Reg.EVT_SEQ src) 15 0 + 1)).setBit
      (Reg.EVT_PEND (src / 32)) (src % 32) true).rd o = s.rd o := by
    rw [State.rd_setBit_ne _ _ _ b, State.rd_setFld_ne _ _ _ _ a]
  unfold State.raiseAt
  dsimp only
  split
  · rw [State.route_rd, State.rd_bump_ne _ _ d, State.rd_bump_ne _ _ c]; exact h1
  · split
    · rw [State.route_rd, State.rd_bump_ne _ _ e, State.rd_bump_ne _ _ c]; exact h1
    · rw [State.route_rd, State.rd_bump_ne _ _ d, State.rd_bump_ne _ _ c, State.rd_inc_ne _ _ f]; exact h1

theorem State.raise_rd (s : State) (src inst : Nat) (tb : TbIx) (vals : List (Nat × Nat)) {o : Nat} (hs : src < 512)
    (ho : o / 0x10000 ≠ 3) : (s.raise src inst tb vals).rd o = s.rd o := s.raiseAt_rd _ _ _ _ hs ho

/-- An occurrence leaves the registers of the EVT window apart from its sequence number, its pending bits, its loss count and the
three book counters as they were. -/
theorem State.raiseAt_rd_evt (s : State) (src inst stamp : Nat) (vals : List (Nat × Nat)) {o : Nat} (a : o ≠ Reg.EVT_SEQ src)
    (b : o ≠ Reg.EVT_PEND (src / 32)) (c : o ≠ Reg.EVT_PRODUCED) (d : o ≠ Reg.EVT_DROPPED) (e : o ≠ Reg.EVT_STAGED)
    (f : o ≠ Reg.EVT_LOSS src) : (s.raiseAt src inst stamp vals).rd o = s.rd o := by
  have h1 : ((s.setFld (Reg.EVT_SEQ src) 15 0 (s.fld (Reg.EVT_SEQ src) 15 0 + 1)).setBit
      (Reg.EVT_PEND (src / 32)) (src % 32) true).rd o = s.rd o := by
    rw [State.rd_setBit_ne _ _ _ b, State.rd_setFld_ne _ _ _ _ a]
  unfold State.raiseAt
  dsimp only
  split
  · rw [State.route_rd, State.rd_bump_ne _ _ d, State.rd_bump_ne _ _ c]; exact h1
  · split
    · rw [State.route_rd, State.rd_bump_ne _ _ e, State.rd_bump_ne _ _ c]; exact h1
    · rw [State.route_rd, State.rd_bump_ne _ _ d, State.rd_bump_ne _ _ c, State.rd_inc_ne _ _ f]; exact h1

/-- R606: an occurrence advances its source's sequence number. -/
theorem State.raiseAt_seq {s : State} (src inst stamp : Nat) (vals : List (Nat × Nat)) (h : s.canonical) (hs : src < 512) :
    (s.raiseAt src inst stamp vals).fld (Reg.EVT_SEQ src) 15 0 = (s.fld (Reg.EVT_SEQ src) 15 0 + 1) % 2 ^ 16 := by
  have b : Reg.EVT_SEQ src ≠ Reg.EVT_PEND (src / 32) := by show 0x33000 + 0x4 * src ≠ 0x30200 + 0x4 * (src / 32); omega
  have c : Reg.EVT_SEQ src ≠ Reg.EVT_PRODUCED := by show 0x33000 + 0x4 * src ≠ 0x30030; omega
  have d : Reg.EVT_SEQ src ≠ Reg.EVT_DROPPED := by show 0x33000 + 0x4 * src ≠ 0x30038; omega
  have e : Reg.EVT_SEQ src ≠ Reg.EVT_STAGED := by show 0x33000 + 0x4 * src ≠ 0x3003C; omega
  have f : Reg.EVT_SEQ src ≠ Reg.EVT_LOSS src := by show 0x33000 + 0x4 * src ≠ 0x32000 + 0x4 * src; omega
  have h1 : ((s.setFld (Reg.EVT_SEQ src) 15 0 (s.fld (Reg.EVT_SEQ src) 15 0 + 1)).setBit
      (Reg.EVT_PEND (src / 32)) (src % 32) true).fld (Reg.EVT_SEQ src) 15 0 = (s.fld (Reg.EVT_SEQ src) 15 0 + 1) % 2 ^ 16 := by
    rw [State.fld_of_rd_eq (State.rd_setBit_ne _ _ _ b), State.fld_setFld_same _ _ h (by omega) (by omega)]
  unfold State.raiseAt
  dsimp only
  split
  · rw [State.fld_of_rd_eq (State.route_rd _ _ _ _ _), State.fld_of_rd_eq (State.rd_bump_ne _ _ d),
      State.fld_of_rd_eq (State.rd_bump_ne _ _ c)]; exact h1
  · split
    · rw [State.fld_of_rd_eq (State.route_rd _ _ _ _ _), State.fld_of_rd_eq (State.rd_bump_ne _ _ e),
        State.fld_of_rd_eq (State.rd_bump_ne _ _ c)]; exact h1
    · rw [State.fld_of_rd_eq (State.route_rd _ _ _ _ _), State.fld_of_rd_eq (State.rd_bump_ne _ _ d),
        State.fld_of_rd_eq (State.rd_bump_ne _ _ c), State.fld_of_rd_eq (State.rd_inc_ne _ _ f)]; exact h1

/-- R614: an occurrence sets its source's pending bit. -/
theorem State.raiseAt_pend {s : State} (src inst stamp : Nat) (vals : List (Nat × Nat)) (h : s.canonical) (hs : src < 512) :
    (s.raiseAt src inst stamp vals).bit (Reg.EVT_PEND (src / 32)) (src % 32) = true := by
  have c : Reg.EVT_PEND (src / 32) ≠ Reg.EVT_PRODUCED := by show 0x30200 + 0x4 * (src / 32) ≠ 0x30030; omega
  have d : Reg.EVT_PEND (src / 32) ≠ Reg.EVT_DROPPED := by show 0x30200 + 0x4 * (src / 32) ≠ 0x30038; omega
  have e : Reg.EVT_PEND (src / 32) ≠ Reg.EVT_STAGED := by show 0x30200 + 0x4 * (src / 32) ≠ 0x3003C; omega
  have f : Reg.EVT_PEND (src / 32) ≠ Reg.EVT_LOSS src := by show 0x30200 + 0x4 * (src / 32) ≠ 0x32000 + 0x4 * src; omega
  have h1 : ((s.setFld (Reg.EVT_SEQ src) 15 0 (s.fld (Reg.EVT_SEQ src) 15 0 + 1)).setBit
      (Reg.EVT_PEND (src / 32)) (src % 32) true).bit (Reg.EVT_PEND (src / 32)) (src % 32) = true :=
    State.bit_setBit_same _ _ _ (State.canonical_setFld _ _ _ _ h) (Nat.mod_lt _ (by decide))
  unfold State.raiseAt
  dsimp only
  split
  · rw [State.bit_of_rd_eq (State.route_rd _ _ _ _ _), State.bit_of_rd_eq (State.rd_bump_ne _ _ d),
      State.bit_of_rd_eq (State.rd_bump_ne _ _ c)]; exact h1
  · split
    · rw [State.bit_of_rd_eq (State.route_rd _ _ _ _ _), State.bit_of_rd_eq (State.rd_bump_ne _ _ e),
        State.bit_of_rd_eq (State.rd_bump_ne _ _ c)]; exact h1
    · rw [State.bit_of_rd_eq (State.route_rd _ _ _ _ _), State.bit_of_rd_eq (State.rd_bump_ne _ _ d),
        State.bit_of_rd_eq (State.rd_bump_ne _ _ c), State.bit_of_rd_eq (State.rd_inc_ne _ _ f)]; exact h1

theorem State.raise_pend {s : State} (src inst : Nat) (tb : TbIx) (vals : List (Nat × Nat)) (h : s.canonical) (hs : src < 512) :
    (s.raise src inst tb vals).bit (Reg.EVT_PEND (src / 32)) (src % 32) = true := State.raiseAt_pend _ _ _ _ h hs

@[simp] theorem State.raiseAt_pending (s : State) (n i t : Nat) (v : List (Nat × Nat)) : (s.raiseAt n i t v).pending = s.pending := by
  unfold State.raiseAt; dsimp only; (repeat' split) <;> simp
@[simp] theorem State.raiseAt_freeCtr (s : State) (n i t : Nat) (v : List (Nat × Nat)) : (s.raiseAt n i t v).freeCtr = s.freeCtr := by
  unfold State.raiseAt; dsimp only; (repeat' split) <;> simp
@[simp] theorem State.raiseAt_act (s : State) (n i t : Nat) (v : List (Nat × Nat)) : (s.raiseAt n i t v).act = s.act := by
  unfold State.raiseAt; dsimp only; (repeat' split) <;> simp
@[simp] theorem State.raiseAt_mem (s : State) (n i t : Nat) (v : List (Nat × Nat)) : (s.raiseAt n i t v).mem = s.mem := by
  unfold State.raiseAt; dsimp only; (repeat' split) <;> simp
@[simp] theorem State.raiseAt_flash (s : State) (n i t : Nat) (v : List (Nat × Nat)) : (s.raiseAt n i t v).flash = s.flash := by
  unfold State.raiseAt; dsimp only; (repeat' split) <;> simp
@[simp] theorem State.raiseAt_glb (s : State) (n i t : Nat) (v : List (Nat × Nat)) : (s.raiseAt n i t v).glb = s.glb := by
  unfold State.raiseAt; dsimp only; (repeat' split) <;> simp
@[simp] theorem State.raiseAt_tmb (s : State) (n i t : Nat) (v : List (Nat × Nat)) : (s.raiseAt n i t v).tmb = s.tmb := by
  unfold State.raiseAt; dsimp only; (repeat' split) <;> simp
@[simp] theorem State.raiseAt_slk (s : State) (n i t : Nat) (v : List (Nat × Nat)) : (s.raiseAt n i t v).slk = s.slk := by
  unfold State.raiseAt; dsimp only; (repeat' split) <;> simp
@[simp] theorem State.raiseAt_sxq (s : State) (n i t : Nat) (v : List (Nat × Nat)) : (s.raiseAt n i t v).sxq = s.sxq := by
  unfold State.raiseAt; dsimp only; (repeat' split) <;> simp
@[simp] theorem State.raiseAt_red (s : State) (n i t : Nat) (v : List (Nat × Nat)) : (s.raiseAt n i t v).red = s.red := by
  unfold State.raiseAt; dsimp only; (repeat' split) <;> simp
@[simp] theorem State.raiseAt_src (s : State) (n i t : Nat) (v : List (Nat × Nat)) : (s.raiseAt n i t v).src = s.src := by
  unfold State.raiseAt; dsimp only; (repeat' split) <;> simp
@[simp] theorem State.raiseAt_cmp (s : State) (n i t : Nat) (v : List (Nat × Nat)) : (s.raiseAt n i t v).cmp = s.cmp := by
  unfold State.raiseAt; dsimp only; (repeat' split) <;> simp
@[simp] theorem State.raiseAt_scn (s : State) (n i t : Nat) (v : List (Nat × Nat)) : (s.raiseAt n i t v).scn = s.scn := by
  unfold State.raiseAt; dsimp only; (repeat' split) <;> simp
@[simp] theorem State.raiseAt_cor (s : State) (n i t : Nat) (v : List (Nat × Nat)) : (s.raiseAt n i t v).cor = s.cor := by
  unfold State.raiseAt; dsimp only; (repeat' split) <;> simp
@[simp] theorem State.raiseAt_fur (s : State) (n i t : Nat) (v : List (Nat × Nat)) : (s.raiseAt n i t v).fur = s.fur := by
  unfold State.raiseAt; dsimp only; (repeat' split) <;> simp
@[simp] theorem State.raiseAt_lmp (s : State) (n i t : Nat) (v : List (Nat × Nat)) : (s.raiseAt n i t v).lmp = s.lmp := by
  unfold State.raiseAt; dsimp only; (repeat' split) <;> simp
@[simp] theorem State.raiseAt_cal (s : State) (n i t : Nat) (v : List (Nat × Nat)) : (s.raiseAt n i t v).cal = s.cal := by
  unfold State.raiseAt; dsimp only; (repeat' split) <;> simp
@[simp] theorem State.raiseAt_aud (s : State) (n i t : Nat) (v : List (Nat × Nat)) : (s.raiseAt n i t v).aud = s.aud := by
  unfold State.raiseAt; dsimp only; (repeat' split) <;> simp
@[simp] theorem State.raiseAt_dmc (s : State) (n i t : Nat) (v : List (Nat × Nat)) : (s.raiseAt n i t v).dmc = s.dmc := by
  unfold State.raiseAt; dsimp only; (repeat' split) <;> simp
@[simp] theorem State.raiseAt_mec (s : State) (n i t : Nat) (v : List (Nat × Nat)) : (s.raiseAt n i t v).mec = s.mec := by
  unfold State.raiseAt; dsimp only; (repeat' split) <;> simp
@[simp] theorem State.raiseAt_hkp (s : State) (n i t : Nat) (v : List (Nat × Nat)) : (s.raiseAt n i t v).hkp = s.hkp := by
  unfold State.raiseAt; dsimp only; (repeat' split) <;> simp
@[simp] theorem State.raiseAt_boot (s : State) (n i t : Nat) (v : List (Nat × Nat)) : (s.raiseAt n i t v).boot = s.boot := by
  unfold State.raiseAt; dsimp only; (repeat' split) <;> simp
@[simp] theorem State.raiseAt_pci (s : State) (n i t : Nat) (v : List (Nat × Nat)) : (s.raiseAt n i t v).pci = s.pci := by
  unfold State.raiseAt; dsimp only; (repeat' split) <;> simp
@[simp] theorem State.raiseAt_mge (s : State) (n i t : Nat) (v : List (Nat × Nat)) : (s.raiseAt n i t v).mge = s.mge := by
  unfold State.raiseAt; dsimp only; (repeat' split) <;> simp
@[simp] theorem State.raiseAt_mon (s : State) (n i t : Nat) (v : List (Nat × Nat)) : (s.raiseAt n i t v).mon = s.mon := by
  unfold State.raiseAt; dsimp only; (repeat' split) <;> simp

@[simp] theorem State.raise_pending (s : State) (n i : Nat) (b : TbIx) (v : List (Nat × Nat)) : (s.raise n i b v).pending = s.pending :=
  s.raiseAt_pending _ _ _ _
@[simp] theorem State.raise_freeCtr (s : State) (n i : Nat) (b : TbIx) (v : List (Nat × Nat)) : (s.raise n i b v).freeCtr = s.freeCtr :=
  s.raiseAt_freeCtr _ _ _ _
@[simp] theorem State.raise_act (s : State) (n i : Nat) (b : TbIx) (v : List (Nat × Nat)) : (s.raise n i b v).act = s.act :=
  s.raiseAt_act _ _ _ _
@[simp] theorem State.raise_mem (s : State) (n i : Nat) (b : TbIx) (v : List (Nat × Nat)) : (s.raise n i b v).mem = s.mem :=
  s.raiseAt_mem _ _ _ _
@[simp] theorem State.raise_flash (s : State) (n i : Nat) (b : TbIx) (v : List (Nat × Nat)) : (s.raise n i b v).flash = s.flash :=
  s.raiseAt_flash _ _ _ _
@[simp] theorem State.raise_glb (s : State) (n i : Nat) (b : TbIx) (v : List (Nat × Nat)) : (s.raise n i b v).glb = s.glb :=
  s.raiseAt_glb _ _ _ _
@[simp] theorem State.raise_tmb (s : State) (n i : Nat) (b : TbIx) (v : List (Nat × Nat)) : (s.raise n i b v).tmb = s.tmb :=
  s.raiseAt_tmb _ _ _ _
@[simp] theorem State.raise_slk (s : State) (n i : Nat) (b : TbIx) (v : List (Nat × Nat)) : (s.raise n i b v).slk = s.slk :=
  s.raiseAt_slk _ _ _ _
@[simp] theorem State.raise_sxq (s : State) (n i : Nat) (b : TbIx) (v : List (Nat × Nat)) : (s.raise n i b v).sxq = s.sxq :=
  s.raiseAt_sxq _ _ _ _
@[simp] theorem State.raise_red (s : State) (n i : Nat) (b : TbIx) (v : List (Nat × Nat)) : (s.raise n i b v).red = s.red :=
  s.raiseAt_red _ _ _ _
@[simp] theorem State.raise_src (s : State) (n i : Nat) (b : TbIx) (v : List (Nat × Nat)) : (s.raise n i b v).src = s.src :=
  s.raiseAt_src _ _ _ _
@[simp] theorem State.raise_cmp (s : State) (n i : Nat) (b : TbIx) (v : List (Nat × Nat)) : (s.raise n i b v).cmp = s.cmp :=
  s.raiseAt_cmp _ _ _ _
@[simp] theorem State.raise_scn (s : State) (n i : Nat) (b : TbIx) (v : List (Nat × Nat)) : (s.raise n i b v).scn = s.scn :=
  s.raiseAt_scn _ _ _ _
@[simp] theorem State.raise_cor (s : State) (n i : Nat) (b : TbIx) (v : List (Nat × Nat)) : (s.raise n i b v).cor = s.cor :=
  s.raiseAt_cor _ _ _ _
@[simp] theorem State.raise_fur (s : State) (n i : Nat) (b : TbIx) (v : List (Nat × Nat)) : (s.raise n i b v).fur = s.fur :=
  s.raiseAt_fur _ _ _ _
@[simp] theorem State.raise_lmp (s : State) (n i : Nat) (b : TbIx) (v : List (Nat × Nat)) : (s.raise n i b v).lmp = s.lmp :=
  s.raiseAt_lmp _ _ _ _
@[simp] theorem State.raise_cal (s : State) (n i : Nat) (b : TbIx) (v : List (Nat × Nat)) : (s.raise n i b v).cal = s.cal :=
  s.raiseAt_cal _ _ _ _
@[simp] theorem State.raise_aud (s : State) (n i : Nat) (b : TbIx) (v : List (Nat × Nat)) : (s.raise n i b v).aud = s.aud :=
  s.raiseAt_aud _ _ _ _
@[simp] theorem State.raise_dmc (s : State) (n i : Nat) (b : TbIx) (v : List (Nat × Nat)) : (s.raise n i b v).dmc = s.dmc :=
  s.raiseAt_dmc _ _ _ _
@[simp] theorem State.raise_mec (s : State) (n i : Nat) (b : TbIx) (v : List (Nat × Nat)) : (s.raise n i b v).mec = s.mec :=
  s.raiseAt_mec _ _ _ _
@[simp] theorem State.raise_hkp (s : State) (n i : Nat) (b : TbIx) (v : List (Nat × Nat)) : (s.raise n i b v).hkp = s.hkp :=
  s.raiseAt_hkp _ _ _ _
@[simp] theorem State.raise_boot (s : State) (n i : Nat) (b : TbIx) (v : List (Nat × Nat)) : (s.raise n i b v).boot = s.boot :=
  s.raiseAt_boot _ _ _ _
@[simp] theorem State.raise_pci (s : State) (n i : Nat) (b : TbIx) (v : List (Nat × Nat)) : (s.raise n i b v).pci = s.pci :=
  s.raiseAt_pci _ _ _ _
@[simp] theorem State.raise_mge (s : State) (n i : Nat) (b : TbIx) (v : List (Nat × Nat)) : (s.raise n i b v).mge = s.mge :=
  s.raiseAt_mge _ _ _ _
@[simp] theorem State.raise_mon (s : State) (n i : Nat) (b : TbIx) (v : List (Nat × Nat)) : (s.raise n i b v).mon = s.mon :=
  s.raiseAt_mon _ _ _ _

/-- A bit that is set stays set when another bit of the register, or itself, is set. -/
theorem State.bit_setBit_mono {s : State} (o i o' j : Nat) (h : s.canonical) (hj : j < 32) (hb : s.bit o' j = true) :
    (s.setBit o i true).bit o' j = true := by
  by_cases e : o' = o
  · subst e
    by_cases e2 : j = i
    · subst e2; exact State.bit_setBit_same _ _ _ h hj
    · unfold State.setBit; rw [State.bit_setFld_disjoint _ _ h (by omega) hj (by omega)]; exact hb
  · rw [State.bit_of_rd_eq (State.rd_setBit_ne _ _ _ e)]; exact hb

/-- R614: an occurrence leaves what is pending pending. -/
theorem State.raiseAt_pends_keep {s : State} (src inst stamp : Nat) (vals : List (Nat × Nat)) {n : Nat} (h : s.canonical)
    (hs : src < 512) (hn : n < 512) (hb : s.pends n) : (s.raiseAt src inst stamp vals).pends n := by
  have a : Reg.EVT_PEND (n / 32) ≠ Reg.EVT_SEQ src := by
    show 0x30200 + 0x4 * (n / 32) ≠ 0x33000 + 0x4 * src; omega
  have c : Reg.EVT_PEND (n / 32) ≠ Reg.EVT_PRODUCED := by show 0x30200 + 0x4 * (n / 32) ≠ 0x30030; omega
  have d : Reg.EVT_PEND (n / 32) ≠ Reg.EVT_DROPPED := by show 0x30200 + 0x4 * (n / 32) ≠ 0x30038; omega
  have e : Reg.EVT_PEND (n / 32) ≠ Reg.EVT_STAGED := by show 0x30200 + 0x4 * (n / 32) ≠ 0x3003C; omega
  have f : Reg.EVT_PEND (n / 32) ≠ Reg.EVT_LOSS src := by show 0x30200 + 0x4 * (n / 32) ≠ 0x32000 + 0x4 * src; omega
  have h1 : ((s.setFld (Reg.EVT_SEQ src) 15 0 (s.fld (Reg.EVT_SEQ src) 15 0 + 1)).setBit
      (Reg.EVT_PEND (src / 32)) (src % 32) true).bit (Reg.EVT_PEND (n / 32)) (n % 32) = true :=
    State.bit_setBit_mono _ _ _ _ (State.canonical_setFld _ _ _ _ h) (Nat.mod_lt _ (by decide))
      (by rw [State.bit_of_rd_eq (State.rd_setFld_ne _ _ _ _ a)]; exact hb)
  unfold State.pends State.raiseAt
  dsimp only
  split
  · rw [State.bit_of_rd_eq (State.route_rd _ _ _ _ _), State.bit_of_rd_eq (State.rd_bump_ne _ _ d),
      State.bit_of_rd_eq (State.rd_bump_ne _ _ c)]; exact h1
  · split
    · rw [State.bit_of_rd_eq (State.route_rd _ _ _ _ _), State.bit_of_rd_eq (State.rd_bump_ne _ _ e),
        State.bit_of_rd_eq (State.rd_bump_ne _ _ c)]; exact h1
    · rw [State.bit_of_rd_eq (State.route_rd _ _ _ _ _), State.bit_of_rd_eq (State.rd_bump_ne _ _ d),
        State.bit_of_rd_eq (State.rd_bump_ne _ _ c), State.bit_of_rd_eq (State.rd_inc_ne _ _ f)]; exact h1

/-- What an occurrence puts on the wires comes after what is there. -/
theorem State.raiseAt_out (s : State) (n i t : Nat) (v : List (Nat × Nat)) : ∃ o, (s.raiseAt n i t v).out = s.out ++ o := by
  have r : ∀ (u : State) (cfg : Word) (b : Bool), ∃ o, (u.route cfg n b).out = u.out ++ o := fun u cfg b => by
    obtain ⟨_, o, h⟩ := u.route_frame cfg n b; exact ⟨o, by rw [h]⟩
  unfold State.raiseAt; dsimp only; (repeat' split) <;>
  · obtain ⟨o, h⟩ := r _ _ _
    exact ⟨o, h.trans (by simp)⟩

end Sys2Proof.Machine
end

