-- ==== Sys2Proof/Laws/Time.lean ====
section
/-!
SUPPORT. What the passing of time does to the time bases (R69 to R72, R78), and leaves as it was.
-/

namespace Sys2Proof.Machine

theorem State.modTb_tmb (s : State) (n : TbIx) (f : Tb → Tb) :
    (s.modTb n f).tmb = { s.tmb with tb := s.tmb.tb.set n (f s.tmb.tb[n]) } := rfl

/-! ### What the passing of time keeps -/

/-- What a change of the time bases and a wrap event keep, the advance of a time base keeps. -/
theorem State.tbAdvance_ind {P : State → Prop} (hr : ∀ u i stamp, P u → P (u.raiseAt Ev.wrap i stamp []))
    (hm : ∀ u f, P u → P (u.modTmb f)) (k : Nat) (n : TbIx) {s : State} (h : P s) : P (s.tbAdvance k n) := by
  have fold : ∀ (l : List Nat) (g : Nat → Nat) (u : State), P u →
      P (l.foldl (fun (u : State) i => u.raiseAt Ev.wrap n.val (g i) []) u) := by
    intro l g
    induction l with
    | nil => exact fun _ hu => hu
    | cons i l ih => exact fun u hu => ih _ (hr _ _ _ hu)
  unfold State.tbAdvance
  exact fold _ _ _ (hm _ _ h)

theorem State.pass_ind {P : State → Prop} (hr : ∀ u i stamp, P u → P (u.raiseAt Ev.wrap i stamp []))
    (hm : ∀ u f, P u → P (u.modTmb f)) (k : Nat) {s : State} (h : P s) : P (s.pass k) := by
  have fold : ∀ (l : List TbIx) (u : State), P u → P (l.foldl (fun u n => u.tbAdvance k n) u) := by
    intro l
    induction l with
    | nil => exact fun _ hu => hu
    | cons n l ih => exact fun u hu => ih _ (State.tbAdvance_ind hr hm k n hu)
  unfold State.pass
  exact hm _ _ (fold _ _ h)

theorem State.copyFreq_ind {P : State → Prop} (hw : ∀ u v, P u → P (u.wr (Reg.TMB_TB_FREQ 6) v)) {s : State} (h : P s) :
    P s.copyFreq := by
  unfold State.copyFreq
  split
  · exact h
  · exact hw _ _ h

/-- What a wrap event, a change of the time bases and a write of TB6's frequency word keep, the passing of time keeps. -/
theorem State.advance_ind {P : State → Prop} (hr : ∀ u i stamp, P u → P (u.raiseAt Ev.wrap i stamp []))
    (hm : ∀ u f, P u → P (u.modTmb f)) (hw : ∀ u v, P u → P (u.wr (Reg.TMB_TB_FREQ 6) v)) (k : Nat) {s : State} (h : P s) :
    P (s.advance k) := by
  unfold State.advance
  split
  · exact h
  · exact State.pass_ind hr hm _ (State.copyFreq_ind hw (State.pass_ind hr hm _ h))

/-- A part of the state that none of the three touches is as it was. -/
theorem State.advance_keeps {α : Type} (g : State → α) (hr : ∀ u i stamp, g (u.raiseAt Ev.wrap i stamp []) = g u)
    (hm : ∀ u f, g (u.modTmb f) = g u) (hw : ∀ u v, g (u.wr (Reg.TMB_TB_FREQ 6) v) = g u) (s : State) (k : Nat) :
    g (s.advance k) = g s :=
  State.advance_ind (P := fun u => g u = g s) (fun u i x h => (hr u i x).trans h) (fun u f h => (hm u f).trans h)
    (fun u v h => (hw u v).trans h) k rfl

theorem State.advance_rd (s : State) (k : Nat) {o : Nat} (ho : o / 0x10000 ≠ 3) (h6 : o ≠ Reg.TMB_TB_FREQ 6) :
    (s.advance k).rd o = s.rd o :=
  State.advance_keeps (fun u => u.rd o) (fun u i x => State.raiseAt_rd u _ _ _ _ (by decide) ho) (fun _ _ => rfl)
    (fun u v => u.rd_wr_ne v h6) s k

theorem State.advance_fld (s : State) (k hi lo : Nat) {o : Nat} (ho : o / 0x10000 ≠ 3) (h6 : o ≠ Reg.TMB_TB_FREQ 6) :
    (s.advance k).fld o hi lo = s.fld o hi lo := State.fld_of_rd_eq (s.advance_rd k ho h6) hi lo

theorem State.advance_bit (s : State) (k i : Nat) {o : Nat} (ho : o / 0x10000 ≠ 3) (h6 : o ≠ Reg.TMB_TB_FREQ 6) :
    (s.advance k).bit o i = s.bit o i := State.bit_of_rd_eq (s.advance_rd k ho h6) i

@[simp] theorem State.advance_pending (s : State) (k : Nat) : (s.advance k).pending = s.pending :=
  State.advance_keeps (·.pending) (by simp) (fun _ _ => rfl) (fun _ _ => rfl) s k
@[simp] theorem State.advance_freeCtr (s : State) (k : Nat) : (s.advance k).freeCtr = s.freeCtr :=
  State.advance_keeps (·.freeCtr) (by simp) (fun _ _ => rfl) (fun _ _ => rfl) s k
@[simp] theorem State.advance_act (s : State) (k : Nat) : (s.advance k).act = s.act :=
  State.advance_keeps (·.act) (by simp) (fun _ _ => rfl) (fun _ _ => rfl) s k
@[simp] theorem State.advance_mem (s : State) (k : Nat) : (s.advance k).mem = s.mem :=
  State.advance_keeps (·.mem) (by simp) (fun _ _ => rfl) (fun _ _ => rfl) s k
@[simp] theorem State.advance_flash (s : State) (k : Nat) : (s.advance k).flash = s.flash :=
  State.advance_keeps (·.flash) (by simp) (fun _ _ => rfl) (fun _ _ => rfl) s k
@[simp] theorem State.advance_glb (s : State) (k : Nat) : (s.advance k).glb = s.glb :=
  State.advance_keeps (·.glb) (by simp) (fun _ _ => rfl) (fun _ _ => rfl) s k
@[simp] theorem State.advance_slk (s : State) (k : Nat) : (s.advance k).slk = s.slk :=
  State.advance_keeps (·.slk) (by simp) (fun _ _ => rfl) (fun _ _ => rfl) s k
@[simp] theorem State.advance_sxq (s : State) (k : Nat) : (s.advance k).sxq = s.sxq :=
  State.advance_keeps (·.sxq) (by simp) (fun _ _ => rfl) (fun _ _ => rfl) s k
@[simp] theorem State.advance_red (s : State) (k : Nat) : (s.advance k).red = s.red :=
  State.advance_keeps (·.red) (by simp) (fun _ _ => rfl) (fun _ _ => rfl) s k
@[simp] theorem State.advance_src (s : State) (k : Nat) : (s.advance k).src = s.src :=
  State.advance_keeps (·.src) (by simp) (fun _ _ => rfl) (fun _ _ => rfl) s k
@[simp] theorem State.advance_cmp (s : State) (k : Nat) : (s.advance k).cmp = s.cmp :=
  State.advance_keeps (·.cmp) (by simp) (fun _ _ => rfl) (fun _ _ => rfl) s k
@[simp] theorem State.advance_scn (s : State) (k : Nat) : (s.advance k).scn = s.scn :=
  State.advance_keeps (·.scn) (by simp) (fun _ _ => rfl) (fun _ _ => rfl) s k
@[simp] theorem State.advance_cor (s : State) (k : Nat) : (s.advance k).cor = s.cor :=
  State.advance_keeps (·.cor) (by simp) (fun _ _ => rfl) (fun _ _ => rfl) s k
@[simp] theorem State.advance_fur (s : State) (k : Nat) : (s.advance k).fur = s.fur :=
  State.advance_keeps (·.fur) (by simp) (fun _ _ => rfl) (fun _ _ => rfl) s k
@[simp] theorem State.advance_lmp (s : State) (k : Nat) : (s.advance k).lmp = s.lmp :=
  State.advance_keeps (·.lmp) (by simp) (fun _ _ => rfl) (fun _ _ => rfl) s k
@[simp] theorem State.advance_cal (s : State) (k : Nat) : (s.advance k).cal = s.cal :=
  State.advance_keeps (·.cal) (by simp) (fun _ _ => rfl) (fun _ _ => rfl) s k
@[simp] theorem State.advance_aud (s : State) (k : Nat) : (s.advance k).aud = s.aud :=
  State.advance_keeps (·.aud) (by simp) (fun _ _ => rfl) (fun _ _ => rfl) s k
@[simp] theorem State.advance_dmc (s : State) (k : Nat) : (s.advance k).dmc = s.dmc :=
  State.advance_keeps (·.dmc) (by simp) (fun _ _ => rfl) (fun _ _ => rfl) s k
@[simp] theorem State.advance_mec (s : State) (k : Nat) : (s.advance k).mec = s.mec :=
  State.advance_keeps (·.mec) (by simp) (fun _ _ => rfl) (fun _ _ => rfl) s k
@[simp] theorem State.advance_hkp (s : State) (k : Nat) : (s.advance k).hkp = s.hkp :=
  State.advance_keeps (·.hkp) (by simp) (fun _ _ => rfl) (fun _ _ => rfl) s k
@[simp] theorem State.advance_boot (s : State) (k : Nat) : (s.advance k).boot = s.boot :=
  State.advance_keeps (·.boot) (by simp) (fun _ _ => rfl) (fun _ _ => rfl) s k
@[simp] theorem State.advance_pci (s : State) (k : Nat) : (s.advance k).pci = s.pci :=
  State.advance_keeps (·.pci) (by simp) (fun _ _ => rfl) (fun _ _ => rfl) s k
@[simp] theorem State.advance_mge (s : State) (k : Nat) : (s.advance k).mge = s.mge :=
  State.advance_keeps (·.mge) (by simp) (fun _ _ => rfl) (fun _ _ => rfl) s k
@[simp] theorem State.advance_mon (s : State) (k : Nat) : (s.advance k).mon = s.mon :=
  State.advance_keeps (·.mon) (by simp) (fun _ _ => rfl) (fun _ _ => rfl) s k
@[simp] theorem State.advance_byte (s : State) (k a : Nat) : (s.advance k).byte a = s.byte a := by
  unfold State.byte; rw [State.advance_mem]

theorem State.canonical_advance {s : State} (k : Nat) (h : s.canonical) : (s.advance k).canonical :=
  State.advance_ind (P := State.canonical) (fun _ _ _ hu => State.canonical_raiseAt _ _ _ _ hu) (fun _ _ hu => hu)
    (fun _ _ hu => State.canonical_wr _ _ hu) k h

theorem State.canonical_pass {s : State} (k : Nat) (h : s.canonical) : (s.pass k).canonical :=
  State.pass_ind (P := State.canonical) (fun _ _ _ hu => State.canonical_raiseAt _ _ _ _ hu) (fun _ _ hu => hu) k h

theorem State.canonical_copyFreq {s : State} (h : s.canonical) : s.copyFreq.canonical :=
  State.copyFreq_ind (P := State.canonical) (fun _ _ hu => State.canonical_wr _ _ hu) h

theorem State.canonical_tbAdvance {s : State} (n : TbIx) (k : Nat) (h : s.canonical) : (s.tbAdvance k n).canonical :=
  State.tbAdvance_ind (P := State.canonical) (fun _ _ _ hu => State.canonical_raiseAt _ _ _ _ hu) (fun _ _ hu => hu) k n h

/-! ### The counts of the time bases (R69 to R72) -/

theorem State.tbAdvance_rd (s : State) (n : TbIx) (k : Nat) {o : Nat} (ho : o / 0x10000 ≠ 3) :
    (s.tbAdvance k n).rd o = s.rd o :=
  State.tbAdvance_ind (P := fun u => u.rd o = s.rd o) (fun _ _ _ h => (State.raiseAt_rd _ _ _ _ _ (by decide) ho).trans h)
    (fun _ _ h => h) k n rfl

theorem State.pass_rd (s : State) (k : Nat) {o : Nat} (ho : o / 0x10000 ≠ 3) : (s.pass k).rd o = s.rd o :=
  State.pass_ind (P := fun u => u.rd o = s.rd o) (fun _ _ _ h => (State.raiseAt_rd _ _ _ _ _ (by decide) ho).trans h)
    (fun _ _ h => h) k rfl

theorem State.tbAdvance_tmb (s : State) (n : TbIx) (k : Nat) : (s.tbAdvance k n).tmb =
    { s.tmb with tb := s.tmb.tb.set n { s.tmb.tb[n] with cnt := (s.tmb.tb[n].cnt + k * (s.tbInc n).toNat) % 2 ^ 74 } } := by
  have fold : ∀ (l : List Nat) (g : Nat → Nat) (u : State),
      (l.foldl (fun (u : State) i => u.raiseAt Ev.wrap n.val (g i) []) u).tmb = u.tmb := by
    intro l g
    induction l with
    | nil => exact fun _ => rfl
    | cons i l ih => exact fun u => (ih _).trans (State.raiseAt_tmb _ _ _ _ _)
  unfold State.tbAdvance
  exact fold _ _ _

theorem State.tbAdvance_tb_ne (s : State) (k : Nat) {n m : TbIx} (h : n ≠ m) :
    (s.tbAdvance k n).tmb.tb[m] = s.tmb.tb[m] := by
  have h1 : n.val ≠ m.val := fun e => h (Fin.ext e)
  rw [State.tbAdvance_tmb]
  simp [h1]

theorem State.tbAdvance_tb_same (s : State) (k : Nat) (n : TbIx) : (s.tbAdvance k n).tmb.tb[n] =
    { s.tmb.tb[n] with cnt := (s.tmb.tb[n].cnt + k * (s.tbInc n).toNat) % 2 ^ 74 } := by
  rw [State.tbAdvance_tmb]; simp

theorem freq_window (m : TbIx) : Reg.TMB_TB_FREQ m.val / 0x10000 ≠ 3 := by
  have hm := m.isLt
  show (0x40008 + 0x100 * m.val) / 0x10000 ≠ 3
  omega

/-- A time base's increment follows from its own frequency word. -/
theorem State.tbInc_of_rd {s t : State} {m : TbIx} (h : t.rd (Reg.TMB_TB_FREQ m.val) = s.rd (Reg.TMB_TB_FREQ m.val)) :
    t.tbInc m = s.tbInc m := by
  unfold State.tbInc; rw [h]

theorem State.tbInc_tbAdvance (s : State) (k : Nat) (n m : TbIx) : (s.tbAdvance k n).tbInc m = s.tbInc m :=
  State.tbInc_of_rd (s.tbAdvance_rd n k (freq_window m))

/-- Time bases advance one after the other. -/
def State.advanceTbs (s : State) (k : Nat) (l : List TbIx) : State := l.foldl (fun s n => s.tbAdvance k n) s

theorem State.pass_eq (s : State) (k : Nat) : s.pass k =
    (s.advanceTbs k timeBases).modTmb (fun g => { g with tclk := (s.advanceTbs k timeBases).tmb.tclk + k }) := rfl

theorem State.advanceTbs_tclk (s : State) (k : Nat) (l : List TbIx) : (s.advanceTbs k l).tmb.tclk = s.tmb.tclk := by
  induction l generalizing s with
  | nil => rfl
  | cons n t ih => exact (ih _).trans (by rw [State.tbAdvance_tmb])

/-- A time base that is not in the list keeps its count. -/
theorem State.advanceTbs_notMem (s : State) (k : Nat) {l : List TbIx} {n : TbIx} (h : n ∉ l) :
    (s.advanceTbs k l).tmb.tb[n] = s.tmb.tb[n] := by
  induction l generalizing s with
  | nil => rfl
  | cons m t ih =>
    simp only [List.mem_cons, not_or] at h
    exact (ih _ h.2).trans (s.tbAdvance_tb_ne k (Ne.symm h.1))

/-- A time base of a list without repeats advances once, by its own increment. -/
theorem State.advanceTbs_mem_tb (s : State) (k : Nat) {l : List TbIx} {n : TbIx} (h : n ∈ l) (hn : l.Nodup) :
    (s.advanceTbs k l).tmb.tb[n] =
      { s.tmb.tb[n] with cnt := (s.tmb.tb[n].cnt + k * (s.tbInc n).toNat) % 2 ^ 74 } := by
  induction l generalizing s with
  | nil => cases h
  | cons m t ih =>
    rw [List.nodup_cons] at hn
    by_cases e : n = m
    · subst e
      exact (State.advanceTbs_notMem _ k hn.1).trans (s.tbAdvance_tb_same k n)
    · have h1 : n ∈ t := by simpa [e] using h
      refine (ih (s.tbAdvance k m) h1 hn.2).trans ?_
      rw [State.tbInc_tbAdvance, State.tbAdvance_tb_ne _ _ (Ne.symm e)]

theorem mem_timeBases (n : TbIx) : n ∈ timeBases := by revert n; decide

theorem State.setTclk_tb (s : State) (c : Nat) : (s.modTmb (fun g => { g with tclk := c })).tmb.tb = s.tmb.tb := rfl

/-- R69: while no frequency word changes, every time base advances `k` times by its increment. -/
theorem State.pass_tb (s : State) (k : Nat) (n : TbIx) : (s.pass k).tmb.tb[n] =
    { s.tmb.tb[n] with cnt := (s.tmb.tb[n].cnt + k * (s.tbInc n).toNat) % 2 ^ 74 } := by
  have h := s.advanceTbs_mem_tb k (l := timeBases) (n := n) (mem_timeBases n) (by decide)
  rw [← h, State.pass_eq, State.setTclk_tb]

theorem State.pass_tclk (s : State) (k : Nat) : (s.pass k).tmb.tclk = s.tmb.tclk + k := by
  rw [State.pass_eq]; show (s.advanceTbs k timeBases).tmb.tclk + k = _; rw [State.advanceTbs_tclk]

@[simp] theorem State.copyFreq_tmb (s : State) : s.copyFreq.tmb = s.tmb :=
  State.copyFreq_ind (P := fun u => u.tmb = s.tmb) (fun _ _ h => h) rfl

/-- R72: TB6's frequency word becomes TB0's. -/
theorem State.copyFreq_rd6 {s : State} (h : s.canonical) : s.copyFreq.rd (Reg.TMB_TB_FREQ 6) = s.rd (Reg.TMB_TB_FREQ 0) := by
  unfold State.copyFreq
  split
  · assumption
  · exact State.rd_wr_same _ _ h

theorem State.copyFreq_rd_ne (s : State) {o : Nat} (h : o ≠ Reg.TMB_TB_FREQ 6) : s.copyFreq.rd o = s.rd o :=
  State.copyFreq_ind (P := fun u => u.rd o = s.rd o) (fun _ v hu => (State.rd_wr_ne _ v h).trans hu) rfl

theorem State.advance_zero (s : State) : s.advance 0 = s := rfl
theorem State.advance_succ (s : State) (k : Nat) : s.advance (k + 1) = ((s.pass 1).copyFreq).pass k := rfl

theorem State.advance_tclk (s : State) (k : Nat) : (s.advance k).tmb.tclk = s.tmb.tclk + k := by
  cases k with
  | zero => rfl
  | succ k => rw [State.advance_succ, State.pass_tclk, State.copyFreq_tmb, State.pass_tclk]; omega

theorem State.add_mod_mod (a b c m : Nat) : ((a + b) % m + c) % m = (a + (b + c)) % m := by
  rw [Nat.mod_add_mod, Nat.add_assoc]

/-- The increment of a time base but TB6 stays. -/
theorem State.tbInc_settled (s : State) {n : TbIx} (h6 : n ≠ 6) : ((s.pass 1).copyFreq).tbInc n = s.tbInc n := by
  have hv : n.val ≠ 6 := fun e => h6 (Fin.ext e)
  have hr : Reg.TMB_TB_FREQ n.val ≠ Reg.TMB_TB_FREQ 6 := by
    show 0x40008 + 0x100 * n.val ≠ 0x40008 + 0x100 * 6
    omega
  exact State.tbInc_of_rd ((State.copyFreq_rd_ne _ hr).trans (s.pass_rd 1 (freq_window n)))

/-- R69: after `k` cycles every time base but TB6 has advanced `k` times by its increment. -/
theorem State.advance_tb (s : State) {k : Nat} {n : TbIx} (h6 : n ≠ 6) (hk : k ≠ 0) : (s.advance k).tmb.tb[n] =
    { s.tmb.tb[n] with cnt := (s.tmb.tb[n].cnt + k * (s.tbInc n).toNat) % 2 ^ 74 } := by
  cases k with
  | zero => exact absurd rfl hk
  | succ k =>
    rw [State.advance_succ, State.pass_tb, State.tbInc_settled s h6, State.copyFreq_tmb, State.pass_tb]
    simp only [State.add_mod_mod, Nat.one_mul, Nat.succ_mul, Nat.zero_mul, Nat.zero_add, Nat.add_comm (k * _)]

/-- R69, R72: one cycle adds to every time base its increment, TB6's the one that it had. -/
theorem State.advance_one_tb (s : State) (n : TbIx) : (s.advance 1).tmb.tb[n] =
    { s.tmb.tb[n] with cnt := (s.tmb.tb[n].cnt + (s.tbInc n).toNat) % 2 ^ 74 } := by
  rw [State.advance_succ, State.pass_tb, State.copyFreq_tmb, State.pass_tb]
  simp only [Nat.zero_mul, Nat.add_zero, Nat.one_mul, Nat.mod_mod]

/-- R72: after a cycle TB6 holds the frequency word that TB0 had. -/
theorem State.advance_freq6 {s : State} (k : Nat) (h : s.canonical) :
    (s.advance (k + 1)).rd (Reg.TMB_TB_FREQ 6) = s.rd (Reg.TMB_TB_FREQ 0) := by
  rw [State.advance_succ, State.pass_rd _ _ (by decide), State.copyFreq_rd6 (State.canonical_pass 1 h), State.pass_rd _ _ (by decide)]

/-! ### Wrap events (R78) -/

theorem State.tbAdvance_pends {s : State} (n : TbIx) (k : Nat) {i : Nat} (h : s.canonical) (hi : i < 512) (hb : s.pends i) :
    (s.tbAdvance k n).pends i :=
  (State.tbAdvance_ind (P := fun u => u.canonical ∧ u.pends i)
    (fun _ _ _ hu => ⟨State.canonical_raiseAt _ _ _ _ hu.1, State.raiseAt_pends_keep _ _ _ _ hu.1 (by decide) hi hu.2⟩)
    (fun _ _ hu => hu) k n ⟨h, hb⟩).2

theorem State.pass_pends {s : State} (k : Nat) {i : Nat} (h : s.canonical) (hi : i < 512) (hb : s.pends i) : (s.pass k).pends i :=
  (State.pass_ind (P := fun u => u.canonical ∧ u.pends i)
    (fun _ _ _ hu => ⟨State.canonical_raiseAt _ _ _ _ hu.1, State.raiseAt_pends_keep _ _ _ _ hu.1 (by decide) hi hu.2⟩)
    (fun _ _ hu => hu) k ⟨h, hb⟩).2

theorem State.pends_of_rd {s t : State} {i : Nat} (hi : i < 512) (hr : ∀ o, o / 0x10000 = 3 → t.rd o = s.rd o) (hb : s.pends i) :
    t.pends i := by
  unfold State.pends at *
  rw [State.bit_of_rd_eq (hr _ (by show (0x30200 + 0x4 * (i / 32)) / 0x10000 = 3; omega))]
  exact hb

theorem State.copyFreq_pends {s : State} {i : Nat} (hi : i < 512) (hb : s.pends i) : s.copyFreq.pends i :=
  State.pends_of_rd hi (fun o ho => s.copyFreq_rd_ne (fun e => by
    rw [e] at ho; exact absurd ho (by decide))) hb

/-- R78: a time base whose count passes 2^74 raises its wrap event. -/
theorem State.tbAdvance_wraps {s : State} (k : Nat) (n : TbIx) (h : s.canonical)
    (hw : 2 ^ 74 ≤ s.tmb.tb[n].cnt + k * (s.tbInc n).toNat) : (s.tbAdvance k n).pends Ev.wrap := by
  have fold : ∀ (l : List Nat) (g : Nat → Nat) (u : State), u.canonical → (l ≠ [] ∨ u.pends Ev.wrap) →
      (l.foldl (fun (u : State) i => u.raiseAt Ev.wrap n.val (g i) []) u).pends Ev.wrap := by
    intro l g
    induction l with
    | nil => exact fun _ _ hb => hb.resolve_left (fun e => e rfl)
    | cons i l ih =>
      exact fun u hc _ => ih _ (State.canonical_raiseAt _ _ _ _ hc) (.inr (State.raiseAt_pend _ _ _ _ hc (by decide)))
  have hpos : 0 < (s.tmb.tb[n].cnt + k * (s.tbInc n).toNat) / 2 ^ 74 := Nat.div_pos hw (by decide)
  unfold State.tbAdvance
  refine fold _ _ _ (State.canonical_modTmb _ h) (.inl ?_)
  intro e
  have := congrArg List.length e
  simp only [List.length_range, List.length_nil] at this
  omega

theorem State.advanceTbs_pends {s : State} (k : Nat) (l : List TbIx) {i : Nat} (h : s.canonical) (hi : i < 512)
    (hb : s.pends i) : (s.advanceTbs k l).pends i := by
  induction l generalizing s with
  | nil => exact hb
  | cons n t ih => exact ih (State.canonical_tbAdvance _ _ h) (State.tbAdvance_pends _ _ h hi hb)

theorem State.advanceTbs_wraps {s : State} (k : Nat) {l : List TbIx} {n : TbIx} (h : s.canonical) (hm : n ∈ l) (hn : l.Nodup)
    (hw : 2 ^ 74 ≤ s.tmb.tb[n].cnt + k * (s.tbInc n).toNat) : (s.advanceTbs k l).pends Ev.wrap := by
  induction l generalizing s with
  | nil => cases hm
  | cons m t ih =>
    rw [List.nodup_cons] at hn
    by_cases e : n = m
    · subst e
      exact State.advanceTbs_pends k t (s := s.tbAdvance k n) (State.canonical_tbAdvance _ _ h) (by decide)
        (State.tbAdvance_wraps k n h hw)
    · refine ih (s := s.tbAdvance k m) (State.canonical_tbAdvance _ _ h) (by simpa [e] using hm) hn.2 ?_
      rw [State.tbInc_tbAdvance, State.tbAdvance_tb_ne _ _ (Ne.symm e)]
      exact hw

theorem State.pass_wraps {s : State} (k : Nat) (n : TbIx) (h : s.canonical)
    (hw : 2 ^ 74 ≤ s.tmb.tb[n].cnt + k * (s.tbInc n).toNat) : (s.pass k).pends Ev.wrap := by
  have h1 := State.advanceTbs_wraps k (l := timeBases) (n := n) h (mem_timeBases n) (by decide) hw
  rw [State.pass_eq]
  unfold State.pends at *
  rw [State.modTmb_bit]
  exact h1

/-- R78: a time base but TB6 whose count passes 2^74 on the way raises its wrap event. -/
theorem State.advance_wraps {s : State} (k : Nat) {n : TbIx} (h6 : n ≠ 6) (h : s.canonical) (h0 : s.tmb.tb[n].cnt < 2 ^ 74)
    (hw : 2 ^ 74 ≤ s.tmb.tb[n].cnt + k * (s.tbInc n).toNat) : (s.advance k).pends Ev.wrap := by
  cases k with
  | zero => omega
  | succ k =>
    rw [State.advance_succ]
    by_cases h1 : 2 ^ 74 ≤ s.tmb.tb[n].cnt + 1 * (s.tbInc n).toNat
    · exact State.pass_pends k (State.canonical_copyFreq (State.canonical_pass 1 h)) (by decide)
        (State.copyFreq_pends (by decide) (State.pass_wraps 1 n h h1))
    · refine State.pass_wraps k n (State.canonical_copyFreq (State.canonical_pass 1 h)) ?_
      rw [State.tbInc_settled s h6, State.copyFreq_tmb, State.pass_tb]
      show 2 ^ 74 ≤ (s.tmb.tb[n].cnt + 1 * (s.tbInc n).toNat) % 2 ^ 74 + k * (s.tbInc n).toNat
      rw [Nat.mod_eq_of_lt (by omega)]
      have : (k + 1) * (s.tbInc n).toNat = k * (s.tbInc n).toNat + (s.tbInc n).toNat := Nat.succ_mul _ _
      omega

/-! ### Waiting -/

/-- R104: where no tick comes first, a wait runs to its end. -/
theorem State.wait_of_le {s : State} {k : Nat} (f : State → State) (h : s.ticking = false ∨ k ≤ s.cyclesToTick) :
    s.wait k f = f (s.advance k) := by
  unfold State.wait
  rw [if_neg]
  rcases h with h | h
  · simp [h]
  · simp; omega

/-- R104: where a tick comes first, nothing happens. -/
theorem State.wait_of_lt {s : State} {k : Nat} (f : State → State) (h : s.ticking = true) (hk : s.cyclesToTick < k) :
    s.wait k f = s := by
  unfold State.wait
  rw [if_pos]
  simp [h, hk]

end Sys2Proof.Machine
end

