-- ==== Sys2Proof/Laws/Frame.lean ====
section
/-!
SUPPORT. What operations leave as it was. `State.Kept p m s t` says that `t` is in canonical form, that its registers outside `p`
and its bytes of memory outside `m` are those of `s`, and that its flash and active set are those of `s`; each operation has one
lemma, so that a meaning's frame is read off its text.
-/

namespace Sys2Proof.Machine

/-- `t` is canonical and differs from `s` in registers that `p` names and bytes of memory that `m` names alone. -/
structure State.Kept (p m : Nat → Prop) (s t : State) : Prop where
  canonical : t.canonical
  regs : s.sameRegs t p
  bytes : ∀ a, ¬ m a → t.byte a = s.byte a
  flash : t.flash = s.flash
  act : t.act = s.act

namespace State.Kept

variable {p m : Nat → Prop} {s t : State}

theorem refl (h : s.canonical) : s.Kept p m s := ⟨h, fun _ _ => rfl, fun _ _ => rfl, rfl, rfl⟩

theorem stores (h : s.Kept p (fun _ => False) t) : s.sameStores t := ⟨fun a => h.bytes a id, h.flash, h.act⟩

theorem mono {q n : Nat → Prop} (h : s.Kept p m t) (hq : ∀ o, p o → q o) (hn : ∀ a, m a → n a) : s.Kept q n t :=
  ⟨h.canonical, fun o ho => h.regs o (fun hp => ho (hq o hp)), fun a ha => h.bytes a (fun hm => ha (hn a hm)), h.flash, h.act⟩

theorem trans {u : State} (h : s.Kept p m t) (g : t.Kept p m u) : s.Kept p m u :=
  ⟨g.canonical, fun o ho => (g.regs o ho).trans (h.regs o ho), fun a ha => (g.bytes a ha).trans (h.bytes a ha),
    g.flash.trans h.flash, g.act.trans h.act⟩

theorem wr (o : Nat) (v : Word) (ho : p o) (h : s.Kept p m t) : s.Kept p m (t.wr o v) :=
  ⟨State.canonical_wr _ _ h.canonical, fun o' ho' => (State.rd_wr_ne _ _ (fun e => ho' (by rw [e]; exact ho))).trans (h.regs o' ho'), h.bytes, h.flash, h.act⟩
theorem wrN (o v : Nat) (ho : p o) (h : s.Kept p m t) : s.Kept p m (t.wrN o v) := wr _ _ ho h
theorem setFld (o hi lo v : Nat) (ho : p o) (h : s.Kept p m t) : s.Kept p m (t.setFld o hi lo v) := wr _ _ ho h
theorem setBit (o i : Nat) (b : Bool) (ho : p o) (h : s.Kept p m t) : s.Kept p m (t.setBit o i b) := wr _ _ ho h
theorem inc (o n : Nat) (ho : p o) (h : s.Kept p m t) : s.Kept p m (t.inc o n) := wr _ _ ho h
theorem incFld (o hi lo n : Nat) (ho : p o) (h : s.Kept p m t) : s.Kept p m (t.incFld o hi lo n) := wr _ _ ho h
theorem bump (o n : Nat) (ho : p o) (h : s.Kept p m t) : s.Kept p m (t.bump o n) := wr _ _ ho h
theorem unbump (o n : Nat) (ho : p o) (h : s.Kept p m t) : s.Kept p m (t.unbump o n) := wr _ _ ho h
theorem bumpFld (o hi lo n : Nat) (ho : p o) (h : s.Kept p m t) : s.Kept p m (t.bumpFld o hi lo n) := wr _ _ ho h
theorem wr64 (o v : Nat) (ho : p o) (ho' : p (o + 4)) (h : s.Kept p m t) : s.Kept p m (t.wr64 o v) := wr _ _ ho' (wr _ _ ho h)

theorem modGlb (f : Glb → Glb) (h : s.Kept p m t) : s.Kept p m (t.modGlb f) := ⟨h.1, h.2, h.3, h.4, h.5⟩
theorem modTmb (f : Tmb → Tmb) (h : s.Kept p m t) : s.Kept p m (t.modTmb f) := ⟨h.1, h.2, h.3, h.4, h.5⟩
theorem modTb (n : TbIx) (f : Tb → Tb) (h : s.Kept p m t) : s.Kept p m (t.modTb n f) := ⟨h.1, h.2, h.3, h.4, h.5⟩
theorem modSlk (n : Port) (f : SlkPort → SlkPort) (h : s.Kept p m t) : s.Kept p m (t.modSlk n f) := ⟨h.1, h.2, h.3, h.4, h.5⟩
theorem modSxq (f : Sxq → Sxq) (h : s.Kept p m t) : s.Kept p m (t.modSxq f) := ⟨h.1, h.2, h.3, h.4, h.5⟩
theorem modRoll (n : Port) (f : PortRoll → PortRoll) (h : s.Kept p m t) : s.Kept p m (t.modRoll n f) := ⟨h.1, h.2, h.3, h.4, h.5⟩
theorem modRedAll (f : Red → Red) (h : s.Kept p m t) : s.Kept p m (t.modRedAll f) := ⟨h.1, h.2, h.3, h.4, h.5⟩
theorem modRed (n : Port) (f : RedPort → RedPort) (h : s.Kept p m t) : s.Kept p m (t.modRed n f) := ⟨h.1, h.2, h.3, h.4, h.5⟩
theorem modSource (n : Fin 16) (f : Source → Source) (h : s.Kept p m t) : s.Kept p m (t.modSource n f) := ⟨h.1, h.2, h.3, h.4, h.5⟩
theorem modCmp (f : Cmp → Cmp) (h : s.Kept p m t) : s.Kept p m (t.modCmp f) := ⟨h.1, h.2, h.3, h.4, h.5⟩
theorem modScnAll (f : Scn → Scn) (h : s.Kept p m t) : s.Kept p m (t.modScnAll f) := ⟨h.1, h.2, h.3, h.4, h.5⟩
theorem modCor (f : Cor → Cor) (h : s.Kept p m t) : s.Kept p m (t.modCor f) := ⟨h.1, h.2, h.3, h.4, h.5⟩
theorem modFur (f : Fur → Fur) (h : s.Kept p m t) : s.Kept p m (t.modFur f) := ⟨h.1, h.2, h.3, h.4, h.5⟩
theorem modLmp (f : Lmp → Lmp) (h : s.Kept p m t) : s.Kept p m (t.modLmp f) := ⟨h.1, h.2, h.3, h.4, h.5⟩
theorem modCal (f : Cal → Cal) (h : s.Kept p m t) : s.Kept p m (t.modCal f) := ⟨h.1, h.2, h.3, h.4, h.5⟩
theorem modAud (f : Aud → Aud) (h : s.Kept p m t) : s.Kept p m (t.modAud f) := ⟨h.1, h.2, h.3, h.4, h.5⟩
theorem modDmc (f : Dmc → Dmc) (h : s.Kept p m t) : s.Kept p m (t.modDmc f) := ⟨h.1, h.2, h.3, h.4, h.5⟩
theorem modMec (f : Mec → Mec) (h : s.Kept p m t) : s.Kept p m (t.modMec f) := ⟨h.1, h.2, h.3, h.4, h.5⟩
theorem modHkp (f : Hkp → Hkp) (h : s.Kept p m t) : s.Kept p m (t.modHkp f) := ⟨h.1, h.2, h.3, h.4, h.5⟩
theorem modEvt (f : Evt → Evt) (h : s.Kept p m t) : s.Kept p m (t.modEvt f) := ⟨h.1, h.2, h.3, h.4, h.5⟩
theorem modBoot (f : Boot → Boot) (h : s.Kept p m t) : s.Kept p m (t.modBoot f) := ⟨h.1, h.2, h.3, h.4, h.5⟩
theorem modPci (f : Pci → Pci) (h : s.Kept p m t) : s.Kept p m (t.modPci f) := ⟨h.1, h.2, h.3, h.4, h.5⟩
theorem modMge (f : Mge → Mge) (h : s.Kept p m t) : s.Kept p m (t.modMge f) := ⟨h.1, h.2, h.3, h.4, h.5⟩
theorem modMon (f : Mon → Mon) (h : s.Kept p m t) : s.Kept p m (t.modMon f) := ⟨h.1, h.2, h.3, h.4, h.5⟩
theorem emit (o : Output) (h : s.Kept p m t) : s.Kept p m (t.emit o) := ⟨h.1, h.2, h.3, h.4, h.5⟩
theorem free (h : s.Kept p m t) : s.Kept p m t.free.2 := ⟨h.1, h.2, h.3, h.4, h.5⟩

theorem ite {c : Prop} [Decidable c] {a b : State} (h : s.Kept p m a) (g : s.Kept p m b) : s.Kept p m (if c then a else b) := by
  split <;> assumption

theorem foldl {α : Type} {f : State → α → State} (hf : ∀ u a, s.Kept p m u → s.Kept p m (f u a)) (l : List α) (h : s.Kept p m t) :
    s.Kept p m (l.foldl f t) := by
  induction l generalizing t with
  | nil => exact h
  | cons x l ih => exact ih (hf _ _ h)

theorem raiseAt (src inst stamp : Nat) (vals : List (Nat × Nat)) (hs : src < 512) (hp : ∀ o, evtWindow o → p o) (h : s.Kept p m t) :
    s.Kept p m (t.raiseAt src inst stamp vals) :=
  ⟨State.canonical_raiseAt _ _ _ _ h.canonical, fun o ho => (State.raiseAt_rd _ _ _ _ _ hs (fun e => ho (hp o e))).trans (h.regs o ho),
    fun a ha => by unfold State.byte; rw [State.raiseAt_mem]; exact h.bytes a ha,
    (State.raiseAt_flash _ _ _ _ _).trans h.flash, (State.raiseAt_act _ _ _ _ _).trans h.act⟩

theorem raise (src inst : Nat) (tb : TbIx) (vals : List (Nat × Nat)) (hs : src < 512) (hp : ∀ o, evtWindow o → p o) (h : s.Kept p m t) :
    s.Kept p m (t.raise src inst tb vals) := raiseAt _ _ _ _ hs hp h

theorem setByte (a : Nat) (b : Byte) (ha : m a) (h : s.Kept p m t) : s.Kept p m (t.setByte a b) :=
  ⟨State.canonical_setByte _ _ h.canonical, h.regs,
    fun a' ha' => (State.byte_setByte_ne _ _ (fun e => ha' (by rw [e]; exact ha))).trans (h.bytes a' ha'), h.flash, h.act⟩

theorem wrRaw (a : Nat) (b : List Byte) (ha : ∀ x, a ≤ x → x < a + b.length → m x) (h : s.Kept p m t) : s.Kept p m (t.wrRaw a b) := by
  induction b generalizing a t with
  | nil => exact h
  | cons b l ih =>
    exact ih _ (fun x h1 h2 => ha x (by omega) (by simp only [List.length_cons]; omega))
      (setByte _ _ (ha a (Nat.le_refl _) (by simp only [List.length_cons]; omega)) h)

theorem overrun (i : Nat) (ho : p Reg.GLB_OVERRUN) (h : s.Kept p m t) : s.Kept p m (t.overrun i) := setBit _ _ _ ho h

theorem cmdPosted (h1 : p Reg.GLB_CMD_POSTED) (h2 : p Reg.GLB_CMD_PENDING) (h : s.Kept p m t) : s.Kept p m t.cmdPosted :=
  bump _ _ h2 (bump _ _ h1 h)

theorem cmdDone (code : Nat) (h1 : p Reg.GLB_CMD_DISCARDED) (h2 : p Reg.GLB_CMD_COMPLETED) (h3 : p Reg.GLB_CMD_PENDING) (h : s.Kept p m t) :
    s.Kept p m (t.cmdDone code) := unbump _ _ h3 (ite (bump _ _ h1 h) (bump _ _ h2 h))

theorem advance (k : Nat) (hp : ∀ o, evtWindow o → p o) (h6 : p (Reg.TMB_TB_FREQ 6)) (h : s.Kept p m t) : s.Kept p m (t.advance k) :=
  State.advance_ind (P := s.Kept p m) (fun _ _ _ hu => raiseAt _ _ _ _ (by decide) hp hu) (fun _ f hu => modTmb f hu)
    (fun _ v hu => wr _ v h6 hu) k h

theorem wait (k : Nat) {f : State → State} (hf : ∀ u, s.Kept p m u → s.Kept p m (f u)) (hp : ∀ o, evtWindow o → p o)
    (h6 : p (Reg.TMB_TB_FREQ 6)) (h : s.Kept p m t) : s.Kept p m (t.wait k f) := ite h (hf _ (advance k hp h6 h))

/-! ### Writes to memory -/

theorem setValid (g : Nat) (h1 : p Reg.MEC_GRAN_VALID) (h : s.Kept p m t) : s.Kept p m (t.setValid g) := by
  unfold State.setValid
  exact ite h (bump _ _ h1 (modMec _ h))

theorem fillGranule (g : Nat) (h1 : p Reg.MEC_GRAN_VALID) (h2 : p Reg.MEC_FILLS) (h : s.Kept p m t) : s.Kept p m (t.fillGranule g) := by
  unfold State.fillGranule
  exact ite h (setValid _ h1 (inc _ _ h2 h))

theorem addrError (req a : Nat) (h1 : p Reg.DMC_ADDR_ERR) (h2 : ∀ o, evtWindow o → p o) (h : s.Kept p m t) :
    s.Kept p m (t.addrError req a) := raise _ _ _ _ (by decide) h2 (inc _ _ h1 h)

theorem wrMem (req a : Nat) (b : List Byte) (h1 : p Reg.MEC_GRAN_VALID) (h2 : p Reg.MEC_FILLS) (h3 : p Reg.DMC_ADDR_ERR)
    (h4 : ∀ o, evtWindow o → p o) (ha : ∀ x, a ≤ x → x < a + b.length → m x) (h : s.Kept p m t) : s.Kept p m (t.wrMem req a b) := by
  unfold State.wrMem
  dsimp only
  split
  · exact h
  · split
    · split
      · exact wrRaw _ _ ha (modMec _ (foldl (fun _ _ hu => fillGranule _ h1 h2 hu) _ h))
      · exact wrRaw _ _ ha h
    · split
      · exact foldl (fun _ _ hu => addrError _ _ h3 h4 hu) _ h
      · exact h

end State.Kept

end Sys2Proof.Machine
end

