-- ==== Sys2Proof/Laws/Exchange.lean ====
section
/-!
SUPPORT. What the operations of a Slauf port and of the exchange leave as it was (`State.Kept`): they write their own registers
alone, and memory only where a message is put into an inbound ring.
-/

namespace Sys2Proof.Machine.State.Kept

variable {p m : Nat → Prop} {s t : State}

theorem link_slk {o : Nat} (hl : ∀ o, linkRegs o → p o) (h : o / 0x10000 = 5) : p o := hl o (.inr (.inl h))
theorem link_sxq {o : Nat} (hl : ∀ o, linkRegs o → p o) (h : o / 0x10000 = 6) : p o := hl o (.inr (.inr (.inl h)))
theorem link_q {o : Nat} (hl : ∀ o, linkRegs o → p o) (h : 0x1000000 ≤ o ∧ o % 64 ≠ 0 ∧ o % 64 ≠ 0x10 ∧ o % 64 ≠ 0x14) : p o := hl o (.inr (.inr (.inr (.inl h))))
theorem link_evt (hl : ∀ o, linkRegs o → p o) : ∀ o, evtWindow o → p o := fun o h => hl o (.inl h)
theorem link_freq6 (hl : ∀ o, linkRegs o → p o) : p (Reg.TMB_TB_FREQ 6) := hl _ (.inr (.inr (.inr (.inr (.inr (.inr (.inr (.inr rfl))))))))
theorem link_hop {o : Nat} (hl : ∀ o, linkRegs o → p o) (h : o / 0x100 = 0x40A) : p o := hl o (.inr (.inr (.inr (.inr (.inl h)))))

/-- The registers of an inbound ring's message: the queue's, those of an occurrence, and those of a write to memory. -/
abbrev queueRegs (o : Nat) : Prop :=
  o / 0x10000 = 3 ∨ (0x1000000 ≤ o ∧ o % 64 ≠ 0 ∧ o % 64 ≠ 0x10 ∧ o % 64 ≠ 0x14) ∨ o = Reg.MEC_GRAN_VALID ∨ o = Reg.MEC_FILLS ∨
    o = Reg.DMC_ADDR_ERR

/-- The registers of roll call: the windows of EVT and SXQ. -/
abbrev rollRegs (o : Nat) : Prop := o / 0x10000 = 3 ∨ o / 0x10000 = 6

theorem link_queue (hl : ∀ o, linkRegs o → p o) : ∀ o, queueRegs o → p o := fun o h => hl o (by
  rcases h with h | h | h | h | h
  · exact .inl h
  · exact .inr (.inr (.inr (.inl h)))
  · exact .inr (.inr (.inr (.inr (.inr (.inl h)))))
  · exact .inr (.inr (.inr (.inr (.inr (.inr (.inl h))))))
  · exact .inr (.inr (.inr (.inr (.inr (.inr (.inr (.inl h))))))))
theorem link_roll (hl : ∀ o, linkRegs o → p o) : ∀ o, rollRegs o → p o := fun o h => hl o (h.elim .inl (fun h => .inr (.inr (.inl h))))
theorem queue_evt (hq : ∀ o, queueRegs o → p o) : ∀ o, evtWindow o → p o := fun o h => hq o (.inl h)
theorem queue_q {o : Nat} (hq : ∀ o, queueRegs o → p o) (h : 0x1000000 ≤ o ∧ o % 64 ≠ 0 ∧ o % 64 ≠ 0x10 ∧ o % 64 ≠ 0x14) : p o :=
  hq o (.inr (.inl h))
theorem roll_evt (hr : ∀ o, rollRegs o → p o) : ∀ o, evtWindow o → p o := fun o h => hr o (.inl h)
theorem roll_sxq {o : Nat} (hr : ∀ o, rollRegs o → p o) (h : o / 0x10000 = 6) : p o := hr o (.inr h)

/-! ### Ports -/

theorem enqueue (q : Port) (x : Sheaf) (b : Option Port) (h : s.Kept p m t) : s.Kept p m (t.enqueue q x b) := by
  unfold State.enqueue
  exact ite h (modSlk _ _ h)
theorem keep (q : Port) (x : Sheaf) (h : s.Kept p m t) : s.Kept p m (t.keep q x) := by
  unfold State.keep
  exact modSlk _ _ h
theorem sendLcu (q : Port) (h : s.Kept p m t) : s.Kept p m (t.sendLcu q) := emit _ (modSlk _ _ h)

theorem setTrain (q : Port) (x : Nat) (hl : ∀ o, linkRegs o → p o) (h : s.Kept p m t) : s.Kept p m (t.setTrain q x) :=
  setFld _ _ _ _ (link_slk hl (by unfold Reg.SLK_STATUS; omega)) h

theorem freeTo (n : Nat) (h : s.Kept p m t) : s.Kept p m { t with freeCtr := n } := ⟨h.1, h.2, h.3, h.4, h.5⟩

theorem goTrain (q : Port) (x : Nat) (hl : ∀ o, linkRegs o → p o) (h : s.Kept p m t) : s.Kept p m (t.goTrain q x) := by
  have h1 : s.Kept p m (if x = Train.detect then t.modSlk q (fun y => { y with eqPost := 0, eqPre := 0 }) else t) := ite (modSlk _ _ h) h
  exact emit _ (setTrain _ _ hl (ite (freeTo _ h1) h1))

theorem blockErrs (q : Port) (n : Nat) (hl : ∀ o, linkRegs o → p o) (h : s.Kept p m t) : s.Kept p m (t.blockErrs q n) := by
  unfold State.blockErrs
  exact ite h (inc _ _ (link_slk hl (by unfold Reg.SLK_BLOCK_ERR; omega)) h)

theorem occupy (q : Port) (vc : Fin 4) (n : Nat) (hl : ∀ o, linkRegs o → p o) (h : s.Kept p m t) : s.Kept p m (t.occupy q vc n) :=
  setFld _ _ _ _ (link_slk hl (by unfold Reg.SLK_RXBUF_VC; omega)) h

theorem freeBushels (q : Port) (vc : Fin 4) (n : Nat) (hl : ∀ o, linkRegs o → p o) (h : s.Kept p m t) :
    s.Kept p m (t.freeBushels q vc n) := by
  unfold State.freeBushels
  have h2 := setFld (Reg.SLK_RXBUF_VC q.val vc) 31 16
    ((t.setFld (Reg.SLK_RXBUF_VC q.val vc) 9 0 (t.rxO q vc - n)).rxF q vc + n) (link_slk hl (by unfold Reg.SLK_RXBUF_VC; omega))
    (setFld (Reg.SLK_RXBUF_VC q.val vc) 9 0 (t.rxO q vc - n) (link_slk hl (by unfold Reg.SLK_RXBUF_VC; omega)) h)
  exact ite (sendLcu _ h2) h2

theorem releaseBuffer (w : Waiting) (hl : ∀ o, linkRegs o → p o) (h : s.Kept p m t) : s.Kept p m (t.releaseBuffer w) := by
  unfold State.releaseBuffer
  split
  · exact h
  · exact ite (freeBushels _ _ _ hl h) h

theorem startAs (q : Port) (w : Waiting) (a b : Sheaf) (f : Sheaf → Output) (hl : ∀ o, linkRegs o → p o) (h : s.Kept p m t) :
    s.Kept p m (t.startAs q w a b f) :=
  releaseBuffer _ hl (modSlk _ _ (keep _ _ (emit _ (setFld _ _ _ _ (link_slk hl (by unfold Reg.SLK_CREDIT_VC; omega)) h))))

theorem resend (q : Port) (x : Sheaf) (hl : ∀ o, linkRegs o → p o) (h : s.Kept p m t) : s.Kept p m (t.resend q x) :=
  inc _ _ (link_slk hl (by unfold Reg.SLK_RETX_COUNT; omega)) (emit _ (modSlk _ _
    (setFld _ _ _ _ (link_slk hl (by unfold Reg.SLK_CREDIT_VC; omega)) h)))

theorem resendDue (q : Port) (vc n : Nat) (hl : ∀ o, linkRegs o → p o) (h : s.Kept p m t) : s.Kept p m (t.resendDue q vc n) := by
  induction n generalizing t with
  | zero => exact h
  | succ n ih =>
    unfold State.resendDue
    split
    · exact ih (resend _ _ hl h)
    · exact h

theorem offerStream (q : Port) (x : Sheaf) (hl : ∀ o, linkRegs o → p o) (h : s.Kept p m t) : s.Kept p m (t.offerStream q x) := by
  unfold State.offerStream
  refine ite (enqueue _ _ _ h) (inc _ _ (link_slk hl ?_) h)
  unfold Reg.SLK_DROP_VC0 Reg.SLK_DROP_VC1
  split <;> omega

theorem sheafStart (q : Port) (hl : ∀ o, linkRegs o → p o) (h : s.Kept p m t) : s.Kept p m (t.sheafStart q) := by
  unfold State.sheafStart
  refine ite (emit _ (modSlk _ _ h)) ?_
  split
  · exact resend _ _ hl h
  · exact resend _ _ hl h
  · split
    · exact h
    · split
      · exact h
      · exact startAs _ _ _ _ _ hl (modSlk _ _ h)

theorem dropWaiting (q : Port) (w : Waiting) (hl : ∀ o, linkRegs o → p o) (h : s.Kept p m t) : s.Kept p m (t.dropWaiting q w) := by
  have h1 := releaseBuffer w hl h
  unfold State.dropWaiting
  exact ite (inc _ _ (link_slk hl (by unfold Reg.SLK_DROP_VC0; omega)) h1) (ite (inc _ _ (link_slk hl (by unfold Reg.SLK_DROP_VC1; omega)) h1) (ite (inc _ _ (link_sxq hl (by unfold Reg.SXQ_END_DROP; omega)) h1) h1))

theorem dropQueued (q : Port) (k : Bool) (hl : ∀ o, linkRegs o → p o) (h : s.Kept p m t) : s.Kept p m (t.dropQueued q k) :=
  foldl (fun _ _ hu => dropWaiting _ _ hl hu) _ (modSlk _ _ h)

theorem hopRefresh (q : Port) (hl : ∀ o, linkRegs o → p o) (h : s.Kept p m t) : s.Kept p m (t.hopRefresh q) := by
  have h1 : ∀ x b, s.Kept p m ((t.wrN (Reg.TMB_HOP_DELAY q.val) x).setBit (Reg.TMB_HOP_STATUS q.val) 31 b) := fun x b =>
    setBit _ _ _ (link_hop hl (by unfold Reg.TMB_HOP_STATUS; omega)) (wrN _ _ (link_hop hl (by unfold Reg.TMB_HOP_DELAY; omega)) h)
  unfold State.hopRefresh
  exact ite (raise _ _ _ _ (by decide) (link_evt hl) (h1 _ _)) (h1 _ _)

theorem hopClear (q : Port) (hl : ∀ o, linkRegs o → p o) (h : s.Kept p m t) : s.Kept p m (t.hopClear q) :=
  hopRefresh _ hl (modTmb _ h)

theorem leaveActive (q : Port) (c : Nat) (k : Bool) (hl : ∀ o, linkRegs o → p o) (h : s.Kept p m t) : s.Kept p m (t.leaveActive q c k) :=
  raise _ _ _ _ (by decide) (link_evt hl) (hopClear _ hl (modSlk _ _ (dropQueued _ _ hl (setBit _ _ _ (link_slk hl (by unfold Reg.SLK_PEER_INFO; omega)) h))))

theorem retrainPort (q : Port) (c : Nat) (hl : ∀ o, linkRegs o → p o) (h : s.Kept p m t) : s.Kept p m (t.retrainPort q c) :=
  goTrain _ _ hl (modSlk _ _ (leaveActive _ _ _ hl (inc _ _ (link_slk hl (by unfold Reg.SLK_RETRAIN_COUNT; omega)) (wrN _ _ (link_slk hl (by unfold Reg.SLK_RETRAIN_CAUSE; omega)) h))))

theorem cutShort (q : Port) (x : Sheaf) (hl : ∀ o, linkRegs o → p o) (h : s.Kept p m t) : s.Kept p m (t.cutShort q x) := by
  have h1 := occupy q x.vc x.bushels hl h
  unfold State.cutShort
  exact ite h (ite (startAs _ _ _ _ _ hl h1) (freeBushels _ _ _ hl h1))

theorem loseUnits (q : Port) (hl : ∀ o, linkRegs o → p o) (h : s.Kept p m t) : s.Kept p m (t.loseUnits q) := by
  have h1 := raise Ev.unitSyncLoss q.val 0 [] (by decide) (link_evt hl) (inc (Reg.SLK_UNIT_SYNC_LOSS q.val) 1
    (link_slk hl (by unfold Reg.SLK_UNIT_SYNC_LOSS; omega)) (modSlk q (fun x => { x with unitLost := true, rxLeft := 0, rxHead := [] }) h))
  unfold State.loseUnits
  refine ite h ?_
  dsimp only
  split
  · exact ite (cutShort _ _ hl h1) h1
  · exact h1

theorem censusAll (h : s.Kept p m t) : s.Kept p m t.censusAll := foldl (fun _ _ hu => ite (modSlk _ _ hu) hu) _ h

theorem uncount (q : Port) (h : s.Kept p m t) : s.Kept p m (t.uncount q) := foldl (fun _ _ hu => modSlk _ _ hu) _ h

theorem pairFollow (q : Port) (h : s.Kept p m t) : s.Kept p m (t.pairFollow q) := by
  unfold State.pairFollow
  exact modSxq _ h

theorem foldlMem {α : Type} {f : State → α → State} (l : List α) (hf : ∀ u a, a ∈ l → s.Kept p m u → s.Kept p m (f u a)) (h : s.Kept p m t) :
    s.Kept p m (l.foldl f t) := by
  induction l generalizing t with
  | nil => exact h
  | cons x l ih => exact ih (fun u a ha => hf u a (List.mem_cons_of_mem _ ha)) (hf _ _ (List.mem_cons_self ..) h)

theorem enterActive (q : Port) (hl : ∀ o, linkRegs o → p o) (h : s.Kept p m t) : s.Kept p m (t.enterActive q) := by
  have h1 : ∀ u : State, s.Kept p m u → s.Kept p m ((List.range 4).foldl (fun s vc => (s.wr (Reg.SLK_CREDIT_VC q.val vc) 0).wr (Reg.SLK_RXBUF_VC q.val vc) 0) u) :=
    fun u hu => foldlMem _ (fun v a ha hv => by
      have := List.mem_range.1 ha
      exact wr _ _ (link_slk hl (by unfold Reg.SLK_RXBUF_VC; omega)) (wr _ _ (link_slk hl (by unfold Reg.SLK_CREDIT_VC; omega)) hv)) hu
  have h2 : ∀ u : State, s.Kept p m u → ∀ x, s.Kept p m ((List.range 4).foldl (fun s k => s.wrN (Reg.SLK_PEER_UID q.val k) (x / 2 ^ (32 * k))) u) :=
    fun u hu x => foldlMem _ (fun v a ha hv => by
      have := List.mem_range.1 ha
      exact wrN _ _ (link_slk hl (by unfold Reg.SLK_PEER_UID; omega)) hv) hu
  have h3 : ∀ u : State, s.Kept p m u → ∀ x, s.Kept p m (((u.wrN (Reg.SLK_PEER_INFO q.val) x).setTrain q Train.active).raise Ev.linkUp q.val 0 []) :=
    fun u hu x => raise _ _ _ _ (by decide) (link_evt hl) (setTrain _ _ hl (wrN _ _ (link_slk hl (by unfold Reg.SLK_PEER_INFO; omega)) hu))
  unfold State.enterActive
  dsimp only
  have h4 := fun a b => h3 _ (h2 _ (h1 _ (modSlk q (fun x => { x.fresh with
    lastPeer := some (peerUidOf t.slk[q].peerSets), retraining := false, incompatible := false, versionRaised := false }) (uncount q h))) a) b
  split
  · split
    · exact h4 _ _
    · exact raise _ _ _ _ (by decide) (link_evt hl) (h4 _ _)
  · exact h4 _ _

/-! ### Messages -/

theorem sendOn (q : Port) (dst cls id code : Nat) (body : List Byte) (h : s.Kept p m t) : s.Kept p m (t.sendOn q dst cls id code body) := by
  unfold State.sendOn
  exact ite (modRoll _ _ h) (foldl (fun _ _ hu => enqueue _ _ _ hu) _ h)

theorem releaseHeld (q : Port) (h : s.Kept p m t) : s.Kept p m (t.releaseHeld q) :=
  foldl (fun _ _ hu => enqueue _ _ _ hu) _ (modRoll _ _ h)

theorem sendTo (dst cls id code : Nat) (body : List Byte) (hl : ∀ o, linkRegs o → p o) (h : s.Kept p m t) :
    s.Kept p m (t.sendTo dst cls id code body).1 := by
  unfold State.sendTo
  split
  · exact foldl (fun _ _ hu => sendOn _ _ _ _ _ _ hu) _ h
  · split
    · exact sendOn _ _ _ _ _ _ h
    · exact inc _ _ (link_sxq hl (by unfold Reg.SXQ_NOROUTE; omega)) h

theorem setReserved (q n : Nat) (h : s.Kept p m t) : s.Kept p m (t.setReserved q n) := modSxq _ h
theorem requestMsix (v : Nat) (h : s.Kept p m t) : s.Kept p m (t.requestMsix v) := modEvt _ h
theorem remember (o : Outcome) (h : s.Kept p m t) : s.Kept p m (t.remember o) := by
  unfold State.remember
  exact modSxq _ h
theorem popOut (q : QueueIx) (hl : ∀ o, linkRegs o → p o) (h : s.Kept p m t) : s.Kept p m (t.popOut q) := by
  unfold State.popOut
  exact modSxq _ (setFld _ _ _ _ (link_q hl (by unfold Reg.Q_OUT_IDX; omega)) h)
theorem track (q : QueueIx) (a b c : Nat) (r : Port) (v : Option Path) (h : s.Kept p m t) : s.Kept p m (t.track q a b c r v) := by
  unfold State.track
  exact modSxq _ h

theorem respond (x : Msg) (cls code : Nat) (body : List Byte) (h : s.Kept p m t) : s.Kept p m (t.respond x cls code body) :=
  sendOn _ _ _ _ _ _ (remember _ h)

theorem queueIrq (q : Nat) (hq : ∀ o, queueRegs o → p o) (h : s.Kept p m t) : s.Kept p m (t.queueIrq q) := by
  unfold State.queueIrq
  split
  · have hs : t.fld (Reg.Q_IRQ q) 8 0 < 512 := bits_lt _ _ _
    have h1 : s.Kept p m (if (t.mode == 0) = true then t.requestMsix (t.fld (Reg.Q_IRQ q) 24 16)
        else t.emit (.coreIrq (t.fld (Reg.Q_IRQ q) 24 16))) := ite (requestMsix _ h) (emit _ h)
    exact ite (raise _ _ _ _ hs (queue_evt hq) h1) h1
  · exact h

theorem queueDone (q code : Nat) (hq : ∀ o, queueRegs o → p o) (h : s.Kept p m t) : s.Kept p m (t.queueDone q code) :=
  setFld _ _ _ _ (queue_q hq (by unfold Reg.Q_STAT; omega)) (unbump _ _ (queue_q hq (by unfold Reg.Q_PENDING; omega)) (ite (bump _ _ (queue_q hq (by unfold Reg.Q_DISCARDED; omega)) h) (bump _ _ (queue_q hq (by unfold Reg.Q_COMPLETED; omega)) h)))

theorem link_mem (hq : ∀ o, queueRegs o → p o) : p Reg.MEC_GRAN_VALID ∧ p Reg.MEC_FILLS ∧ p Reg.DMC_ADDR_ERR :=
  ⟨hq Reg.MEC_GRAN_VALID (by decide), hq Reg.MEC_FILLS (by decide), hq Reg.DMC_ADDR_ERR (by decide)⟩

/-- A message put into an inbound ring writes the slot at in_tail. -/
theorem fillInbound (q cmdId code peer target : Nat) (body : List Byte) (hq : ∀ o, queueRegs o → p o)
    (hm : ∀ x, t.inSlotAt q x → m x)
    (h : s.Kept p m t) : s.Kept p m (t.fillInbound q cmdId code peer target body) := by
  have hb : ∀ target, (slotHeader cmdId body.length (0x80 + code) peer target ++ body.take (t.slotBytes q - 16)).length ≤ t.slotBytes q := by
    intro target
    have h1 : (slotHeader cmdId body.length (0x80 + code) peer target).length = 16 := rfl
    have h2 : 64 ≤ t.slotBytes q := by
      unfold State.slotBytes
      exact Nat.le_trans (by decide : 64 ≤ 2 ^ (0 + 6)) (Nat.pow_le_pow_right (by decide) (by omega))
    rw [List.length_append, h1, List.length_take]; omega
  unfold State.fillInbound
  refine queueIrq _ hq (setFld _ _ _ _ (queue_q hq (by unfold Reg.Q_IN_IDX; omega)) (wrMem _ _ _ (link_mem hq).1 (link_mem hq).2.1 (link_mem hq).2.2 (queue_evt hq) ?_ h))
  exact fun x h1 h2 => hm x ⟨h1, Nat.lt_of_lt_of_le h2 (Nat.add_le_add_left (hb _) _)⟩

theorem placeInbound (q cmdId code peer target : Nat) (body : List Byte) (hq : ∀ o, queueRegs o → p o)
    (hm : ∀ x, t.inSlotAt q x → m x)
    (h : s.Kept p m t) : s.Kept p m (t.placeInbound q cmdId code peer target body) := by
  unfold State.placeInbound
  exact ite (fillInbound _ _ _ _ _ _ hq hm h) (raise _ _ _ _ (by decide) (queue_evt hq) (incFld _ _ _ _ (queue_q hq (by unfold Reg.Q_IN_DROP; omega)) h))

/-- The rings stay where they are as long as no Q_CTL and no inbound base is written: a slot at in_tail lies in a ring of the first state. -/
theorem slot_inRing (hp : ∀ o, p o → 0x1000000 ≤ o → o % 64 ≠ 0 ∧ o % 64 ≠ 0x10 ∧ o % 64 ≠ 0x14) (hm : ∀ a, s.inRing a → m a)
    (u : State) (h : s.Kept p m u) (q x : Nat) (hx : u.inSlotAt q x) : m x := by
  have e1 : u.rd (Reg.Q_CTL q) = s.rd (Reg.Q_CTL q) := h.regs _ (fun hh => (hp _ hh (by unfold Reg.Q_CTL; omega)).1 (by unfold Reg.Q_CTL; omega))
  have e2 : u.rd (Reg.Q_IN_BASE_LO q) = s.rd (Reg.Q_IN_BASE_LO q) := h.regs _ (fun hh =>
    (hp _ hh (by unfold Reg.Q_IN_BASE_LO; omega)).2.1 (by unfold Reg.Q_IN_BASE_LO; omega))
  have e3 : u.rd (Reg.Q_IN_BASE_LO q + 4) = s.rd (Reg.Q_IN_BASE_LO q + 4) := h.regs _ (fun hh =>
    (hp _ hh (by unfold Reg.Q_IN_BASE_LO; omega)).2.2 (by unfold Reg.Q_IN_BASE_LO; omega))
  refine hm x ⟨q, ?_⟩
  have f1 : u.slotBytes q = s.slotBytes q := by unfold State.slotBytes; rw [State.fld_of_rd_eq e1]
  have f2 : u.inSlots q = s.inSlots q := by unfold State.inSlots; rw [State.fld_of_rd_eq e1]
  have f3 : u.addr (Reg.Q_IN_BASE_LO q) = s.addr (Reg.Q_IN_BASE_LO q) := by unfold State.addr; rw [e2, State.fld_of_rd_eq e3]
  unfold State.inSlotAt at hx
  rw [f1, f2, f3] at hx
  have h0 : 0 < s.inSlots q := Nat.two_pow_pos _
  have h1 := Nat.mod_lt (u.inTail q) h0
  have h2 : (u.inTail q % s.inSlots q + 1) * s.slotBytes q ≤ s.inSlots q * s.slotBytes q := Nat.mul_le_mul_right _ h1
  rw [Nat.add_mul, Nat.one_mul] at h2
  exact ⟨by omega, by omega⟩

theorem mgeReply (a b c d : Nat) (body : List Byte) (h : s.Kept p m t) : s.Kept p m (t.mgeReply a b c d body) :=
  emit _ (modMge _ (free h))

theorem monPrint (l : List String) (code : Nat) (h : s.Kept p m t) : s.Kept p m (t.monPrint l code) := foldl (fun _ _ hu => emit _ hu) _ h

theorem answerPath (o : Outstanding) (code : Nat) (body : List Byte) (h : s.Kept p m t) : s.Kept p m (t.answerPath o code body) := by
  unfold State.answerPath
  split
  · split
    · exact mgeReply _ _ _ _ _ (modMge _ h)
    · exact h
  · split
    · exact monPrint _ _ (modMon _ h)
    · exact h
  · exact h

/-- The completion of an outstanding command may write an inbound slot, and no other memory. -/
theorem completeOutstanding (o : Outstanding) (code c : Nat) (body : List Byte) (hq : ∀ o, queueRegs o → p o) (hm : ∀ u, s.Kept p m u → ∀ q x, u.inSlotAt q x → m x)
    (h : s.Kept p m t) : s.Kept p m (t.completeOutstanding o code c body) := by
  unfold State.completeOutstanding
  dsimp only
  split
  · exact answerPath _ _ _ (modSxq _ h)
  · have h1 := fun a b c d => setFld (p := p) (Reg.Q_STAT o.q.toNat) 15 0 d (queue_q hq (by unfold Reg.Q_STAT; omega)) (queueDone o.q.toNat a hq (setReserved b c (modSxq
      (fun g => { g with outstanding := dropFirst o t.sxq.outstanding }) h)))
    exact fillInbound _ _ _ _ _ _ hq (hm _ (h1 _ _ _ _) _) (h1 _ _ _ _)

theorem sendQuery (o : Outstanding) (hl : ∀ o, linkRegs o → p o) (h : s.Kept p m t) : s.Kept p m (t.sendQuery o) := by
  unfold State.sendQuery
  split
  · exact h
  · next q _ =>
    have h1 := inc (p := p) Reg.SXQ_QUERY_COUNT 1 (link_sxq hl rfl) (sendOn q o.dst 7 o.cmdId 0 (leBytes 16 (t.uidOf o.dst)) h)
    exact ite h (ite h1 (raise _ _ _ _ (by decide) (link_evt hl) (modSxq _ h1)))

theorem noteCompletion (dst : Nat) (x : OutMsg) (h : s.Kept p m t) : s.Kept p m (t.noteCompletion dst x) := by
  unfold State.noteCompletion
  exact ite (remember _ h) h

/-- What the message at out_head leaves behind: at most an inbound slot of its own queue. -/
theorem sendRefused (q : QueueIx) (x : OutMsg) (hl : ∀ o, linkRegs o → p o) (hm : ∀ u, s.Kept p m u → ∀ q x, u.inSlotAt q x → m x)
    (h : s.Kept p m t) : s.Kept p m (t.sendRefused q x) := by
  have h1 := queueDone q.toNat Code.REFUSED (link_queue hl) (popOut q hl h)
  exact ite (fillInbound _ _ _ _ _ _ (link_queue hl) (hm _ h1 _) h1) h1

theorem sendLeft (q : QueueIx) (x : OutMsg) (d : Nat) (r : Port) (hl : ∀ o, linkRegs o → p o) (h : s.Kept p m t) :
    s.Kept p m (t.sendLeft q x d r) :=
  ite (setReserved _ _ (setFld _ _ _ _ (link_q hl (by unfold Reg.Q_STAT; omega)) (popOut _ hl (track _ _ _ _ _ _ h))))
    (queueDone _ _ (link_queue hl) (popOut _ hl h))

theorem queueSend (q : QueueIx) (hl : ∀ o, linkRegs o → p o) (hm : ∀ u, s.Kept p m u → ∀ q x, u.inSlotAt q x → m x) (h : s.Kept p m t) :
    s.Kept p m (t.queueSend q) := by
  have h1 := setBit (p := p) (Reg.Q_STAT q.toNat) 31 false (link_q hl (by unfold Reg.Q_STAT; omega)) h
  unfold State.queueSend
  dsimp only
  generalize t.outMsg q.toNat = x
  refine ite (ite h (raise _ _ _ _ (by decide) (link_evt hl) (setBit _ _ _ (link_q hl (by unfold Reg.Q_STAT; omega)) h))) ?_
  refine ite (sendRefused _ _ hl hm h1) (ite ?_ ?_)
  · have h2 := sendTo (qDev q.toNat) (qCls x.peer) x.cmdId x.code x.body hl (noteCompletion (qDev q.toNat) x h1)
    exact ite (sendLeft _ _ _ _ hl h2) (sendRefused _ _ hl hm h2)
  · split
    · exact sendRefused _ _ hl hm h1
    · exact sendLeft _ _ _ _ hl (sendOn _ _ _ _ _ _ (noteCompletion _ _ h1))

/-! ### Roll call -/

theorem rollStatus (hr : ∀ o, rollRegs o → p o) (h : s.Kept p m t) : s.Kept p m t.rollStatus := wrN _ _ (roll_sxq hr rfl) h

theorem joinRoll (q : Port) (h : s.Kept p m t) : s.Kept p m (t.joinRoll q) := by
  unfold State.joinRoll
  exact ite (ite h (modSxq _ h)) (modSxq _ h)

theorem beginRoll (q : Port) (hr : ∀ o, rollRegs o → p o) (h : s.Kept p m t) : s.Kept p m (t.beginRoll q) := by
  unfold State.beginRoll
  dsimp only
  exact ite h (ite (modBoot _ h) (sendOn _ _ _ _ _ _ (raise _ _ _ _ (by decide) (roll_evt hr) (rollStatus hr (setFld _ _ _ _ (roll_sxq hr rfl)
    (joinRoll _ (modRoll _ _ (setBit _ _ _ (roll_sxq hr (by unfold Reg.SXQ_PORT_STATE; omega))
      (setFld _ _ _ _ (roll_sxq hr (by unfold Reg.SXQ_PORT_STATE; omega)) h)))))))))

theorem startRoll (q : Port) (hr : ∀ o, rollRegs o → p o) (h : s.Kept p m t) : s.Kept p m (t.startRoll q) :=
  beginRoll _ hr (ite (inc _ _ (roll_sxq hr rfl) h) h)

theorem autoRoll (q : Port) (hr : ∀ o, rollRegs o → p o) (h : s.Kept p m t) : s.Kept p m (t.autoRoll q) := by
  unfold State.autoRoll
  exact ite (startRoll _ hr h) h

theorem rollStart (v : Word) (hr : ∀ o, rollRegs o → p o) (h : s.Kept p m t) : s.Kept p m (t.rollStart v) := by
  have h1 := wr (p := p) Reg.SXQ_ROLL_CTL (v &&& 0xFFFF01F0) (roll_sxq hr rfl) h
  unfold State.rollStart
  exact ite (foldl (fun _ _ hu => startRoll _ hr hu) _ h1) h1

theorem changeTx (hr : ∀ o, rollRegs o → p o) (h : s.Kept p m t) : s.Kept p m t.changeTx := by
  have h1 := foldl (f := fun s (x : Nat × Nat × Port × Nat) =>
      s.sendOn x.2.2.1 x.2.2.2 5 0 0 (rollBody RollKind.change x.2.1 0 1 x.1 x.2.2.2 0 [s.ownEntry x.2.2.1]))
    (fun _ _ hu => sendOn _ _ _ _ _ _ hu) t.sxq.seen h
  unfold State.changeTx
  exact ite h1 (raise _ _ _ _ (by decide) (roll_evt hr) h1)

theorem linkChanged (q : Port) (hr : ∀ o, rollRegs o → p o) (h : s.Kept p m t) : s.Kept p m (t.linkChanged q) := by
  unfold State.linkChanged
  exact ite (autoRoll _ hr h) (ite (changeTx hr h) h)

theorem rollEnds (q : Port) (code : Nat) (h : s.Kept p m t) : s.Kept p m (t.rollEnds q code) := releaseHeld _ (modRoll _ _ h)

theorem enumReturned (q : Port) (b : List Byte) (hr : ∀ o, rollRegs o → p o) (h : s.Kept p m t) : s.Kept p m (t.enumReturned q b) := by
  have h1 : s.Kept p m (if (rollFlags b).testBit 0 = true then t.raise Ev.chainTooLong q.val 0 [] else t) :=
    ite (raise _ _ _ _ (by decide) (roll_evt hr) h) h
  unfold State.enumReturned
  dsimp only
  refine ite h ?_
  generalize (if (rollFlags b).testBit 0 = true then t.raise Ev.chainTooLong q.val 0 [] else t) = u at *
  refine ite ?_ (sendOn _ _ _ _ _ _ (modRoll _ _ (modRoll _ _ h1)))
  split
  · exact rollEnds _ _ (modRoll _ _ (setFld _ _ _ _ (roll_sxq hr (by unfold Reg.SXQ_PORT_STATE; omega)) (modRoll _ _ h1)))
  · exact modRoll _ _ (modRoll _ _ h1)

theorem enumArrives (q : Port) (b : List Byte) (h : s.Kept p m t) : s.Kept p m (t.enumArrives q b) := by
  have h1 : ∀ a c d, s.Kept p m (t.noteSeen a c q d) := fun a c d => modSxq _ h
  unfold State.enumArrives
  dsimp only
  split
  · exact h
  · split
    · exact ite (sendOn _ _ _ _ _ _ (h1 _ _ _)) (h1 _ _ _)
    · exact ite (sendOn _ _ _ _ _ _ (h1 _ _ _)) (ite (sendOn _ _ _ _ _ _ (h1 _ _ _)) (sendOn _ _ _ _ _ _ (h1 _ _ _)))

/-! ### What leaves ACTIVE -/

theorem queryAbandoned (l : List Sheaf) (hl : ∀ o, linkRegs o → p o) (h : s.Kept p m t) : s.Kept p m (t.queryAbandoned l) := by
  unfold State.queryAbandoned
  refine foldl (fun u a hu => ?_) _ h
  split
  · exact sendQuery _ hl hu
  · exact hu

theorem retrain (q : Port) (c : Nat) (hl : ∀ o, linkRegs o → p o) (h : s.Kept p m t) : s.Kept p m (t.retrain q c) := by
  unfold State.retrain
  exact ite (linkChanged _ (link_roll hl) (queryAbandoned _ hl (retrainPort _ _ hl h))) h

theorem enableWrite (q : Port) (on : Bool) (hl : ∀ o, linkRegs o → p o) (h : s.Kept p m t) : s.Kept p m (t.enableWrite q on) := by
  have h0 := setBit (p := p) (Reg.SLK_CTL q.val) 0 on (link_slk hl (by unfold Reg.SLK_CTL; omega)) h
  unfold State.enableWrite
  dsimp only
  split
  · exact ite (goTrain _ _ hl h0) h0
  · have h1 := setFld (p := p) (Reg.SLK_STATUS q.val) 3 0 0 (link_slk hl (by unfold Reg.SLK_STATUS; omega)) (setTrain q Train.disabled hl
      (ite (c := (t.setBit (Reg.SLK_CTL q.val) 0 on).active q = true) (leaveActive q 0 false hl h0) (dropQueued q false hl h0)))
    exact ite (linkChanged _ (link_roll hl) (queryAbandoned _ hl h1)) (queryAbandoned _ hl h1)

theorem censusCheck (q : Port) (b : List Byte) (hl : ∀ o, linkRegs o → p o) (h : s.Kept p m t) :
    s.Kept p m (t.censusCheck q b) := by
  have h0 : ∀ x, s.Kept p m ((t.bumpFld (Reg.SLK_CENSUS_STATUS q.val) 31 16).setFld (Reg.SLK_CENSUS_STATUS q.val) 3 0 x) := fun x =>
    setFld _ _ _ _ (link_slk hl (by unfold Reg.SLK_CENSUS_STATUS; omega)) (bumpFld _ _ _ _ (link_slk hl (by unfold Reg.SLK_CENSUS_STATUS; omega)) h)
  unfold State.censusCheck
  dsimp only
  split
  · exact modSlk _ _ (h0 _)
  · have h1 : ∀ x f, s.Kept p m (((((t.bumpFld (Reg.SLK_CENSUS_STATUS q.val) 31 16).setFld (Reg.SLK_CENSUS_STATUS q.val) 3 0 x).inc
      (Reg.SLK_CENSUS_FAIL q.val)).raise Ev.censusMismatch q.val 0 []).modSlk q f) := fun x f =>
      modSlk _ _ (raise _ _ _ _ (by decide) (link_evt hl) (inc _ _ (link_slk hl (by unfold Reg.SLK_CENSUS_FAIL; omega)) (h0 x)))
    exact ite (retrain _ _ hl (h1 _ _)) (h1 _ _)

theorem deadlinePassed (q : Port) (bulk : Bool) (hl : ∀ o, linkRegs o → p o) (h : s.Kept p m t) : s.Kept p m (t.deadlinePassed q bulk) := by
  unfold State.deadlinePassed
  dsimp only
  split
  · exact h
  · exact ite h (ite (retrain _ _ hl h) (resendDue _ _ _ hl (modSlk _ _ h)))

end Sys2Proof.Machine.State.Kept
end

