-- ==== Sys2Proof/WellFormed.lean ====
section
/-!
DEFINITION. Well-formed commands: their numbers fit the fields that carry them, and their byte strings have the lengths that the
interfaces give them.
-/

namespace Sys2Proof

/-- R185, R189, R193: the fields of a message fit its header, and its body the longest message. -/
def msgWf (m : Msg) : Bool :=
  decide (m.src < 1024) && decide (m.dst < 1024) && decide (m.cls < 64) && decide (m.srcCls < 64) && decide (m.cmdId < 2 ^ 32) &&
    decide (m.epoch < 256) && decide (m.code < 16) && decide (m.body.length < 2 ^ 16)

/-- R97: the fields of a SYNC block fit its payload. -/
def syncWf (b : SyncBlock) : Bool :=
  decide (b.seq < 256) && decide (b.tb0 < 2 ^ 48) && decide (b.tb1 < 2 ^ 48) && decide (b.nextFrame < 2 ^ 32) &&
    decide (b.nextTickNs < 2 ^ 32) && decide (b.nextTickRem < 9) && decide (b.rate < 32) && decide (b.hops < 128) &&
    decide (b.leaderState < 4)

/-- R671: addresses, ports and the length of a frame. -/
def datagramWf (ip port dport : Nat) (b : List Byte) : Bool :=
  decide (ip < 2 ^ 32) && decide (port < 2 ^ 16) && decide (dport < 2 ^ 32) && decide (b.length ≤ 1472)

/-- R14: the bytes of a word that a read covers: 1 to 4, within the word. -/
def accessWf (off width : Nat) : Bool := decide (1 ≤ width) && decide (off % 4 + width ≤ 4)

/-- Whether a command is well-formed. -/
def WellFormed (i : Instr) : Bool :=
  match i with
  | .porstNRelease _ _ => true
  | .porstNAssert _ => true
  | .supplyMonitorReset => true
  | .vbatLost => true
  | .registerWrite _ off width _ => decide (off < 2 ^ 28) && (width == 1 || width == 2 || width == 4 || width == 8)
  | .rcRead _ off width coincident => decide (off < 2 ^ 28) && accessWf off width && coincident.all (fun e => decide (e.1 < 32) && decide (e.2 < 2 ^ 32))
  | .counterLowRead _ off width => decide (off < 2 ^ 28) && accessWf off width
  | .tick => true
  | .commitPost _ _ => true
  | .subtreeCommitDeadline => true
  | .preframePublicationPoint => true
  | .snapStart _ => true
  | .snapCapture => true
  | .tbWrap _ => true
  | .servoMeasurement _ e _ => decide (-(2 ^ 47 : Int) ≤ e) && decide (e < 2 ^ 47)
  | .servoHoldoverTimeout _ _ => true
  | .servoForceHoldover _ => true
  | .tbSet _ => true
  | .tbFreqWrite _ _ => true
  | .aonSecLoadRequest => true
  | .aonSecondRollover => true
  | .ptpSyncRx m => decide (m.domain < 256) && decide (m.sec < 2 ^ 48) && decide (m.ns < 1000000000) && decide (m.frac < 2 ^ 16) && decide (m.t2 < 2 ^ 48)
  | .ptpDelayRespRx _ domain t1 t2 t3 t4 => decide (domain < 256) && decide (t1 < 2 ^ 48) && decide (t2 < 2 ^ 48) && decide (t3 < 2 ^ 48) && decide (t4 < 2 ^ 48)
  | .hopDelayInterval => true
  | .delayReqRx _ _ seq turn => decide (seq < 256) && decide (turn ≤ 2000 * 2 ^ 16)
  | .delayRespRx _ _ seq t2 t3 => decide (seq < 256) && decide (t2 < 2 ^ 48) && decide (t3 < 2 ^ 48)
  | .delayRespTimeout _ => true
  | .syncInterval => true
  | .syncRx _ _ b => syncWf b
  | .syncInEdge => true
  | .syncInLost => true
  | .tb1OffsetFeed => true
  | .audioEdgeFeed _ => true
  | .frameAlignGo => true
  | .laneBlockLock _ _ => true
  | .laneBlockLockLoss _ _ _ => true
  | .markerTx _ _ _ => true
  | .skipTx _ => true
  | .markerRx _ block _ _ => block.length == 16
  | .skipRx _ _ _ => true
  | .codeWordRx _ badHeaders errBytes units =>
    decide (badHeaders ≤ 18) && decide (errBytes ≤ 288) && units.length == 16 && units.all (fun u => u.length == 16)
  | .sheafRx _ hdr payload => hdr.length == 32 && decide (payload.length ≤ 4096)
  | .sheafStart _ => true
  | .sheafWithdraw _ _ => true
  | .lcuRx _ unit => unit.length == 16
  | .lcuFlushTimeout _ => true
  | .censusPreframeTimer => true
  | .censusRx _ body => body.length == 16
  | .retxDeadline _ _ => true
  | .trainStateAdvance _ info => info.sets.toList.all (fun b => b.length == 16)
  | .trainTimeout _ => true
  | .configRetry _ => true
  | .ts1Rx _ block => block.length == 16
  | .slkRetrain _ => true
  | .slkEnableWrite _ _ => true
  | .queuePost _ _ => true
  | .queueSend _ => true
  | .inHeadWrite _ _ => true
  | .reachRead m => msgWf m
  | .reachWrite m => msgWf m
  | .reachMaskedWrite m => msgWf m
  | .reachResponseRx m => msgWf m
  | .commitMsgRx m => msgWf m
  | .completionRx m => msgWf m
  | .eventRecordRx m => msgWf m
  | .queryRx m => msgWf m
  | .queryAnswerRx m => msgWf m
  | .responseTimeout _ cmdId => decide (cmdId < 2 ^ 32)
  | .rollStart _ => true
  | .enumRx m => msgWf m
  | .enumReturnRx m => msgWf m
  | .assignRx m => msgWf m
  | .assignAckRx m => msgWf m
  | .changeRx m => msgWf m
  | .rollTimeout _ => true
  | .rollListenRetry _ => true
  | .streamSlotRelease _ => true
  | .digestRx _ body => decide (body.length ≤ 4096)
  | .leasePreframeTimer => true
  | .leaseRx m => msgWf m
  | .leaseExpiry _ => true
  | .leaseDeadlineMiss _ => true
  | .holderDecideTimeout _ => true
  | .shunRx m => msgWf m
  | .unshunRx m => msgWf m
  | .claimRaise _ => true
  | .claimUnmute _ => true
  | .claimUnshun _ => true
  | .claimDrop _ => true
  | .sdiLock _ _ _ _ => true
  | .sdiUnlock _ => true
  | .sourceFrameComplete _ f => decide (f.width ≤ 8192) && decide (f.height ≤ 4320)
  | .st2110PacketRx _ k => decide (k.ts < 2 ^ 32) && decide (k.seq < 2 ^ 32) && decide (k.rows.length ≤ 3)
  | .st2110AudioPacketRx _ k => decide (k.ts < 2 ^ 32)
  | .ethLinkChange _ _ _ _ => true
  | .hostPullPost _ _ => true
  | .hostPullDone _ _ _ _ => true
  | .sourceLossTimeout _ => true
  | .audioStreamLossTimeout _ => true
  | .inpReset => true
  | .canvasComplete _ _ => true
  | .cmpFetchError _ addr _ => decide (addr < 2 ^ 40)
  | .loafEccError _ => true
  | .cmpReset => true
  | .scnSheafStart _ => true
  | .scnTransportGuard _ => true
  | .scnStarve _ => true
  | .monitorFrameStart => true
  | .monitorLine _ _ => true
  | .regionHeaderRx stream frame body => decide (stream < 2 ^ 16) && decide (frame < 2 ^ 32) && decide (body.length ≤ 4096)
  | .pixelSheafRx stream frame index body => decide (stream < 2 ^ 16) && decide (frame < 2 ^ 32) && decide (index < 2 ^ 16) && decide (body.length ≤ 4096)
  | .trailerRx stream frame body => decide (stream < 2 ^ 16) && decide (frame < 2 ^ 32) && decide (body.length ≤ 4096)
  | .correctionDone _ => true
  | .corTableError _ addr _ => decide (addr < 2 ^ 40)
  | .corReset => true
  | .furrowEnumReturn _ _ => true
  | .furrowEnumRetry _ => true
  | .furrowSyncReturn _ _ => true
  | .furrowLoopTimeout _ => true
  | .furrowRxLockLoss _ => true
  | .furrowRxLock _ => true
  | .subframeUpload _ => true
  | .subframeStart _ => true
  | .furFetchError addr _ => decide (addr < 2 ^ 40)
  | .furAccessRead _ => true
  | .furAccessWrite _ => true
  | .furrowPacketReturn _ _ => true
  | .furReset => true
  | .companionSync _ _ _ => true
  | .companionTimedPacket _ _ _ => true
  | .companionLine _ _ _ _ => true
  | .companionLineOff _ _ => true
  | .companionData _ _ _ => true
  | .companionWrite _ _ _ => true
  | .companionRead _ _ _ => true
  | .companionEnum _ _ _ => true
  | .companionTest _ _ _ _ => true
  | .rowDriverWatchdog _ _ => true
  | .companionLockLoss _ _ => true
  | .lmpMapClear _ _ _ _ => true
  | .lmpTableLoad _ => true
  | .lmpReset => true
  | .calSample _ _ => true
  | .calSolveGo _ => true
  | .calSolveAbort => true
  | .calSolveStepDone => true
  | .calAdcSync => true
  | .calReset => true
  | .audAnchorLoad => true
  | .audioGroupLost _ => true
  | .audioGroupBack _ => true
  | .audioGroupMeasured _ => true
  | .audioSheafTx _ => true
  | .audioSheafRx stream body => decide (stream < 2 ^ 16) && decide (body.length ≤ 4096)
  | .audioSamplesMissing _ => true
  | .audReset => true
  | .dmcTrain _ => true
  | .dmcTrainDone _ _ _ _ => true
  | .dmcMapWrite _ => true
  | .dramRequest _ _ write addr len data => decide (addr + len ≤ 2 ^ 40) && (!write || data.length == len)
  | .dramIssue _ => true
  | .dramAgeRaise _ => true
  | .refreshDue _ => true
  | .refreshPayback _ => true
  | .refreshPullIn _ => true
  | .deratePoll _ => true
  | .rhThrottleEnd _ => true
  | .dmcFreqGo _ => true
  | .dmcFreqChange => true
  | .dmcFreqTimeout => true
  | .dmcWckTracking => true
  | .dmcReset => true
  | .mecReadDecode _ _ => true
  | .mecFillDone => true
  | .mecChForce _ => true
  | .mecGranQuery _ => true
  | .mecTrim _ => true
  | .mecTrimDone => true
  | .gleanerRead _ => true
  | .gleanerWriteback => true
  | .gleanerLapSlow => true
  | .mecReset => true
  | .granaryRead _ flips => decide (flips ≤ 72)
  | .granaryScrub _ flips => decide (flips ≤ 72)
  | .hkpSlotEnd _ _ => true
  | .shutdownDeferEnd _ => true
  | .analogTrip => true
  | .ledgerWrite => true
  | .ledgerDrain => true
  | .ledgerFlushTimeout => true
  | .evtDramRdWrite _ => true
  | .evtDramRingSet _ _ => true
  | .evtDramEnable _ => true
  | .msixSend => true
  | .msixHoldoffEnd _ => true
  | .eventForward => true
  | .evtReset => true
  | .bootRomStart mib => decide (mib < 2 ^ 16)
  | .bootImageLoaded _ => true
  | .configLoad _ => true
  | .configWaitDone _ => true
  | .fwErase _ _ _ _ => true
  | .fwWrite _ _ _ _ => true
  | .fwRead _ _ _ _ => true
  | .fwVerify _ _ => true
  | .fwActivate _ _ => true
  | .fwRollback _ => true
  | .fwSelect _ _ => true
  | .fwRevoke _ _ => true
  | .fwChainStart _ => true
  | .flashOperationDone _ _ => true
  | .bootConfirm => true
  | .trialDeadline => true
  | .firmwareRestart => true
  | .pcieLinkUp _ _ => true
  | .pcieReset _ => true
  | .pcieGranaryWrite off data => decide (off + data.length ≤ 0x3000000) && decide (data.length ≤ 512)
  | .pcieBar2Access _ n write data => if write then decide (data.length ≤ 512) else decide (n ≤ 4096)
  | .msixUnmask _ => true
  | .mgeRequest ip port dport b => datagramWf ip port dport b
  | .mgeMemoryRead ip port dport b => datagramWf ip port dport b
  | .mgeMemoryWrite ip port dport b => datagramWf ip port dport b
  | .mgeLinkChange _ _ => true
  | .monId => true
  | .monRd off _ => decide (off < 2 ^ 28)
  | .monWr off _ => decide (off < 2 ^ 28)
  | .monMw off _ _ => decide (off < 2 ^ 28)
  | .monMrd addr _ => decide (addr < 2 ^ 40)
  | .monMwr addr _ => decide (addr < 2 ^ 40)
  | .monRemote idx op off _ _ => decide (idx < 1024) && decide (1 ≤ op) && decide (op ≤ 3) && decide (off < 2 ^ 32)
  | .monLog _ => true
  | .monLoad _ _ _ crc => decide (crc < 2 ^ 32)
  | .monLoadDone _ => true
  | .monLoadTimeout => true
  | .monBootSlot _ => true
  | .monBootChain => true
  | .monBaud _ => true
  | .monHelp => true
  | .tapReset => true
  | .tapIdcode => true
  | .tapSamplePreload _ _ => true
  | .tapExtest _ _ => true
  | .tapClamp => true
  | .tapHighz => true
  | .tapExtestPulse _ _ => true
  | .tapExtestTrain _ _ => true
  | .tapBypass _ => true
  | .companionSymbolLock _ _ _ => true
  | .audioPortFrameEdge _ _ _ => true
  | .systemSampleInstant => true
  | .eventForwardTimeout => true
  | .monSessionTimeout => true
  | .monUnknownCommand => true
  | .pcieConfigRequest _ _ _ _ _ => true
  | .mgeArpOrEchoRequest _ src target b => datagramWf src 0 target b

end Sys2Proof
end

