-- ==== Sys2Proof/Tests/Slice0.lean ====
section
/-!
SUPPORT. Tests of the model: what WellFormed refuses, and for every statement with hypotheses a state and operands that meet them.
-/

namespace Sys2Proof.Tests

open Sys2Proof Sys2Proof.Machine

theorem test_witness_step_runs_front :
    ({ State.reset with pending := [.tick] } : State).pending = Instr.tick :: [] := rfl

/-- A device out of reset in the running mode `m`, with the strapped role `r`. -/
def runs (m r : Nat) : State :=
  { State.reset with
    glb := { State.reset.glb with held := false }
    regs := sPut resetReg (sPut resetReg [] Reg.GLB_STATE (BitVec.ofNat 32 (m * 2 ^ 30))) Reg.GLB_IDENT
      (BitVec.ofNat 32 (0x77101100 + r * 2 ^ 4)) }

theorem test_witness_idle :
    State.reset.pending = [] ∧ State.reset.live = false ∧ (runs 0 0).pending = [] ∧ (runs 0 0).live = true ∧
      (runs 0 0).ticking = false := by decide

theorem test_witness_step_canonical : ∃ t, State.reset.canonical ∧ step State.reset = .next t :=
  ⟨State.reset, ⟨rfl, rfl, rfl, rfl⟩, by rfl⟩

theorem test_witness_exec_queue : exec .tick State.reset = .next State.reset := by rfl

theorem test_witness_resets :
    (runs 1 1).canonical ∧ (runs 1 1).live = true ∧ ((runs 1 1).bit Reg.AON_RET0 31 && !(runs 1 1).bit Reg.AON_RET0 30) = false :=
  ⟨⟨rfl, by decide, by decide, rfl⟩, by decide⟩

theorem test_witness_release : State.reset.canonical ∧ State.reset.live = false ∧ (runs 0 0).live = true :=
  ⟨⟨rfl, rfl, rfl, rfl⟩, by decide⟩

theorem test_witness_tb_freq : (runs 0 0).canonical ∧ (runs 0 0).live = true ∧ (5 : TbIx).val < 6 ∧ 6 ≤ (6 : TbIx).val :=
  ⟨⟨rfl, by decide, by decide, rfl⟩, by decide⟩

/-- A running device whose register `o` holds `v`. -/
def runsWith (m r : Nat) (l : List (Nat × Nat)) : State := l.foldl (fun s x => s.wrN x.1 x.2) (runs m r)

theorem test_witness_holdover :
    (runsWith 0 0 [(Reg.TMB_TB_SERVO_CTL 5, 1)]).canonical ∧ (runsWith 0 0 [(Reg.TMB_TB_SERVO_CTL 5, 1)]).live = true ∧
      (runsWith 0 0 [(Reg.TMB_TB_SERVO_CTL 5, 1)]).servo 5 ≠ Servo.holdover ∧
      (runsWith 0 0 [(Reg.TMB_TB_SERVO_CTL 5, 1)]).fld (Reg.TMB_TB_SERVO_CTL 5) 1 0 = 1 ∧
      (runsWith 0 0 [(Reg.TMB_TB_SERVO_CTL 5, 1)]).bit (Reg.TMB_TB_SERVO_CTL 5) 8 = false :=
  ⟨⟨rfl, by decide, by decide, rfl⟩, by decide⟩

theorem test_witness_servo :
    (runsWith 0 0 [(Reg.TMB_TB_SERVO_CTL 0, 0x11)]).canonical ∧ (runsWith 0 0 [(Reg.TMB_TB_SERVO_CTL 0, 0x11)]).live = true ∧
      (runsWith 0 0 [(Reg.TMB_TB_SERVO_CTL 0, 0x11)]).fld (Reg.TMB_TB_SERVO_CTL 0) 1 0 = 1 ∧
      (runsWith 0 0 [(Reg.TMB_TB_SERVO_CTL 0, 0x11)]).servoSource 0 ≠ 0 ∧ (runsWith 0 0 [(Reg.TMB_TB_SERVO_CTL 0, 1)]).servoSource 0 = 0 ∧
      (runsWith 0 0 [(Reg.TMB_TB_SERVO_CTL 0, 0x11)]).tmb.tb[(0 : TbIx)].changedAt ≤ 0 ∧
      (runsWith 0 0 [(Reg.TMB_TB_SERVO_CTL 0, 0x11)]).servo 0 ≠ Servo.holdover ∧
      (runsWith 0 0 [(Reg.TMB_TB_SERVO_CTL 0, 0x11)]).stepPermitted 0 = true ∧
      ((runsWith 0 0 [(Reg.TMB_TB_SERVO_CTL 1, 0x21)]).setBit Reg.GLB_STATE 23 true).stepPermitted 1 = false ∧
      1000000 * 2 ^ 16 < (1000000 * 2 ^ 16 + 1 : Int).natAbs ∧ (1000000 * 2 ^ 16 : Int).natAbs ≤ 1000000 * 2 ^ 16 :=
  ⟨⟨rfl, by decide, by decide, rfl⟩, by decide⟩

theorem test_witness_tb_set :
    (runs 0 0).canonical ∧ (runs 0 0).live = true ∧ (runs 0 0).setAccepted 1 = true ∧ (runs 0 0).setAccepted 5 = true :=
  ⟨⟨rfl, by decide, by decide, rfl⟩, by decide⟩

theorem test_witness_aon :
    (runs 0 0).canonical ∧ (runs 0 0).live = true ∧ (runs 0 0).bit Reg.AON_SEC_CTL 0 = false ∧
      (runsWith 0 0 [(Reg.AON_SEC_CTL, 1)]).canonical ∧ (runsWith 0 0 [(Reg.AON_SEC_CTL, 1)]).bit Reg.AON_SEC_CTL 0 = true :=
  ⟨⟨rfl, by decide, by decide, rfl⟩, by decide, by decide, ⟨rfl, by decide, by decide, rfl⟩, by decide⟩

theorem test_witness_ptp :
    (runsWith 0 0 [(Reg.TMB_PTP_CTL, 1)]).canonical ∧ (runsWith 0 0 [(Reg.TMB_PTP_CTL, 1)]).sender = true ∧
      (runsWith 0 0 [(Reg.TMB_PTP_CTL, 1)]).ptpTakes 0 0 = true ∧ (runsWith 0 0 [(Reg.TMB_PTP_CTL, 1)]).ptpTakes 1 0 = false ∧
      (runsWith 0 0 [(Reg.TMB_PTP_CTL, 1)]).servoSource 0 ≠ 1 ∧
      (runsWith 0 0 [(Reg.TMB_PTP_CTL, 1), (Reg.TMB_TB_SERVO_CTL 0, 0x10)]).sender = true ∧
      (runsWith 0 0 [(Reg.TMB_PTP_CTL, 1), (Reg.TMB_TB_SERVO_CTL 0, 0x10)]).ptpTakes 0 0 = true ∧
      (runsWith 0 0 [(Reg.TMB_PTP_CTL, 1), (Reg.TMB_TB_SERVO_CTL 0, 0x10)]).servoSource 0 = 1 :=
  ⟨⟨rfl, by decide, by decide, rfl⟩, by decide⟩

/-- A tile whose four ports are ACTIVE. -/
def activeTile : State := runsWith 1 1 ((List.range 4).map (fun p => (Reg.SLK_STATUS p, 6 * 2 ^ 29)))

theorem test_witness_hop :
    activeTile.canonical ∧ activeTile.live = true ∧ activeTile.active 1 = true ∧
      ({ activeTile with tmb := { activeTile.tmb with upstream := some 1 } } : State).upstreamPort = some 1 ∧
      (activeTile.modHop 1 (fun h => { h with req := some (3, 0) })).active 1 = true ∧
      (activeTile.modHop 1 (fun h => { h with req := some (3, 0) })).tmb.hop[(1 : Port)].req = some (3, 0) ∧
      diff48 (activeTile.tb48 6) 0 ≤ 10000 * 2 ^ 16 ∧ diff48 5 2 ≤ 2000 * 2 ^ 16 ∧
      diff48 (activeTile.tb48 6) 0 - diff48 5 2 ≤ 5000 * 2 ^ 17 ∧ offMean [] (diff48 (activeTile.tb48 6) 0 - diff48 5 2) = false ∧
      activeTile.tmb.hop[(1 : Port)].invalidRun < 15 :=
  ⟨⟨rfl, by decide, by decide, rfl⟩, by decide⟩

theorem test_witness_sync :
    activeTile.mode ≠ 0 ∧ ({ activeTile with tmb := { activeTile.tmb with upstream := some 1 } } : State).active
        (({ activeTile with tmb := { activeTile.tmb with upstream := some 1 } } : State).otherThrough 1) = true ∧
      ¬ (activeTile.mode = 0 ∧ activeTile.kind 1 = 0) ∧ (runs 0 0).mode = 0 ∧ (runs 0 0).live = true ∧ (runs 0 0).servoSource 1 ≠ 3 ∧
      (runsWith 0 0 [(Reg.TMB_TB_SERVO_CTL 1, 0x30)]).servoSource 1 = 3 ∧
      (runsWith 0 0 [(Reg.TMB_TB_SERVO_CTL 1, 0x30)]).tmb.syncInLost = false ∧
      (runsWith 0 0 [(Reg.TMB_TB_SERVO_CTL 1, 0x30)]).servo 1 ≠ Servo.holdover := by decide

theorem test_witness_align :
    (runsWith 0 0 [(Reg.TMB_TB_SERVO_STATUS 1, 2 * 2 ^ 29), (Reg.TMB_TB_SERVO_CTL 1, 0x41)]).canonical ∧
      (runsWith 0 0 [(Reg.TMB_TB_SERVO_STATUS 1, 2 * 2 ^ 29), (Reg.TMB_TB_SERVO_CTL 1, 0x41)]).goAccepted = true ∧
      (runsWith 0 0 [(Reg.TMB_TB_SERVO_STATUS 1, 2 * 2 ^ 29), (Reg.TMB_TB_SERVO_CTL 1, 0x41)]).servoSource 1 = 4 ∧
      (runs 0 0).goAccepted = false ∧ (runs 0 0).mode = 0 ∧ (runsWith 0 0 [(Reg.TMB_TB_SERVO_CTL 2, 0x51)]).servoSource 2 = 5 ∧
      audioRate ((runsWith 0 0 [(Reg.TMB_TB_SERVO_CTL 2, 0x51)]).fld (Reg.TMB_TB_AUDIO 2) 18 16) = some 44100 ∧
      (runsWith 0 0 [(Reg.TMB_TB_SERVO_CTL 2, 0x51)]).tmb.edge[(2 : TbIx)] = none ∧ (runs 0 0).tmb.tb[(3 : TbIx)].cnt < 2 ^ 74 :=
  ⟨⟨rfl, by decide, by decide, rfl⟩, by decide⟩

theorem test_witness_register_write :
    (runs 1 1).canonical ∧ (runs 1 1).live = true ∧ (runs 1 1).readable Reg.HKP_CTL = true ∧ (regRow? Reg.HKP_CTL).isSome = true ∧
      (runs 1 1).readable Reg.CMP_CTL = false ∧ (runs 0 0).readable Reg.CMP_CTL = true :=
  ⟨⟨rfl, by decide, by decide, rfl⟩, by decide⟩
theorem test_witness_unsupported : (runsWith 0 0 []).live = true ∧ ((runs 0 0).modPci (fun p => { p with link := true })).pci.link = true ∧
    ((runs 0 0).modPci (fun p => { p with link := true })).pci.mse = false := by decide

theorem test_witness_rc_read : (runs 1 1).live = true ∧ readClears (Reg.FUR_FETCH_ERR / 4 * 4) = true ∧
    (runs 1 1).readable Reg.FUR_FETCH_ERR = true ∧ latchesHigh (Reg.TMB_TB_NOW_LO 3) = true ∧
    (runs 1 1).readable (Reg.TMB_TB_NOW_LO 3) = true ∧ holdIx .monitor = some 3 := by decide

theorem test_witness_snap_start : (runs 1 1).live = true ∧ (0x101 : Word).toNat.testBit 8 = true ∧
    ((runs 1 1).setBit Reg.GLB_SNAP_CTL 31 true).bit Reg.GLB_SNAP_CTL 31 = true ∧ (runs 1 1).bit Reg.GLB_SNAP_CTL 31 = false := by decide

theorem test_witness_snap_capture : (runs 1 1).live = true ∧ ((runs 1 1).modGlb (fun g => { g with snapArmed := true })).glb.snapArmed = true ∧
    (runs 1 1).bit Reg.GLB_SNAP_CTL 16 = false ∧ (runs 1 1).fld Reg.GLB_SNAP_CTL 6 0 ≤ 64 := by decide

set_option maxRecDepth 8192 in
theorem test_witness_slk_lanes : (runs 1 1).live = true ∧ activeTile.live = true ∧ activeTile.train 1 = Train.active ∧ (activeTile.recentUncorr 1).length < 3 ∧ [[(0x5A : Byte)]].all boundaryOk = true ∧ boundaryOk [1] = false ∧ activeTile.slk[(1 : Port)].rxLeft = 0 ∧
    activeTile.slk[(1 : Port)].unitLost = false ∧ blockOk (markerBlock 1 2 3) = true ∧ blockOk [] = false := by decide

theorem test_witness_slk_training :
    (∀ k : Fin 7, (runsWith 1 1 [(Reg.SLK_STATUS 1, k.val * 2 ^ 29 + 15)]).train 1 = k.val) ∧ (runs 1 1).live = true ∧
      portOn (runs 1 1).role 1 = true ∧ (runs 1 1).frameValid = false ∧ activeTile.active 1 = true ∧ (runs 1 1).active 1 = false ∧
      ((runs 1 1).modSlk 1 (fun x => { x with incompatible := true })).slk[(1 : Port)].incompatible = true := by decide

set_option maxRecDepth 8192 in
theorem test_witness_slk_sheaves :
    activeTile.canonical ∧ activeTile.live = true ∧ activeTile.active 1 = true ∧ activeTile.slk[(1 : Port)].censusDue = false ∧
      (activeTile.modSlk 1 (fun x => { x with censusDue := true })).slk[(1 : Port)].censusDue = true ∧ activeTile.chooseVc 1 = none ∧
      activeTile.slk[(1 : Port)].unitLost = false ∧ parseSheaf [] [] = none ∧
      leAt (lcuBytes 1 2 3 4 5 6 true false) 14 2 = crc16 (slice (lcuBytes 1 2 3 4 5 6 true false) 0 14) ∧
      (activeTile.setFld (Reg.SLK_RXBUF_VC 1 0) 31 16 9).lcuUnreported 1 = true ∧ (zeros 16).length = 16 :=
  ⟨⟨rfl, by decide, by decide, rfl⟩, by decide⟩
/-- A sheaf that waits, of VC0. -/
def oneSheaf (stream : Nat) (p : List Byte) : Sheaf :=
  { vc := 0, dir := false, first := true, last := true, retx := false, husk := false, seq := 0, linkSeq := 0, dstQ := 64 * 5 + 0x10,
    srcQ := 0, frame := 0, stream := stream, index := 0, hop := 0, epoch := 0, crc := crc32c p, code := 0, payload := p }
set_option maxRecDepth 8192 in
theorem test_witness_slk_ready :
    (activeTile.enqueue 1 (oneSheaf 3 [1, 2]) none).chooseVc 1 = some 0 ∧
      ((activeTile.enqueue 1 (oneSheaf 3 [1, 2]) none).ready 1 0).isSome = true := by decide
set_option maxRecDepth 8192 in
theorem test_witness_slk_arrival :
    (parseSheaf (oneSheaf 3 [1]).header [1]).isSome = true ∧ (oneSheaf 3 [1]).linkLocal = false ∧
      activeTile.rxO 1 0 + (oneSheaf 3 [1]).bushels ≤ 512 ∧ activeTile.fate 1 (oneSheaf 3 [1]) = .forward ∧
      activeTile.active (activeTile.otherThrough 1) = true ∧ activeTile.fate 2 (oneSheaf 3 [1]) = .discard := by decide

/-- A running device whose queue `q` is enabled with one slot in either ring and one message posted, where the exchange runs. -/
def oneMessage (m r q : Nat) : State :=
  runsWith m r [(Reg.SXQ_CTL, 1), (Reg.Q_CTL q, 2 ^ 31), (Reg.Q_OUT_IDX q, 2 ^ 16), (Reg.SXQ_INDEX_SELF, 0)]
set_option maxRecDepth 8192 in
theorem test_witness_sxq_queues :
    (oneMessage 0 0 65).canonical ∧ (oneMessage 0 0 65).live = true ∧ (oneMessage 0 0 65).mode ≠ 3 ∧
      (regRow? (Reg.Q_CTL (65 : QueueIx).toNat)).isSome = true ∧
      ((oneMessage 0 0 65).modSxq (fun g => { g with order := [65] })).serviced 65 = true ∧
      ((oneMessage 0 0 66).modSxq (fun g => { g with order := [66] })).serviced 66 = true ∧
      expectsResponse (qCls 66) = true ∧ expectsResponse (qCls 65) = false ∧
      ((oneMessage 0 0 66).wrN (Reg.Q_IN_IDX 66) (2 ^ 16)).inFree 66 = 0 ∧ (oneMessage 0 0 66).bit (Reg.Q_STAT 66) 31 = false ∧
      (oneMessage 0 0 65).sender = true ∧ (oneMessage 0 0 65).slotBytes 65 = 64 :=
  ⟨⟨rfl, by decide, by decide, rfl⟩, by decide⟩
/-- A message too long for its slot. -/
def longMessage : State :=
  (runsWith 0 0 [(Reg.SXQ_CTL, 1), (Reg.Q_CTL 65, 2 ^ 31), (Reg.Q_OUT_IDX 65, 2 ^ 16), (Reg.Q_OUT_BASE_LO 65, granaryBase)]).setByte
    (granaryBase + 4) 0xFF
set_option maxRecDepth 8192 in
theorem test_witness_sxq_long :
    (longMessage.modSxq (fun g => { g with order := [65] })).serviced 65 = true ∧
      longMessage.slotBytes 65 - 16 < (longMessage.outMsg 65).bodyLen := by decide
/-- A sender with a chain of one tile of index 5 at port 1. -/
def oneTile : State :=
  (runsWith 0 0 [(Reg.SXQ_PORT_CHAIN 1, 2 ^ 30)]).modRoll 1
    (fun r => { r with entries := [leBytes 16 77 ++ leBytes 2 (2 ^ 15 + 5) ++ zeros 14] })
/-- A reach request to the tile that waits for its answer. -/
def oneOutstanding : Outstanding :=
  { q := 64 * 5, slot := 0, cmdId := 9, dst := 5, cls := 0, port := 1, queried := false, via := none }
set_option maxRecDepth 8192 in
theorem test_witness_sxq_query :
    oneTile.canonical ∧ oneTile.sender = true ∧ oneTile.routeTo 5 = some 1 ∧
      (oneTile.modSxq (fun g => { g with outstanding := [oneOutstanding] })).sxq.outstanding.find?
        (fun o => o.q == 64 * 5 && o.cmdId == 9) = some oneOutstanding ∧
      oneTile.sxq.outstanding.find? (fun o => o.q == 64 * 5 && o.cmdId == 9) = none :=
  ⟨⟨rfl, by decide, by decide, rfl⟩, by decide⟩

/-- A message of device 5 on port 1. -/
def someMsg (body : List Byte) : Msg :=
  { port := 1, src := 5, srcCls := 0, dst := 0, cls := 0, cmdId := 9, epoch := 0, code := 0, body := body }
set_option maxRecDepth 8192 in
theorem test_witness_sxq_answers :
    oneTile.outstandingFor 5 9 = none ∧ oneTile.glb.subtree = [] ∧
      (oneTile.modSxq (fun g => { g with outstanding := [oneOutstanding] })).outstandingFor 5 9 = some oneOutstanding ∧
      oneOutstanding.cls = 0 ∧ ({ oneOutstanding with cls := 2 } : Outstanding).cls ≠ 0 ∧ leAt (someMsg [1]).body 0 1 ≤ 2 ∧
      2 < leAt (someMsg [3]).body 0 1 ∧
      ((runsWith 0 0 [(Reg.Q_CTL 324, 2 ^ 31)]).bit (Reg.Q_CTL 324) 31 && decide (0 < (runsWith 0 0 [(Reg.Q_CTL 324, 2 ^ 31)]).inFree 324)) = true ∧
      ((runs 0 0).bit (Reg.Q_CTL 324) 31 && decide (0 < (runs 0 0).inFree 324)) = false := by decide
set_option maxRecDepth 8192 in
theorem test_witness_sxq_query_rx :
    (runs 1 1).live = true ∧ (runs 1 1).mode ≠ 3 ∧ leAt (zeros 16) 0 16 = 0 ∧ leAt (leBytes 16 3) 0 16 ≠ 0 ∧ leAt (leBytes 16 3) 0 16 ≠ (runs 1 1).uid ∧
      (runs 1 1).sxq.outcomes.find? (fun o => o.src == 5 && o.cmdId == 9) = none ∧
      ((runs 1 1).remember { src := 5, cmdId := 9, cls := 1, code := 0, body := [] }).sxq.outcomes.find?
        (fun o => o.src == 5 && o.cmdId == 9) = some { src := 5, cmdId := 9, cls := 1, code := 0, body := [] } ∧
      (runsWith 1 1 [(Reg.GLB_DEVIDX, 2 ^ 31 + 7 * 2 ^ 16)]).epochOk (someMsg []) = false := by decide

/-- A reach request from device 0 at port 0 with a body. -/
def reachMsg (op n off : Nat) (data : List Word) : Msg :=
  { port := 0, src := 0, srcCls := 0, dst := 0, cls := 0, cmdId := 7, epoch := 0, code := 0, body := reachRequest op n off data }
theorem test_witness_reach_forms :
    (runs 1 1).canonical ∧ (runs 1 1).live = true ∧ (runs 1 1).mode = 1 ∧ (runs 1 1).epochOk (reachMsg 1 1 0 []) = true ∧
      (runs 1 1).isFenced (reachMsg 1 1 0 []) = false :=
  ⟨⟨rfl, by decide, by decide, rfl⟩, by decide⟩
theorem test_witness_reach_refused : reachMalformed (reachMsg 1 0 0xA0000 []).body = true ∧ reachMalformed (reachMsg 2 1 0xA0002 [1]).body = true ∧
    writeBarred (reachMsg 2 1 0x08000000 [1]).body true = true ∧ writeBarred (reachMsg 3 1 0x08000000 [1, 1]).body true = true := by decide
theorem test_witness_reach_read : reachMalformed (reachMsg 1 1 0x50000 []).body = false ∧ reachOp (reachMsg 1 1 0x50000 []).body = 1 ∧
    reachCount (reachMsg 1 1 0x50000 []).body = 1 ∧ reachOff (reachMsg 1 1 0x50000 []).body = 0x50000 ∧ (runs 1 1).readable 0x50000 = true ∧
    readClears 0x50000 = false ∧ latchesHigh 0x50000 = false ∧ latchesHigh 0x4FFFC = false ∧ (runs 2 2).mode = 2 := by decide
theorem test_witness_reach_write : (runs 0 0).mode < 2 ∧ (runs 0 0).live = true ∧ (runs 0 0).readable Reg.CMP_CTL = true ∧ (regRow? Reg.CMP_CTL).isSome = true ∧
    Reg.CMP_CTL / 0x10000 = 0xA ∧ (runs 0 0).claimHeldBy 0 = true ∧ (runs 0 0).glb.bothSets = false ∧
    reachMalformed (reachMsg 2 1 Reg.CMP_CTL [1]).body = false ∧ reachOp (reachMsg 2 1 Reg.CMP_CTL [1]).body = 2 ∧
    reachMalformed (reachMsg 3 1 Reg.CMP_CTL [1, 1]).body = false ∧ reachOp (reachMsg 3 1 Reg.CMP_CTL [1, 1]).body = 3 := by decide

/-- A running device with frame_valid set and frame 7 running, its next tick one nominal period ahead. -/
def framing (m r : Nat) : State :=
  let s := (runs m r).wrN Reg.GLB_FRAME 7
  (s.setBit Reg.GLB_STATE 23 true).modTmb (fun g => { g with nextTick := 9 * 1000000 })
set_option maxRecDepth 8192 in
theorem test_witness_commit : (framing 0 0).canonical ∧ (framing 0 0).live = true ∧ (framing 0 0).mode = 0 ∧ (framing 0 0).glb.commit = none ∧
    (framing 0 0).frameValid = true ∧ (framing 0 0).rd Reg.GLB_COMMIT_TARGET = 0 ∧ (framing 0 0).inWindow 0 (framing 0 0).guardLocal 0 = false ∧
    (framing 0 0).inWindow 1 (framing 0 0).guardLocal 0 = false ∧
    ((framing 0 0).wrN Reg.GLB_COMMIT_TARGET 7).inWindow 7 (framing 0 0).guardLocal 0 = false ∧
    ((framing 0 0).wrN Reg.GLB_COMMIT_TARGET 7).inWindow 8 (framing 0 0).guardLocal 0 = true ∧ (runs 1 2).mode = 1 ∧ (runs 2 2).mode = 2 :=
  ⟨⟨rfl, by decide, by decide, rfl⟩, by decide⟩

theorem test_witness_tick : State.reset.ticking = false ∧ (framing 2 2).canonical ∧ (framing 2 2).live = true ∧ (framing 2 2).mode = 2 ∧
    (framing 2 2).frameValid = true ∧ (framing 2 2).glb.commit = none ∧ (framing 2 2).glb.snapArmed = false ∧
    (∀ p : Port, (framing 2 2).sxq.roll[p].publish = false) ∧ (framing 2 2).dmc.publish = false :=
  ⟨rfl, ⟨rfl, by decide, by decide, rfl⟩, by decide⟩

/-- A sender with a chain at port 1 whose roll call runs and waits for a retry. -/
def rolling : State :=
  ((runs 0 0).wrN (Reg.SXQ_PORT_CHAIN 1) (2 ^ 30)).modRoll 1 (fun r => { r with running := true, retry := true })
/-- A roll message of epoch 0 from the device itself, at port 1. -/
def rollMsg : Msg :=
  { port := 1, src := 0, srcCls := 5, dst := 0, cls := 5, cmdId := 0, epoch := 0, code := 0, body := rollBody 2 0 0 0 1 0 0 [] }
set_option maxRecDepth 8192 in
theorem test_witness_roll : rolling.canonical ∧ rolling.sender = true ∧ rolling.kind 1 = 1 ∧ rolling.bit Reg.BOOT_STATUS 27 = false ∧
    rolling.rollPorts 0x21 = [1] ∧ rolling.sxq.roll[(1 : Port)].running = true ∧ rolling.sxq.roll[(1 : Port)].retry = true ∧
    rolling.sxq.roll[(0 : Port)].running = false ∧ rollOrigin rollMsg.body = rolling.uid ∧
    rollEpoch rollMsg.body = rolling.fld (Reg.SXQ_PORT_STATE 1) 31 24 :=
  ⟨⟨rfl, by decide, by decide, rfl⟩, by decide⟩

/-- A roll message from origin 7 at port 0 with one entry of the unit UID 1. -/
def tileRoll (kind : Nat) : Msg :=
  { port := 0, src := 0, srcCls := 5, dst := 0, cls := 5, cmdId := 0, epoch := 0, code := 0,
    body := rollBody kind 1 0 1 7 0 0 [leBytes 16 1 ++ leBytes 2 0x8003 ++ zeros 14] }
/-- A subtree commit that collects. -/
def collecting : Subtree :=
  { id := 1, asked := 2, target := 2, cmdId := 1, devices := 2, onTime := 1, late := 0, refused := 0, waiting := [5], ownDone := true, cmd := none, applied := 2 }
set_option maxRecDepth 8192 in
theorem test_witness_roll_tile : (runs 1 1).canonical ∧ (runs 1 1).rollHears (tileRoll 1).port = true ∧ (runs 1 1).mode ≠ 0 ∧
    rollOrigin (tileRoll 1).body ≠ (runs 1 1).uid ∧ (runs 1 1).epochNewer (rollOrigin (tileRoll 1).body) (rollEpoch (tileRoll 1).body) = true ∧
    (runs 1 1).epochCurrent (rollOrigin (tileRoll 1).body) (rollEpoch (tileRoll 1).body) = true ∧
    ((tileEntries (rollEntries (tileRoll 3).body) (rollFlags (tileRoll 3).body)).find? (fun e => entryUid e == (runs 1 1).uid)).isSome = true :=
  ⟨⟨rfl, by decide, by decide, rfl⟩, by decide⟩
set_option maxRecDepth 8192 in
theorem test_witness_roll_points : (runs 0 0).sender = true ∧ (runs 0 0).bit Reg.GLB_STATE 25 = false ∧ (runs 0 0).frameValid = false ∧
    (∀ p : Port, (runs 0 0).sxq.roll[p].publish = false) ∧ ((runs 0 0).modDmc (fun g => { g with publish := true })).dmc.publish = true ∧
    ((runs 0 0).modGlb (fun g => { g with subtree := [collecting] })).glb.subtree.find? (fun t => t.ownDone) = some collecting := by decide
theorem test_witness_roll_old : ((runs 1 1).noteSeen 7 1 0 0).epochNewer 7 1 = false ∧ ((runs 1 1).noteSeen 7 2 0 0).epochCurrent 7 1 = false := by decide

/-- A sender with a ring at port 1 whose holding is decided, with a muted state and a peer's lease. -/
def ringing : State :=
  (((runs 0 0).wrN (Reg.SXQ_PORT_CHAIN 1) (2 ^ 31)).wrN (Reg.RED_P_STATE 1) (2 ^ 29)).modRed 1 (fun r => { r with
    decided := true, lease := some { uid := 3, claim := 4, drop := false, muted := false, frame := 0, src := 9 } })
/-- A lease of unit 3 at port 1. -/
def leaseMsg : Msg :=
  { port := 1, src := 9, srcCls := 0, dst := 0, cls := 0x3F, cmdId := 0, epoch := 0, code := 0, body := leaseBody 0x10 0 0 4 3 0 }
set_option maxRecDepth 8192 in
theorem test_witness_claims : ringing.canonical ∧ ringing.sender = true ∧ ringing.kind 1 = 2 ∧ ringing.kind 0 ≠ 2 ∧
    ringing.bit (Reg.RED_P_STATE 1) 29 = true ∧ ringing.red.port[(1 : Port)].decided = true ∧
    ringing.red.port[(1 : Port)].lease.isSome = true ∧ ringing.red.port[(0 : Port)].lease = none ∧
    (ringing.bit (Reg.RED_P_STATE 1) 31 || !ringing.bit Reg.RED_CTL 2) = false ∧
    (ringing.modRed 1 (fun r => { r with decided := false })).red.port[(1 : Port)].decided = false :=
  ⟨⟨rfl, by decide, by decide, rfl⟩, by decide⟩
set_option maxRecDepth 8192 in
theorem test_witness_lease : (ringing.hearsBroadcast leaseMsg && leAt leaseMsg.body 0 1 == 0x10) = true ∧ (leaseOf leaseMsg).uid ≠ ringing.uid ∧
    (leaseOf leaseMsg).drop = false ∧ (ringing.setBit Reg.SXQ_ROLL_CTL 8 false).bit Reg.SXQ_ROLL_CTL 8 = false ∧
    (State.reset.hearsBroadcast leaseMsg && leAt leaseMsg.body 0 1 == 0x10) = false ∧
    (((runs 1 1).wrN Reg.GLB_DEVIDX 0x80010000).hearsBroadcast leaseMsg) = true ∧ (((runs 1 1).wrN Reg.GLB_DEVIDX 0x80010000).epochOk leaseMsg) = false := by decide

/-- A tile that holds a lease of unit 3 on port 0, its holder. -/
def heldTile : State :=
  ((runsWith 1 1 [(Reg.RED_P_PEER_UID 0 0, 3)]).modRed 0 (fun r => { r with
    lease := some { uid := 3, claim := 4, drop := false, muted := false, frame := 0, src := 9 } })).modRedAll (fun g => { g with
      holder := some (3, 4, 9, 0), slots := g.slots.set 2 { StreamSlot.free with key := some (1, 0), quiet := 17 } })
/-- SHUN (0x11) or UNSHUN (0x12) by unit 3 of unit 3 at port 0. -/
def shunMsg (kind : Nat) : Msg :=
  { port := 0, src := 9, srcCls := 0, dst := 0, cls := 0x3F, cmdId := 0, epoch := 0, code := 0, body := leaseBody kind 0 0 4 3 3 }
set_option maxRecDepth 8192 in
theorem test_witness_shun : heldTile.canonical ∧ (heldTile.tile && heldTile.hearsBroadcast (shunMsg 0x11) && heldTile.epochOk (shunMsg 0x11) &&
    heldTile.fromHolder (shunMsg 0x11)) = true ∧ leAt (shunMsg 0x11).body 0 1 = 0x11 ∧ leAt (shunMsg 0x12).body 0 1 = 0x12 ∧
    heldTile.portsOf (leAt (shunMsg 0x11).body 28 16) = [0] ∧ ((runs 0 0).tile && (runs 0 0).hearsBroadcast (shunMsg 0x11) &&
    (runs 0 0).epochOk (shunMsg 0x11) && (runs 0 0).fromHolder (shunMsg 0x11)) = false :=
  ⟨⟨rfl, by decide, by decide, rfl⟩, by decide⟩
set_option maxRecDepth 8192 in
theorem test_witness_red_slots : (heldTile.tile && decide (17 ≤ heldTile.red.slots[(2 : Fin 16)].quiet)) = true ∧
    (heldTile.tile && decide (17 ≤ heldTile.red.slots[(1 : Fin 16)].quiet)) = false ∧ ((runs 0 0).sender && !(runs 0 0).frameValid) = true ∧
    (∀ p : Port, (runs 0 0).kind p ≠ 2) ∧ ((framing 0 0).sender && !(framing 0 0).frameValid) = false ∧
    (ringing.sender && ringing.kind 1 == 2 && (zeros 288).length == 288) = true := by decide

/-- A sender whose slot 2 captures: enabled INP, an SDI source on receiver 1 in state running. -/
def capturing : State :=
  let s := ((runs 0 0).setBit Reg.INP_CTL 0 true).wrN (Reg.INP_SRC_STATUS 2) (2 * 2 ^ 29)
  s.wrA (Reg.INP_SRC_CTL 2) (BitVec.ofNat 32 (2 ^ 31 + 2 ^ 26))
/-- The same with a host-pull source and bus mastering. -/
def pulling : State :=
  (capturing.wrA (Reg.INP_SRC_CTL 2) (BitVec.ofNat 32 (2 ^ 31 + 3 * 2 ^ 28))).modPci (fun p => { p with bme := true })
set_option maxRecDepth 8192 in
theorem test_witness_inputs : capturing.canonical ∧ capturing.sender = true ∧ capturing.captures 2 = true ∧ (capturing.receivers 2).testBit 1 = true ∧
    capturing.srcState 2 = Src.running ∧ (capturing.captures 2 && capturing.srcState 2 == Src.running) = true ∧
    (capturing.captures 3 && capturing.srcState 3 == Src.running) = false ∧ capturing.bit (Reg.INP_ETH_STATUS 0) 31 = false ∧
    ((capturing.setBit (Reg.INP_ETH_STATUS 0) 31 true).bit (Reg.INP_ETH_STATUS 0) 31) = true ∧
    (capturing.sender && capturing.bitA (Reg.INP_AUD_CTL 0) 31) = false :=
  ⟨⟨rfl, by decide, by decide, by decide⟩, by decide⟩
set_option maxRecDepth 8192 in
theorem test_witness_pulls : pulling.src[(2 : Fin 16)].pull = none ∧ pulling.pci.bme = true ∧ (pulling.captures 2 && pulling.srcKind 2 == 3) = true ∧
    capturing.pci.bme = false ∧ (pulling.modSource 2 (fun x => { x with pull := some 5 })).src[(2 : Fin 16)].pull = some 5 ∧
    (let s := pulling.wrA (Reg.INP_AUD_CTL 0) (BitVec.ofNat 32 (2 ^ 31)); (s.sender && s.bitA (Reg.INP_AUD_CTL 0) 31) = true) := by decide

/-- A frame of one pixel as slot 2 of `capturing` is configured, one line and one sample in each plane, with CRC errors of receiver 0. -/
def onePixel (w crc : Nat) : SrcFrame :=
  { width := w, height := 1, rate := some 9, scan := false, depth := none, crcLines := #v[crc, 0, 0, 0], skew := 0, links := [⟨[[5]], [[6]], [[7]]⟩] }
/-- `capturing` with a frame to be dropped on a CRC error. -/
def dropping : State := capturing.wrA (Reg.INP_SRC_CTL 2) (BitVec.ofNat 32 (2 ^ 31 + 2 ^ 26 + 2 ^ 24))
/-- `capturing` with a stream in slot 2 and one in audio slot 3, both of zero addresses on port 0, which is on. -/
def streaming : State :=
  ((capturing.wrA (Reg.INP_SRC_CTL 2) (BitVec.ofNat 32 (2 ^ 31 + 2 * 2 ^ 28))).wrA (Reg.INP_SRC_NET_PORT 2) (BitVec.ofNat 32 (96 * 2 ^ 16)) |>.wrA (Reg.INP_AUD_CTL 3)
    (BitVec.ofNat 32 (2 ^ 31))).setBit (Reg.INP_ETH_CTL 0) 0 true
/-- A packet of its video stream. -/
def videoPacket : VideoPacket :=
  { dst := 0, src := 0, udp := 0, pt := 96, seq := 7, ts := 9, marker := false, full := false, badFcs := false, fecUncorr := 1, rate := none, rows := [⟨false, 0, 0, [5], [6], [7]⟩] }
/-- A packet of its audio stream. -/
def audioPacket : AudioPacket := { dst := 0, src := 0, udp := 0, pt := 0, ts := 0, skipped := 1, samples := List.replicate 48 [0] }
set_option maxRecDepth 8192 in
theorem test_witness_frames : capturing.formatDiffers 2 (onePixel 2 0) = true ∧ capturing.formatDiffers 2 (onePixel 1 0) = false ∧
    ¬ (capturing.srcKind 2 = 1 ∧ 2 < (onePixel 1 0).skew) ∧ (onePixel 1 0).crcLines.toList.any (fun c => c != 0) = false ∧
    dropping.captures 2 = true ∧ dropping.formatDiffers 2 (onePixel 1 3) = false ∧ ¬ (dropping.srcKind 2 = 1 ∧ 2 < (onePixel 1 3).skew) ∧
    (onePixel 1 3).crcLines.toList.any (fun c => c != 0) = true ∧ dropping.bitA (Reg.INP_SRC_CTL 2) 24 = true := by decide
set_option maxRecDepth 8192 in
theorem test_witness_packets : streaming.canonical ∧ (streaming.sender && streaming.bit (Reg.INP_ETH_CTL 0) 0) = true ∧
    streaming.videoSlot 0 videoPacket = some 2 ∧ streaming.src[(2 : Fin 16)].packets.ts = none ∧ streaming.src[(2 : Fin 16)].packets.seq = none ∧
    streaming.videoSlot 0 { videoPacket with udp := 1 } = none ∧ streaming.audSlot 0 audioPacket = some 3 ∧
    streaming.audSlot 0 { audioPacket with udp := 1 } = none :=
  ⟨⟨rfl, by decide, by decide, by decide⟩, by decide⟩

/-- A sender with a canvas in progress and two Loaf entries. -/
def composing : State := ((runs 0 0).setBit Reg.CMP_STATUS 30 true).modLoaf (fun l => { l with entries := [⟨0, ⟨0, 0, 0, 0⟩, []⟩, ⟨1, ⟨0, 0, 0, 0⟩, []⟩] })
set_option maxRecDepth 8192 in
theorem test_witness_canvas : composing.canonical ∧ (composing.sender && composing.bit Reg.CMP_STATUS 30) = true ∧
    (composing.sender && composing.cmp.loaf.has 1) = true ∧ (composing.sender && composing.cmp.loaf.has 2) = false ∧
    ((runs 0 0).sender && (runs 0 0).bit Reg.CMP_STATUS 30) = false ∧ (runs 1 1).sender = false :=
  ⟨⟨rfl, by decide, by decide, rfl⟩, by decide⟩

/-- A sender whose transport runs with one sheaf of region 3 left to start on port 1, which is not ACTIVE. -/
def scanning : State :=
  ((runs 0 0).modScn 1 (fun _ => { todo := [3], idx := 0, digest := false })).modScnAll (fun g => { g with running := true })
set_option maxRecDepth 8192 in
theorem test_witness_scan : scanning.canonical ∧ (scanning.sender && scanning.scn.running) = true ∧ scanning.scn.port[(1 : Port)].todo = [3] ∧
    scanning.scn.port[(1 : Port)].idx + 1 < scanning.sheavesOf 3 ∧ scanning.scn.port[(1 : Port)].idx ≠ scanning.dataSheaves 3 ∧
    scanning.mutedOn 1 = false ∧ scanning.active 1 = false ∧ scanning.scn.port[(0 : Port)].todo = [] ∧ scanning.scn.port[(0 : Port)].digest = false ∧
    scanning.unsent 1 ≠ 0 ∧ ((runs 0 0).sender && (runs 0 0).scn.running) = false := by
  refine ⟨⟨rfl, by decide, by decide, by decide⟩, by decide⟩
/-- A sender whose monitor is on. -/
def monitoring : State := (runs 0 0).wrA Reg.SCN_MON_CTL (BitVec.ofNat 32 (4 * 2 ^ 24))
set_option maxRecDepth 8192 in
theorem test_witness_monitor : monitoring.canonical ∧ monitoring.sender = true ∧ monitoring.fldA Reg.SCN_MON_CTL 27 24 ≠ 0 ∧
    (∀ m, monitoring.monRatio = some m → monitoring.frame % m = 0) ∧ (monitoring.sender && monitoring.fldA Reg.SCN_MON_CTL 27 24 != 0) = true ∧
    monitoring.scn.monRaised = false ∧ (runs 0 0).fldA Reg.SCN_MON_CTL 27 24 = 0 := by
  refine ⟨⟨rfl, by decide, by decide, by decide⟩, by decide, by decide, ?_, by decide⟩
  have h : monitoring.frame = 0 := by decide
  rw [h]; intro m _; exact Nat.zero_mod m

/-- A tile in a valid frame that corrects: COR_CTL.en, and COR_RX_CTL at reset. -/
def receiving : State := (framing 1 1).wrA Reg.COR_CTL 1
/-- The same with a frame of one pixel taken whole and corrected: region and panel of 1 by 1 pixels. -/
def corrected : State := receiving.modCor (fun c => { c with header := true, got := [1], next := 1 })
set_option maxRecDepth 8192 in
theorem test_witness_reception : receiving.canonical ∧ receiving.corOn = true ∧ receiving.corFrame = 8 ∧ receiving.rxStream 0 true = true ∧
    (receiving.wrA Reg.COR_RX_CTL 0).rxStream 1 true = false ∧ (receiving.wrA Reg.COR_RX_CTL 0).rxStream 0 false = true ∧
    receiving.rxStream 0 receiving.cor.stream.isNone = true ∧ receiving.bitA Reg.COR_RX_CTL 31 = true ∧ receiving.cor.stream = none ∧
    (corrected.corOn && corrected.frameIn && !corrected.cor.done) = true ∧ (leAt (zeros 16) 4 2 + 1 ≠ (receiving.wrA Reg.COR_REGION 0x10000).geo.w) ∧ (receiving.corOn && !receiving.cor.done) = true ∧
    (runs 1 1).corOn = false ∧ (runs 0 0).tile = false ∧ receiving.tile = true :=
  ⟨⟨rfl, by decide, by decide, by decide⟩, by decide⟩

/-- A tile whose lane 0 is starting, lane 1 up with an access in progress, and lane 2 lost; frames run and lane 1 is enabled. -/
def anAccess : FurOp := { lane := 1, seq := 0, fails := 0, pkt := enumPkt, kind := .access }
def furrowing : State :=
  (((runsWith 1 1 [(Reg.FUR_LANE_STATUS 0, 1 * 2 ^ 29), (Reg.FUR_LANE_STATUS 1, 2 * 2 ^ 29), (Reg.FUR_LANE_STATUS 2, 3 * 2 ^ 29),
    (Reg.FUR_LANE_STATUS 3, 4 * 2 ^ 29)]).wrA Reg.FUR_CTL 1).wrA (Reg.FUR_LANE_CFG 1) (BitVec.ofNat 32 (2 ^ 31))).modFur
    (fun f => { f with running := true, ops := [anAccess] })

set_option maxRecDepth 8192 in
theorem test_witness_lanes : furrowing.canonical ∧ furrowing.tile = true ∧ furrowing.laneState 0 = Lane.starting ∧
    furrowing.laneState 3 = Lane.mismatch ∧ furrowing.looped 1 = true ∧ furrowing.laneState 2 = Lane.lost ∧ furrowing.laneOn 1 = true ∧
    furrowing.fur.running = true ∧ furrowing.looped 63 = false ∧ (∃ o ∈ furrowing.fur.ops, o.kind = .access ∧ o.lane = 1) ∧
    (runs 0 0).tile = false ∧ furCrcOk [] = false := by
  unfold furrowing State.canonical; decide
/-- R432: the ENUM of a lane with no companions, cut to its header. -/
def enumBack : List Byte := ({ enumPkt with payload := [] } : FurPkt).bytes 0
set_option maxRecDepth 8192 in
theorem test_witness_enum : furCrcOk enumBack = true ∧ min 36 (leAt (parseFur enumBack).payload 0 1) = 0 ∧ leAt (parseFur enumBack).payload 1 1 = 0 ∧
    furrowing.expectSinks 0 = 0 ∧ furrowing.expectRows 0 = 0 := by decide

/-- A tile that drives subframes, the first uploaded and one to come, with lane 1 up and one companion on it. -/
def driving : State := (furrowing.setFld (Reg.FUR_LANE_STATUS 1) 21 16 1).modFur (fun f =>
  { f with shown := 3, uploads := [(0, [], [])], joined := [1], ops := [] })
/-- A READ packet back from a lane. -/
def readBack (flags : Nat) : List Byte := ({ readPkt 0 3 1 with flags := flags, payload := [0, 0, 0, 0] } : FurPkt).bytes 0
set_option maxRecDepth 8192 in
theorem test_witness_subframes : driving.canonical ∧ driving.furRuns 0 = true ∧ driving.furRuns 1 = true ∧ driving.furRuns 3 = false ∧
    driving.fur.uploads.any (fun u => u.1 == 0) = true ∧ driving.fur.uploads.any (fun u => u.1 == 1) = false ∧ driving.fur.started = [] ∧
    driving.fur.lates = [] ∧ driving.fur.lateRaised = false ∧ driving.tile = true ∧ driving.bit Reg.FUR_ACC_CTL 31 = false ∧
    (driving.setBit Reg.FUR_ACC_CTL 31 true).bit Reg.FUR_ACC_CTL 31 = true ∧ driving.laneOn 1 = true ∧ driving.laneState 1 ≠ Lane.lost ∧
    bits (BitVec.toNat 0x100#32) 21 16 < driving.fld (Reg.FUR_LANE_STATUS 1) 21 16 ∧ bits (BitVec.toNat 0x100#32) 13 8 = 1 ∧
    driving.fld (Reg.FUR_LANE_STATUS 1) 21 16 ≤ bits (BitVec.toNat 0x10100#32) 21 16 ∧ driving.laneOn 0 = false ∧
    (((driving.setLane 1 Lane.lost).laneOn 1) = true ∧ (driving.setLane 1 Lane.lost).laneState 1 = Lane.lost) := by
  unfold driving furrowing State.canonical; decide
set_option maxRecDepth 8192 in
theorem test_witness_return : (furrowing.tile && furrowing.laneState 1 != Lane.off) = true ∧ (furrowing.tile && furrowing.laneState 9 != Lane.off) = false ∧
    (parseFur (readBack 8)).type = 5 ∧ furCrcOk (readBack 8) = true ∧ (parseFur (readBack 8)).flags.testBit 3 = true ∧
    (parseFur (readBack 0)).flags.testBit 3 = false ∧ anAccess.pkt.bcast = true ∧
    furrowing.returned 1 (furSeq (readBack 8)) = (some anAccess, []) ∧ anAccess.kind = .access ∧ anAccess.fails < 2 := by decide
set_option maxRecDepth 8192 in
theorem test_witness_return_third : (furrowing.modFur (fun f => { f with ops := [{ anAccess with pkt := readPkt 0 3 1, fails := 2 }] })).returned 1
      (furSeq (readBack 0)) = (some { anAccess with pkt := readPkt 0 3 1, fails := 2 }, []) ∧
    (furCrcOk (readBack 0) && ((readPkt 0 3 1).bcast || (parseFur (readBack 0)).flags.testBit 3)) = false := by decide

/-- A companion in lock at place 0 of lane 0: a sink (ID 1), or a row driver (ID 2), at position 0, that holds the given packets. -/
def cascade (kind : Nat) (held : List FurPkt) (wait : Bool) : State :=
  (runs 1 1).modComp 0 0 (fun c => { c with id := BitVec.ofNat 32 (kind * 2 ^ 28 + 16), locked := true, pos := some (0, 0), waitSync := wait,
                                            held := held })
/-- A packet without body, as its bytes. -/
def bare (p : FurPkt) : List Byte := ({ p with payload := [] } : FurPkt).bytes 0
set_option maxRecDepth 8192 in
theorem test_witness_companion : (runs 1 1).live = true ∧ State.reset.live = false ∧ (cascade 1 [] false).compOn 0 0 = true ∧
    (cascade 1 [] false).compOn 1 0 = false ∧ ((cascade 1 [] false).comp 0 0).sink = true ∧
    ((cascade 2 [] false).compOn 0 0 && ((cascade 2 [] false).comp 0 0).rowDriver) = true ∧ ((cascade 2 [] false).comp 0 0).sink = false ∧
    ((cascade 1 [] true).comp 0 0).waitSync = true ∧ ((cascade 1 [] false).comp 0 0).waitSync = false ∧
    (∀ t : Fin 8, furCrcOk (bare { enumPkt with type := t.val }) = true ∧ (parseFur (bare { enumPkt with type := t.val })).type = t.val) ∧
    (parseFur [0x20]).type = 2 ∧ (parseFur [0x30]).type = 3 ∧ (parseFur [0x40]).type = 4 ∧ furCrcOk [0x20] = false ∧ furCrcOk [0x30] = false ∧
    furCrcOk [0x40] = false := by decide
set_option maxRecDepth 8192 in
theorem test_witness_timed :
    ((cascade 1 [] false).comp 0 0).takes (parseFur (bare (linePkt 0 0 false false))) = true ∧
    (Companion.absent).takes (parseFur (bare (linePkt 0 0 false false))) = false ∧
    (subMod 24 (parseFur (bare (linePkt 0 0 false false))).at_ ((cascade 1 [] false).compStep ((cascade 1 [] false).comp 0 0)) < 2 ^ 23 ∧
      ((cascade 1 [] false).comp 0 0).held.length < 8) ∧
    ¬ (((cascade 1 (List.replicate 8 enumPkt) false).comp 0 0).held.length < 8) ∧
    ((cascade 1 [] false).comp 0 0).addressed (parseFur (bare (writePkt true 0 0x10 [1]))) = true ∧
    ((cascade 1 [] false).comp 0 0).addressed (parseFur (bare (writePkt false 9 0x10 [1]))) = false ∧
    ((cascade 1 [] false).comp 0 0).addressed (parseFur (bare (readPkt 0 0x10 1))) = true ∧
    (parseFur (bare (writePkt false 0 0x10 [1]))).bcast = false ∧ ((cascade 1 [] false).comp 0 0).pos = some (0, 0) := by decide
/-- A DATA packet of one sink for line 0, and an ENUM that 36 companions have passed. -/
def dataBytes : List Byte := (dataPkt 0 (zeros 72)).bytes 0
def enumFull : List Byte := ({ enumPkt with payload := leBytes 1 36 } : FurPkt).bytes 0
theorem test_witness_data : furCrcOk dataBytes = true ∧ (parseFur dataBytes).type = 3 ∧ (parseFur dataBytes).addr ≤ 0 ∧
    72 * (0 - (parseFur dataBytes).addr + 1) ≤ (parseFur dataBytes).payload.length ∧ (parseFur dataBytes).arg < 64 ∧
    furCrcOk enumFull = true ∧ (parseFur enumFull).type = 6 ∧ 36 ≤ leAt (parseFur enumFull).payload 0 1 := by decide +kernel
set_option maxRecDepth 8192 in
theorem test_witness_due (w : Bool) :
    (cascade 1 [linePkt 5 0 true true] w).due ((cascade 1 [linePkt 5 0 true true] w).comp 0 0) (fun p => p.type == 2 && decide (p.arg < 64)) =
      (some (linePkt 5 0 true true), []) ∧
    ((cascade 1 [] w).due ((cascade 1 [] w).comp 0 0) (fun p => p.type == 2 && decide (p.arg < 64))).1 = none ∧
    (cascade 2 [linePkt 0xFF 0 false false] w).due ((cascade 2 [linePkt 0xFF 0 false false] w).comp 0 0) (fun p => p.type == 2 && p.arg == 0xFF) =
      (some (linePkt 0xFF 0 false false), []) ∧
    (cascade 1 [testPkt 3 0] w).due ((cascade 1 [testPkt 3 0] w).comp 0 0) (fun p => p.type == 7) = (some (testPkt 3 0), []) ∧
    ((cascade 1 [testPkt 3 0] w).comp 0 0).line = none ∧ (cascade 1 [testPkt 3 0] w).compOn 0 0 = true ∧
    (((cascade 1 [testPkt 3 0] w).modComp 0 0 (fun c => { c with line := some 1 })).comp 0 0).line.isSome = true := by
  cases w <;> decide
theorem test_witness_canonical_cascade (k : Nat) (h : List FurPkt) (w : Bool) : (cascade k h w).canonical := by
  have h : (runs 1 1).canonical := by unfold State.canonical; decide
  unfold cascade State.modComp State.modFur
  exact ⟨h.1, h.2.1, h.2.2.1, h.2.2.2⟩

/-- A tile whose lamp map holds an open present fault on channel 0 of line 0 of sink 0 of lane 0 and that is to load its group table. -/
def lamping : State := (runs 1 1).modLmp (fun x => { x with faults := [(1, 1)], loading := true })
set_option maxRecDepth 8192 in
theorem test_witness_lamp : lamping.canonical ∧ lamping.tile = true ∧ lamping.lmp.loading = true ∧ (runs 0 0).tile = false ∧
    lamping.addrA Reg.LMP_GROUP_BASE_LO % 4096 = 0 ∧ lamping.faultMask (lineKey (lamping.fld Reg.LMP_MAP_LANE 5 0) 0 0) (0 + 1) &&& 1 ≠ 0 ∧
    lamping.faultMask (lineKey (lamping.fld Reg.LMP_MAP_LANE 5 0) 0 0) (0 + 1) &&& 2 = 0 ∧
    (lamping.wrA Reg.LMP_GROUP_BASE_LO 0x100).addrA Reg.LMP_GROUP_BASE_LO % 4096 ≠ 0 := by
  unfold lamping State.canonical; decide

/-- A solve whose step is under way. -/
def aSolve : Solve :=
  { anchor := false, dest := 0, step := true, ready := false, passed := [0], gain := [], result := [], temps := (0, 0), last := 0,
    satSeen := [], targets := [], measured := 0, acc := [] }
/-- A tile in a valid frame whose sensor 0 is enabled (CAL_CTL.en and bit 8), and FUR has run. -/
def sensing : State := ((framing 1 1).wrA Reg.CAL_CTL 0x101).modCal (fun c => { c with everRan := true, solve := some aSolve })
set_option maxRecDepth 8192 in
theorem test_witness_cal : sensing.canonical ∧
    (sensing.tile && sensing.bitA Reg.CAL_CTL 0 && sensing.frameValid && sensing.cal.everRan && decide (sensing.sampleAt 0 ≤ sensing.availSteps)) = true ∧
    (sensing.tile && sensing.bitA Reg.CAL_CTL 0 && sensing.frameValid && sensing.cal.everRan &&
      decide (sensing.sampleAt 100000000 ≤ sensing.availSteps)) = false ∧
    ¬ (sensing.solvePhase = Phase.queued ∨ sensing.solvePhase = Phase.running) ∧
    (sensing.wrN Reg.CAL_SOLVE_STATUS (2 * 2 ^ 29)).solvePhase = Phase.running ∧ sensing.cal.solve = some aSolve ∧
    (aSolve.step && !aSolve.ready) = true ∧ (runs 1 1).cal.solve = none ∧ sensing.sensors = [0] := by
  unfold sensing State.canonical; decide

/-- A chip in a valid frame with AUD enabled and its anchor running; group 0 is lost, group 1 measures and group 2 runs; stream 0 runs
on port 0, which is ACTIVE. -/
def sounding (m r : Nat) : State :=
  ((((framing m r).wrA Reg.AUD_CTL 1).wrN Reg.AUD_ANCHOR_CTL (2 ^ 31)).wrN (Reg.AUD_GRP_STATUS 0) (3 * 2 ^ 29)).wrN (Reg.AUD_GRP_STATUS 1) (2 ^ 29)
    |>.wrN (Reg.AUD_GRP_STATUS 2) (2 * 2 ^ 29) |>.wrN (Reg.AUD_STR_STATUS 0) (2 * 2 ^ 29) |>.wrN (Reg.SLK_STATUS 0) (6 * 2 ^ 29)
set_option maxRecDepth 16384 in
theorem test_witness_aud : (sounding 0 0).canonical ∧ (sounding 0 0).audOn = true ∧ (runs 0 0).audOn = false ∧ (sounding 0 0).grpState 0 = 3 ∧
    (sounding 0 0).grpState 1 = 1 ∧ (sounding 0 0).grpState 2 = 2 ∧ (sounding 0 0).grpState 3 = 0 ∧ (sounding 0 0).grpDirect 1 = false ∧
    ((sounding 0 0).sender || (sounding 0 0).tile) = true ∧ ((runs 2 2).sender || (runs 2 2).tile) = false := by
  unfold sounding State.canonical; decide
set_option maxRecDepth 16384 in
theorem test_witness_stream :
    ((sounding 0 0).sender && (sounding 0 0).audOn && (sounding 0 0).bit Reg.AUD_ANCHOR_CTL 31 && (sounding 0 0).frameValid &&
      (sounding 0 0).fld (Reg.AUD_STR_STATUS 0) 31 29 == 2 &&
      decide (((sounding 0 0).sheafSpan 0 ((sounding 0 0).cursor 0).frame ((sounding 0 0).cursor 0).next).2 ≤ (sounding 0 0).ssc + 1)) = true ∧
    (sounding 0 0).mutedOn ((sounding 0 0).strPort 0) = false ∧ (sounding 0 0).active ((sounding 0 0).strPort 0) = true ∧
    ((sounding 0 0).wrN (Reg.SLK_STATUS 0) 0).active ((sounding 0 0).strPort 0) = false ∧
    (((sounding 0 0).wrN (Reg.SXQ_PORT_CHAIN 0) (2 * 2 ^ 30)).setBit (Reg.RED_P_STATE 0) 29 true).mutedOn ((sounding 0 0).strPort 0) = true := by
  unfold sounding; decide
/-- A tile that taps audio stream 0 for output port 0. -/
def tapping : State := ((sounding 1 1).wrA (Reg.AUD_PORT_CTL 0) (BitVec.ofNat 32 (2 ^ 31 + 2 ^ 30))).wrA (Reg.AUD_PORT_SRC 0) (BitVec.ofNat 32 (2 ^ 31))
set_option maxRecDepth 16384 in
theorem test_witness_tap : tapping.canonical ∧ (tapping.tile && tapping.audOn && tapping.tapsAudio 0 && decide (32 ≤ (zeros 32).length)) = true ∧
    (tapping.tile && tapping.audOn && tapping.tapsAudio 1 && decide (32 ≤ (zeros 32).length)) = false ∧
    0 < diff48 ((tapping.tb48 0 + tapping.leadOf 0 * 2 ^ 16) % 2 ^ 48) ((leAt (zeros 32) 0 4 * 2 ^ 16 + leAt (zeros 32) 4 2) % 2 ^ 48) ∧
    ¬ 0 < diff48 ((tapping.tb48 0 + tapping.leadOf 0 * 2 ^ 16) % 2 ^ 48)
      ((leAt (leBytes 4 1000000000 ++ zeros 28) 0 4 * 2 ^ 16 + leAt (leBytes 4 1000000000 ++ zeros 28) 4 2) % 2 ^ 48) := by
  unfold tapping sounding State.canonical; decide

/-- A sender whose port 0 is a direct input of group 0 that runs. -/
def clocking : State :=
  ((((sounding 0 0).wrA (Reg.AUD_PORT_CTL 0) (BitVec.ofNat 32 (2 ^ 31))).wrA (Reg.AUD_GRP_CTL 0) (BitVec.ofNat 32 (2 ^ 30))).wrN
    (Reg.AUD_PORT_STATUS 0) (2 * 2 ^ 29))
set_option maxRecDepth 16384 in
theorem test_witness_clocks : clocking.canonical ∧ (clocking.audOn && clocking.bit Reg.AUD_ANCHOR_CTL 31) = true ∧
    ((runs 0 0).audOn && (runs 0 0).bit Reg.AUD_ANCHOR_CTL 31) = false ∧
    ((clocking.sender || clocking.tile) && clocking.portEnabled 0) = true ∧ ((clocking.sender || clocking.tile) && clocking.portEnabled 1) = false ∧
    2 < (3 : Int).natAbs ∧ (2 : Int).natAbs ≤ 2 ∧ clocking.aud.misaligned.contains 0 = false ∧ clocking.audOn = true ∧
    clocking.fld (Reg.AUD_PORT_STATUS 0) 31 29 = 2 ∧ clocking.portOut 0 = false ∧ clocking.grpDirect (clocking.portGroup 0) = true ∧
    clocking.aud.got.contains 0 = false ∧ 0 < clocking.portChannels 0 := by
  unfold clocking sounding State.canonical; decide

/-- A sender whose DMC is in state `n`, with operating points 0 and 1 enabled and 1 trained. -/
def dramming (n : Nat) : State :=
  ((((runs 0 0).wrN Reg.DMC_STATUS (n * 2 ^ 29)).wrN (Reg.DMC_OP_RATE 0) (3 * 2 ^ 30)).wrN (Reg.DMC_OP_RATE 1) (3 * 2 ^ 30)).wrN Reg.SCN_STATUS (2 ^ 30)
/-- The same with a frequency change queued. -/
def changing : State := (dramming 2).modDmc (fun x => { x with freq := some (1, 9) })
set_option maxRecDepth 16384 in
theorem test_witness_training : (dramming 1).canonical ∧ (dramming 2).canonical ∧ (dramming 0).canonical ∧ (runs 2 2).dmcOn = false ∧ (dramming 1).dmcOn = true ∧
    (dramming 0).dmcOn = true ∧ (dramming 0).dmcState = 0 ∧ (dramming 1).dmcState = 1 ∧ (dramming 2).dmcState = 2 ∧
    (1 : Word).getLsbD 8 = false ∧ (0x100 : Word).getLsbD 8 = true ∧ ((dramming 1).dmcOn && (dramming 1).dmcState == 1) = true ∧
    ((dramming 0).dmcOn && (dramming 0).dmcState == 1) = false := by
  unfold dramming State.canonical; decide
set_option maxRecDepth 16384 in
theorem test_witness_frequency : changing.canonical ∧ changing.dmcOn = true ∧ changing.dmc.freq = some (1, 9) ∧ (dramming 2).dmc.freq = none ∧
    (0 : Word).getLsbD 0 = false ∧ (0x11 : Word).getLsbD 0 = true ∧ (dramming 2).dmcOn = true ∧ (dramming 2).dmcState ≠ 1 ∧ (dramming 1).dmc.freq = none ∧
    (dramming 2).opsOn.contains (bits (0x31 : Word).toNat 5 4) = false ∧ (dramming 2).opsOn.contains (bits (0x11 : Word).toNat 5 4) = true ∧
    (dramming 2).opTrained (bits (0x11 : Word).toNat 5 4) = true ∧ bits (0x11 : Word).toNat 5 4 ≠ (dramming 2).fld Reg.DMC_STATUS 26 25 ∧
    (changing.dmcOn && changing.dmcState == 2 && changing.freqWindow) = true ∧ ((dramming 0).dmcOn && (dramming 0).dmcState == 2) = false ∧
    ((dramming 2).dmcOn && (dramming 2).dmcState == 2) = true := by
  unfold changing dramming State.canonical; decide

/-- A request of the compositor for 16 bytes of the first access, of level `l`. -/
def aReq (write : Bool) (l : Nat) : DramReq :=
  { req := 6, level := l, addr := dramBase, len := 16, write := write, data := if write then zeros 16 else [], poison := [], merged := false,
    arrived := 0 }
/-- The running DMC with granule 0 valid and one request queued in group 0. -/
def requested (write : Bool) (l : Nat) : State :=
  ((dramming 2).modMec (fun m => { m with valid := [0] })).modGrp 0 (fun x => { x with queue := [aReq write l], throttled := [(6, 1)] })
set_option maxRecDepth 16384 in
theorem test_witness_request : (requested true 1).canonical ∧ ((runs 2 2).dmcOn && decide (dramBase ≤ dramBase)) = false ∧
    ((requested true 1).dmcOn && decide (dramBase ≤ dramBase)) = true ∧ dramBase % 256 + 16 ≤ 256 ∧ (0x800000000000 : Nat) % 256 + 16 ≤ 256 ∧
    (requested true 1).dramCap ≤ 0x800000000000 - dramBase ∧ dramBase - dramBase < (requested true 1).dramCap ∧
    (requested true 1).mec.valid.contains (granuleOf dramBase) = true ∧ (requested true 1).dramUp = true ∧ (dramming 0).dramUp = false ∧
    (dramming 2).mec.valid.contains (granuleOf dramBase) = false ∧ (dramming 2).mec.fills.any (fun f => f.1 == granuleOf dramBase) = false ∧
    (dramming 2).dramUp = true := by
  unfold requested dramming State.canonical; decide
set_option maxRecDepth 16384 in
theorem test_witness_issue : (requested true 1).grpRuns 0 = true ∧ (requested true 1).chooseIn 0 = some (aReq true 1, false) ∧
    ((aReq true 1).write && !(aReq true 1).isPartial) = true ∧ (requested false 1).chooseIn 0 = some (aReq false 1, false) ∧
    ((aReq false 1).write && !(aReq false 1).isPartial) = false ∧ (requested true 1).memOk (aReq true 1).addr = true ∧
    (requested true 1).memOk ((aReq true 1).addr + (aReq true 1).data.length - 1) = true ∧ (dramming 2).chooseIn 0 = none ∧
    (requested true 2).grpRuns 0 = true ∧ ((requested true 2).dgrp 0).queue.findIdx? (fun r => r.level == 2) = some 0 ∧
    ((requested true 1).dgrp 0).queue.findIdx? (fun r => r.level == 2) = none ∧ (aReq true 1).req < 16 := by
  unfold requested dramming; decide
set_option maxRecDepth 16384 in
theorem test_witness_refresh : (dramming 1).grpRuns 0 = false ∧ (requested false 0).urgentIn 0 = true ∧ (dramming 2).urgentIn 0 = false ∧
    (dramming 2).credit 0 = 0 ∧ ((dramming 2).wrN (Reg.DMC_GRP_REF 0) (2 ^ 16)).credit 0 ≠ 0 ∧ (requested false 0).credit 0 = 0 ∧ (requested false 0).owed 0 < 7 ∧
    ((requested false 0).wrN (Reg.DMC_GRP_REF 0) (7 * 2 ^ 24)).urgentIn 0 = true ∧ ((requested false 0).wrN (Reg.DMC_GRP_REF 0) (7 * 2 ^ 24)).owed 0 = 7 ∧
    ((requested false 0).wrN (Reg.DMC_GRP_REF 0) (7 * 2 ^ 24)).credit 0 = 0 ∧ ((requested false 0).dgrp 0).forced = false ∧
    (((dramming 2).wrN (Reg.DMC_GRP_REF 0) (2 ^ 24)).grpRuns 0 && ((dramming 2).wrN (Reg.DMC_GRP_REF 0) (2 ^ 24)).owed 0 != 0 &&
      !((dramming 2).wrN (Reg.DMC_GRP_REF 0) (2 ^ 24)).urgentIn 0) = true ∧
    ((dramming 2).grpRuns 0 && (dramming 2).owed 0 != 0 && !(dramming 2).urgentIn 0) = false ∧
    ((dramming 2).grpRuns 0 && (dramming 2).owed 0 == 0 && decide ((dramming 2).credit 0 < 8) && ((dramming 2).dgrp 0).queue.isEmpty) = true ∧
    ((requested false 0).grpRuns 0 && (requested false 0).owed 0 == 0 && decide ((requested false 0).credit 0 < 8) &&
      ((requested false 0).dgrp 0).queue.isEmpty) = false := by
  unfold requested dramming; decide
set_option maxRecDepth 16384 in
theorem test_witness_throttle : ((dramming 2).dmcOn && (dramming 2).dmcState == 2) = true ∧ ((dramming 0).dmcOn && (dramming 0).dmcState == 2) = false ∧
    (0 : Fin 2) ∈ (dramming 2).groupList ∧
    (((requested true 1).wrN Reg.DMC_RH_LIMIT 8).dmcOn && (((requested true 1).wrN Reg.DMC_RH_LIMIT 8).dgrp 0).act.toList.all (fun c => decide (c < ((requested true 1).wrN Reg.DMC_RH_LIMIT 8).rhWarn))) = true ∧
    ((runs 2 2).dmcOn && ((runs 2 2).dgrp 0).act.toList.all (fun c => decide (c < (runs 2 2).rhWarn))) = false ∧
    (6, 1) ∈ ((requested true 1).dgrp 0).throttled ∧ ((requested true 1).dgrp 0).throttled ≠ [] ∧ (∀ u ∈ ((requested true 1).dgrp 0).throttled, u.1 < 16) := by
  unfold requested dramming; decide

/-- A burst that a read of the compositor waits for, in group 0 of the running DMC, and the same of zero bytes. -/
def bursting (n : Nat) : State := (dramming 2).modGrp 0 (fun x => { x with reading := [({ aReq false 1 with len := 16 }, zeros n)] })
set_option maxRecDepth 16384 in
theorem test_witness_burst : (bursting 256).canonical ∧ (bursting 256).grpRuns 0 = true ∧ (dramming 2).grpRuns 0 = true ∧ ((dramming 2).dgrp 0).reading = [] ∧
    ((bursting 256).dgrp 0).reading = [({ aReq false 1 with len := 16 }, zeros 256)] ∧ (bursting 256).lostChannel 0 = none ∧ (zeros 256).length = 256 ∧
    (∀ w ∈ (bursting 256).mec.poison, w / 16 ≠ (aReq false 1).access) ∧ (aReq false 1).write = false ∧ (aReq false 1).req ≠ 15 ∧ (aReq false 1).req ≠ 3 := by
  unfold bursting dramming State.canonical; decide
set_option maxRecDepth 16384 in
theorem test_witness_bad_word : ∀ k, k < 16 →
    (rsDecode ((bursting 256).lostChannel 0) ((bursting 256).wordRead (aReq false 1).access (zeros 256) k [(0, 0, 1), (0, 1, 1)])).1 =
      if k = 0 then .bad else .clean := by
  unfold bursting dramming; decide
set_option maxRecDepth 16384 in
theorem test_witness_granary : (runs 0 0).canonical ∧ (runs 0 0).live = true ∧ (runs 0 0).memOk (granaryBase + (0x800000 : BitVec 26).toNat / 8 * 8) = true ∧
    State.reset.live = false ∧ 0x800000 ≤ (0x800000 : BitVec 26).toNat / 8 * 8 ∧
    (0x800000 : BitVec 26).toNat / 8 * 8 < 0x800000 + (runs 0 0).dramCap / 32768 ∧
    ((0x800000 : BitVec 26).toNat / 8 * 8 - 0x800000) / 8 * 64 + 63 < (runs 0 0).granules ∧ (runs 2 2).dmcOn = false ∧ (runs 0 0).dmcOn = true ∧
    (((runs 0 0).wrN Reg.MEC_CTL 1).wrN Reg.MEC_GLEAN_CTL (2 ^ 16)).dmcOn = true ∧ (((runs 0 0).wrN Reg.MEC_CTL 1).wrN Reg.MEC_GLEAN_CTL (2 ^ 16)).bit Reg.MEC_CTL 0 = true ∧
    ((((runs 0 0).wrN Reg.MEC_CTL 1).wrN Reg.MEC_GLEAN_CTL (2 ^ 16)).fld Reg.MEC_GLEAN_CTL 31 16 != 0) = true ∧
    (((runs 0 0).wrN Reg.MEC_CTL 1).wrN Reg.MEC_GLEAN_CTL (2 ^ 16)).mec.slow = false ∧
    ((runs 2 2).dmcOn && (runs 2 2).bit Reg.MEC_CTL 0 && (runs 2 2).fld Reg.MEC_GLEAN_CTL 31 16 != 0 && !(runs 2 2).mec.slow) = false := by
  unfold State.canonical; decide

/-- The running DMC with a granule, an access to scrub and one to write back, a fill and a trim; granule 0 is valid. -/
def granuled : State :=
  ((dramming 2).wrN Reg.MEC_CTL 1).modMec (fun m => { m with valid := [0], scrub := m.scrub.set 0 [3], back := [5], fills := [(0, aReq true 1)], trim := some (2, 1) })
set_option maxRecDepth 16384 in
theorem test_witness_granules : granuled.canonical ∧ granuled.dmcOn = true ∧ granuled.dramUp = true ∧ granuled.mec.fills = [(0, aReq true 1)] ∧
    granuled.mec.trim = some (2, 1) ∧ granuled.trimFree 2 1 = true ∧ granuled.trimFree 0 1 = false ∧ granuled.gleans 0 = true ∧ granuled.mec.scrub[(0 : Fin 2)] = [3] ∧
    granuled.mec.back = [5] ∧ (granuled.dmcOn && granuled.dmcState == 2) = true ∧ granuled.bit Reg.MEC_TRIM_CTL 31 = false ∧
    (granuled.setBit Reg.MEC_TRIM_CTL 31 true).bit Reg.MEC_TRIM_CTL 31 = true ∧ (0 : Fin 2) ∈ granuled.groupList := by
  unfold granuled dramming State.canonical; decide
set_option maxRecDepth 16384 in
theorem test_witness_lap : (granuled.modMec (fun m => { m with scrub := m.scrub.set 0 [] })).mec.scrub[(0 : Fin 2)] = [] ∧
    (granuled.modMec (fun m => { m with scrub := m.scrub.set 0 [] })).nextAccess 0 = some 0 ∧
    (granuled.modMec (fun m => { m with scrub := m.scrub.set 0 [], valid := [] })).nextAccess 0 = none ∧ (runs 2 2).dmcOn = false ∧
    (runs 2 2).gleans 0 = false ∧ (dramming 0).dmcOn = true ∧ (dramming 0).dramUp = false ∧ (dramming 0).mec.fills = [] ∧ (dramming 0).mec.trim = none ∧
    ((dramming 0).dmcOn && (dramming 0).dmcState == 2) = false ∧ ∀ i ∈ granuled.mec.valid, 16 * i + 16 ≤ granuled.dramCap / 256 := by
  unfold granuled dramming; decide

/-- One occurrence of event source 1 with a detail area of `n` bytes, staged. -/
def anEntry (n : Nat) : Staged :=
  { src := 1, stamp := 0, lost := false, seq := 0, inst := 0xFFFF, frame := 0, detail := zeros n, cfg := 0x80000000 }
def staging (n : Nat) (ctl logged : Nat) : State :=
  (((dramming 2).wrN Reg.EVT_CTL ctl).wrN Reg.EVT_LOGGED logged).modEvt (fun e => { e with stage := [anEntry n] })
set_option maxRecDepth 16384 in
theorem test_witness_ledger_write : (staging 20 0 0).canonical ∧ ((staging 20 0 0).live && !(staging 20 0 0).evt.stopped) = true ∧
    (staging 20 0 0).nextSource = some 1 ∧ takeStaged 1 (staging 20 0 0).evt.stage = (some (anEntry 20), []) ∧
    ((staging 20 0 0).dramEn && decide (8192 < (staging 20 0 0).undrained + (anEntry 20).entries.length)) = false ∧
    ((staging 20 1 8191).dramEn && decide (8192 < (staging 20 1 8191).undrained + (anEntry 20).entries.length)) = true ∧
    (anEntry 20).entries.length = 2 ∧ (anEntry 16).entries.length = 1 ∧ (staging 20 0 0).evt.gring = [] ∧
    (State.reset.live && !State.reset.evt.stopped) = false := by
  unfold staging dramming State.canonical; decide
/-- Two entries to drain to a DRAM ring at the base of DRAM, which holds `held` entries. -/
def draining (held ctl : Nat) : State := (((staging 0 ctl 2).wrN Reg.EVT_DRAM_SIZE 10).wrN Reg.EVT_DRAM_BASE_HI 0x40).wrN Reg.EVT_DRAM_WR held
set_option maxRecDepth 16384 in
theorem test_witness_drain : (draining 8 3).canonical ∧ (draining 8 3).drains = true ∧ (draining 8 3).drainRoom = 8 ∧ (draining 8 3).undrained = 2 ∧
    (draining 6 3).drainRoom = 2 ∧ (draining 8 2).drains = false ∧ (draining 8 3).dramRingHeld + 2 ≤ (draining 8 3).dramRingSize ∧
    (draining 1024 3).dramRingSize < (draining 1024 3).dramRingHeld + 2 ∧ (draining 1024 3).bit Reg.EVT_CTL 2 = false ∧
    (draining 1024 7).bit Reg.EVT_CTL 2 = true ∧ (draining 1024 7).drains = true ∧
    (draining 8 3).addr Reg.EVT_DRAM_BASE_LO + 32 * (((draining 8 3).rd Reg.EVT_DRAM_WR).toNat % (draining 8 3).dramRingSize) = dramBase + 256 ∧
    (draining 8 3).memOk (dramBase + 256) = true ∧ (draining 8 3).memOk (dramBase + 256 + 64 - 1) = true ∧
    ((List.range 2).flatMap (fun i => (draining 8 3).ledgerEntry (((draining 8 3).rd Reg.EVT_GRING_DRAINED).toNat + i))).length = 64 := by
  unfold draining staging dramming State.canonical; decide

/-- A sender whose vector 3 has a message ready or held, as said, with the function's enables at `on`. -/
def messaging (on : Bool) (ready hold held : List Nat) : State :=
  ((runsWith 0 0 [(Reg.PCI_MSIX_VCTL 3, 0), (Reg.EVT_IRQ_CTL, 5)]).modPci (fun p => { p with bme := on, msixEn := true, msixMask := false })).modEvt
    (fun e => { e with msixReady := ready, holdoff := hold, heldReq := held })
/-- A tile with one occurrence to forward. -/
def forwarding (holder : Option (Nat × Nat × Nat × Port)) (raised : Bool) : State :=
  ((runs 1 1).modRedAll (fun r => { r with holder := holder })).modEvt (fun e => { e with forward := [(5, 0, zeros 32)], fwdDropRaised := raised })
set_option maxRecDepth 16384 in
theorem test_witness_evt_settings : (runs 0 0).canonical ∧ ((runs 0 0).live && !newer 32 (0 : Word).toNat ((staging 0 0 0).rd Reg.EVT_DRAM_WR).toNat) = true ∧
    ((runs 0 0).live && !newer 32 (9 : Word).toNat ((staging 0 0 0).rd Reg.EVT_DRAM_WR).toNat) = false ∧ State.reset.live = false ∧
    ((1 : Word).getLsbD 0 && ((dramming 2).dramEn || (dramming 2).dmcState == 2)) = true ∧ (dramming 2).dramEn = false ∧
    ((1 : Word).getLsbD 0 && ((runs 0 0).dramEn || (runs 0 0).dmcState == 2)) = false ∧ (staging 0 1 0).dramEn = true ∧
    ((staging 0 0 0).live && !(staging 0 0 0).drainEn) = true ∧ ((staging 0 2 0).live && !(staging 0 2 0).drainEn) = false ∧
    ((staging 0 0 0).rd Reg.EVT_DRAM_SIZE).toNat ≠ bits (12 : Word).toNat 4 0 ∧ ((staging 0 0 0).rd Reg.EVT_DRAM_BASE_HI).toNat ≠ bits (0x40 : Word).toNat 7 0 ∧
    ((staging 0 0 0).rd Reg.EVT_DRAM_BASE_LO).toNat ≠ (0x1000 : Word).toNat / 2 ^ 12 * 2 ^ 12 ∧
    ((staging 0 0 0).rd Reg.EVT_DRAM_BASE_LO).toNat = (0xFFF : Word).toNat / 2 ^ 12 * 2 ^ 12 := by
  unfold staging dramming State.canonical; decide
set_option maxRecDepth 16384 in
theorem test_witness_messages : (messaging true [3] [] []).canonical ∧ ((messaging true [3] [] []).live && (messaging true [3] [] []).role == 0) = true ∧
    (messaging true [3] [] []).evt.msixReady = [3] ∧ (messaging true [3] [] []).evt.holdoff.contains 3 = false ∧ (messaging true [3] [3] []).evt.holdoff.contains 3 = true ∧
    (messaging true [3] [] []).msixOpen 3 = true ∧ (messaging false [3] [] []).msixOpen 3 = false ∧
    ((messaging true [] [3] [3]).live && (messaging true [] [3] [3]).role == 0 && (messaging true [] [3] [3]).evt.holdoff.contains 3) = true ∧
    (messaging true [] [3] [3]).evt.heldReq.contains 3 = true ∧ (messaging true [] [3] []).evt.heldReq.contains 3 = false ∧
    ((runs 0 0).live && (runs 0 0).role == 0 && (runs 0 0).evt.holdoff.contains 3) = false ∧ (runs 0 0).evt.msixReady = [] ∧
    ((runs 1 1).live && (runs 1 1).role == 0) = false := by
  unfold State.canonical; decide
set_option maxRecDepth 16384 in
theorem test_witness_forward : (forwarding none false).canonical ∧ (forwarding none false).tile = true ∧ (forwarding none false).evt.forward = [(5, 0, zeros 32)] ∧
    (forwarding none false).red.holder = none ∧ (forwarding none true).evt.fwdDropRaised = true ∧ (forwarding none false).evt.fwdDropRaised = false ∧
    (forwarding (some (1, 2, 3, 0)) false).red.holder = some (1, 2, 3, 0) ∧ (forwarding (some (1, 2, 3, 0)) false).tile = true ∧ (runs 0 0).tile = false ∧
    (runs 1 1).evt.forward = [] := by
  unfold State.canonical; decide

set_option maxRecDepth 16384 in
theorem test_witness_housekeeping : (runs 0 0).canonical ∧ (runs 0 0).live = true ∧ State.reset.live = false ∧ flagged ((runs 0 0).role == 1) (runs 0 0).hkpSlot = some 0 ∧
    (runs 0 0).hkpSlot % 4 = 0 ∧ flagged ((runsWith 0 0 [(Reg.HKP_ROUND, 11)]).role == 1) (runsWith 0 0 [(Reg.HKP_ROUND, 11)]).hkpSlot = none ∧
    (runs 0 0).hkp.shut = none ∧ ((runs 1 1).modHkp (fun h => { h with shut := some 0x10 })).hkp.shut = some 0x10 ∧
    ((runs 1 1).modHkp (fun h => { h with shut := some 0x10 })).live = true ∧ (runs 0 0).role ≠ 1 ∧
    ((runs 0 0).bit Reg.AON_RET0 31 && !(runs 0 0).bit Reg.AON_RET0 30) = false ∧
    ((runsWith 0 0 [(Reg.AON_RET0, 2 ^ 31)]).bit Reg.AON_RET0 31 && !(runsWith 0 0 [(Reg.AON_RET0, 2 ^ 31)]).bit Reg.AON_RET0 30) = true := by
  unfold State.canonical; decide

/-- A sender whose PCIe link is up, with memory access as said and vector 3 pending and unmasked. -/
def hosted (mse : Bool) : State :=
  ((dramming 2).modPci (fun p => { p with link := true, mse := mse, bme := true, msixEn := true })).wrN (Reg.PCI_MSIX_PBA 0) 8
/-- The same with the first 4 MiB of the Granary open to the host. -/
def granaried : State := ((hosted true).wrN Reg.PCI_GRN_HOST_BASE 0).wrN Reg.PCI_GRN_HOST_SIZE 0x1000
set_option maxRecDepth 16384 in
theorem test_witness_pcie : (hosted true).canonical ∧ ((runs 0 0).hasPci && !(runs 0 0).pci.link) = true ∧ ((hosted true).hasPci && !(hosted true).pci.link) = false ∧
    ((hosted true).hasPci && (hosted true).pci.link) = true ∧ ((runs 0 0).hasPci && (runs 0 0).pci.link) = false ∧
    ((hosted true).hasPci && ((hosted true).pci.link || (1 : Fin 4) == 0)) = true ∧ ((runs 0 0).hasPci && ((runs 0 0).pci.link || (0 : Fin 4) == 0)) = true ∧
    ((runs 0 0).hasPci && ((runs 0 0).pci.link || (1 : Fin 4) == 0)) = false ∧ (hosted true).pci.link = true ∧ ((hosted true).pci.link && (1 : Fin 4) == 1) = true ∧
    ((hosted true).hasPci && (hosted true).bit (Reg.PCI_MSIX_PBA ((3 : Fin 512).val / 32)) ((3 : Fin 512).val % 32)) = true ∧
    ((hosted true).hasPci && (hosted true).bit (Reg.PCI_MSIX_PBA ((4 : Fin 512).val / 32)) ((4 : Fin 512).val % 32)) = false ∧
    ((hosted true).wrN (Reg.PCI_MSIX_VCTL 3) 0).msixOpen 3 = true ∧ ((hosted true).wrN (Reg.PCI_MSIX_VCTL 3) 1).msixOpen 3 = false := by
  unfold hosted dramming State.canonical; decide
set_option maxRecDepth 16384 in
theorem test_witness_bars : ((hosted false).hasPci && decide (0 + 4 ≤ granarySize)) = true ∧ (hosted false).pci.mse = false ∧ (hosted true).pci.mse = true ∧
    (granaried.hostRange 0x200000 (0x200000 + 4) && granaried.granaryFree 0x200000 (0x200000 + 4)) = true ∧ granaried.pci.mse = true ∧
    (granaried.hostRange 0 (0 + 4) && granaried.granaryFree 0 (0 + 4)) = false ∧ ((hosted true).hasPci && decide (0 + 4 ≤ (hosted true).dramCap)) = true ∧
    (hosted true).dmcState = 2 ∧ ((hosted true).wrN Reg.DMC_STATUS 0).dmcState ≠ 2 ∧ ((hosted true).wrN Reg.DMC_STATUS 0).pci.mse = true ∧ (hosted true).dmcOn = true ∧
    ((runs 1 1).hasPci && decide (0 + 4 ≤ granarySize)) = false ∧ ((runs 1 1).hasPci && decide (0 + 4 ≤ (runs 1 1).dramCap)) = false := by
  unfold granaried hosted dramming; decide

/-- A device strapped `r` with boot source `b`, held at the boot ROM. -/
def strapped (r b : Nat) : State := (runs 2 r).wrN Reg.GLB_IDENT (0x77101100 + r * 2 ^ 4 + b * 2 ^ 2)
/-- A running sender whose image has started, in a trial where `trial` says so. -/
def booted (trial : Bool) : State :=
  ((runs 0 0).modBoot (fun b => { b with rom := true, running := true, trialEnd := if trial then some 100 else none })).wrN Reg.BOOT_STATUS (if trial then 2 ^ 28 else 0)
/-- A configuration set of `n` records. -/
def aSet (n : Nat) (recs : List Byte) : List Byte :=
  let h := leBytes 4 0x43584C50 ++ leBytes 2 1 ++ leBytes 2 0x7710 ++ [1, 0, 0, 0] ++ leBytes 4 7 ++ leBytes 4 (64 + recs.length) ++ leBytes 4 n
  h ++ leBytes 4 (crc32c (h ++ zeros 40 ++ recs)) ++ zeros 36 ++ recs
/-- The same device with a flash of 64 MiB that holds a set. -/
def withSet (set : List Byte) : State := ((booted false).wrN Reg.BOOT_FLASH (2 ^ 31 + 64)).wrFlash 0x3000000 set
set_option maxRecDepth 16384 in
theorem test_witness_boot_rom : (strapped 0 0).canonical ∧ ((strapped 0 0).live && !(strapped 0 0).boot.rom) = true ∧ ((booted false).live && !(booted false).boot.rom) = false ∧
    (strapped 2 0).role = 2 ∧ (strapped 0 1).role < 2 ∧ (strapped 0 1).bootSrc = 1 ∧ (strapped 0 0).bootSrc = 0 ∧ (strapped 3 0).role = 3 ∧ 2 ≤ (strapped 1 2).bootSrc ∧
    (((strapped 0 0).wrN Reg.AON_RET0 (2 ^ 31)).bit Reg.AON_RET0 31 && !((strapped 0 0).wrN Reg.AON_RET0 (2 ^ 31)).bit Reg.AON_RET0 30) = true ∧
    (strapped 0 0).bit Reg.AON_SEC_HI 31 = false ∧
    (((strapped 0 0).modBoot (fun b => { b with choosing := true })).live && ((strapped 0 0).modBoot (fun b => { b with choosing := true })).boot.choosing) = true ∧
    ((strapped 0 0).live && (strapped 0 0).boot.choosing) = false ∧ (strapped 0 0).boot.running = false := by
  unfold strapped booted State.canonical; decide
set_option maxRecDepth 16384 in
theorem test_witness_trial : (booted true).canonical ∧ (booted true).live = true ∧ (booted true).shutting = false ∧ (booted true).boot.trialEnd = some 100 ∧ (booted true).tmb.tclk ≤ 100 ∧
    (booted false).boot.trialEnd = none ∧ ((booted true).live && (booted true).inTrial && !(booted true).pausedNow) = true ∧
    ((booted false).live && (booted false).inTrial && !(booted false).pausedNow) = false ∧ ((booted true).wrN Reg.HKP_STATE (2 ^ 29)).shutting = true ∧
    ((booted true).live && (booted true).boot.running) = true ∧ ((strapped 0 0).live && (strapped 0 0).boot.running) = false ∧
    (((booted true).wrN (Reg.TMB_TB_SERVO_CTL 0) 0x11).wrN (Reg.TMB_TB_SERVO_STATUS 0) (Servo.locked * 2 ^ 29)).servoSource 0 = 1 ∧
    (((booted true).wrN (Reg.TMB_TB_SERVO_CTL 0) 0x11).wrN (Reg.TMB_TB_SERVO_STATUS 0) (Servo.locked * 2 ^ 29)).servo 0 = Servo.locked := by
  unfold booted strapped State.canonical; decide
set_option maxRecDepth 16384 in
theorem test_witness_sets : (withSet []).canonical ∧ ((withSet []).live && (withSet []).boot.running && !(withSet []).boot.loadBegun) = true ∧
    ((strapped 0 0).live && (strapped 0 0).boot.running && !(strapped 0 0).boot.loadBegun) = false ∧ (withSet []).setsToTry = [(false, 0), (false, 1)] ∧
    (∀ x ∈ (withSet []).setsToTry, (withSet []).checkSet (fun a k => (withSet []).setBytes x.1 x.2 a k) (x.1 || !([] : List Nat).contains x.2) ≠ 0) := by
  unfold withSet booted strapped State.canonical; decide
/-- A WAIT record for bit 0 of GLB_UID0, and one of no type. -/
def waitRec : List Byte := leBytes 4 0x00100003 ++ leBytes 4 (Reg.GLB_UID 0) ++ leBytes 4 1 ++ leBytes 4 1 ++ leBytes 4 0
/-- The sets: of no record, of a WAIT, and of a record of no type. -/
def emptySet : State := withSet (aSet 0 [])
def waitSet : State := withSet (aSet 1 waitRec)
def badSet : State := withSet (aSet 1 (leBytes 4 9))
set_option maxRecDepth 16384 in
theorem test_witness_set_checks : emptySet.checkSet (fun a k => emptySet.setBytes false 0 a k) true = 0 ∧ waitSet.checkSet (fun a k => waitSet.setBytes false 0 a k) true = 0 ∧
    badSet.checkSet (fun a k => badSet.setBytes false 0 a k) true = 0 := by
  unfold emptySet waitSet badSet withSet booted; decide
set_option maxRecDepth 16384 in
theorem test_witness_records : emptySet.canonical ∧ emptySet.setsToTry = [(false, 0), (false, 1)] ∧ waitSet.setsToTry = [(false, 0), (false, 1)] ∧
    recordsOf (min (leAt (emptySet.setBytes false 0 0 64) 20 4) (leAt (emptySet.setBytes false 0 0 64) 16 4 / 4)) (emptySet.setBytes false 0 64 (leAt (emptySet.setBytes false 0 0 64) 16 4 - 64)) = [] ∧
    recordsOf (min (leAt (waitSet.setBytes false 0 0 64) 20 4) (leAt (waitSet.setBytes false 0 0 64) 16 4 / 4)) (waitSet.setBytes false 0 64 (leAt (waitSet.setBytes false 0 0 64) 16 4 - 64)) = [waitRec] ∧
    recordsOf (min (leAt (badSet.setBytes false 0 0 64) 20 4) (leAt (badSet.setBytes false 0 0 64) 16 4 / 4)) (badSet.setBytes false 0 64 (leAt (badSet.setBytes false 0 0 64) 16 4 - 64)) = [leBytes 4 9] ∧
    badSet.recordFails (leBytes 4 9) = true ∧ waitSet.recordFails waitRec = false ∧ recType waitRec = 3 ∧ (waitSet.waitMet waitRec).2 = false ∧
    (((waitSet.modBoot (fun b => { b with loadBegun := true })).modGlb (fun g => { g with bothSets := true })).waitMet waitRec).2 = false := by
  unfold emptySet waitSet badSet withSet booted State.canonical; decide
/-- A device whose load waits at a WAIT for a register that holds `v`. -/
def waiting (v : Nat) : State := ((booted false).modBoot (fun b => { b with load := some { chain := false, set := 0, version := 7, next := 0, recs := [waitRec], since := 0 } })).wrN (Reg.GLB_UID 0) v
set_option maxRecDepth 16384 in
theorem test_witness_wait : (waiting 0).live = true ∧ (waiting 0).boot.load = some { chain := false, set := 0, version := 7, next := 0, recs := [waitRec], since := 0 } ∧
    ((waiting 0).waitMet waitRec).2 = false ∧ ((waiting 1).waitMet waitRec).2 = true ∧ (booted false).boot.load = none ∧ (waiting 0).canonical := by
  unfold waiting booted State.canonical; decide

/-- A running sender with a flash and the journal entry that gives slot `n` state `st`. -/
def slotted (n st : Nat) : State := (withSet []).journalSlot n st 0
/-- An update command for region 3. -/
def anUpdate (op offset length : Nat) : Update := { op := op, region := 3, arg := 0, offset := offset, length := length, id := 5, sender := none }
set_option maxRecDepth 16384 in
theorem test_witness_posts : State.reset.live = false ∧ (withSet []).takesUpdate ∧ (withSet []).canonical ∧ ((withSet []).wrN Reg.BOOT_STATUS (2 ^ 27)).pausedNow = true ∧
    ((withSet []).wrN Reg.BOOT_STATUS (2 ^ 27)).live = true ∧ ((withSet []).modBoot (fun b => { b with held := some (anUpdate 1 0 0) })).boot.held.isSome = true ∧
    ((withSet []).modBoot (fun b => { b with held := some (anUpdate 1 0 0) })).pausedNow = false ∧ (anUpdate 1 0 0).op ≠ 9 ∧
    (withSet []).inRegion (anUpdate 1 0 1) 0x10000 = false ∧ (withSet []).inRegion (anUpdate 1 0 0x10000) 0x10000 = true ∧ (withSet []).protectedRegion 3 = false ∧
    (withSet []).protectedRegion 2 = true ∧ (withSet []).inRegion (anUpdate 2 0 0x8100) 256 = true ∧ (withSet []).inRegion (anUpdate 2 0 0x8000) 256 = true ∧
    (withSet []).inRegion (anUpdate 2 0 0x80) 256 = false ∧ (withSet []).regionSize 3 ≠ 0 ∧ (withSet []).regionSize 6 = 0 := by
  unfold withSet booted anUpdate State.takesUpdate State.canonical; decide
set_option maxRecDepth 16384 in
theorem test_witness_slots : (slotted 0 SlotState.verified).takesUpdate ∧ ((slotted 0 SlotState.verified).slotState 0).1 = SlotState.verified ∧ (slotted 0 SlotState.verified).role = 0 ∧
    (slotted 0 SlotState.verified).inTrial = false ∧ ((withSet []).slotState 0).1 ≠ SlotState.verified ∧ (booted true).takesUpdate ∧ (booted true).inTrial = true ∧
    [0, 1].find? (fun n => ((slotted 1 SlotState.standby).slotState n).1 == SlotState.standby) = some 1 ∧
    [0, 1].find? (fun n => ((withSet []).slotState n).1 == SlotState.standby) = none := by
  unfold slotted withSet booted State.takesUpdate; decide
set_option maxRecDepth 16384 in
theorem test_witness_revoke_chain : (((withSet []).journalSet 0 SlotState.verified 0).setState 0).1 = SlotState.verified ∧ ((withSet []).setState 0).1 ≠ SlotState.verified ∧
    (((booted false).wrN Reg.BOOT_FUSE 0x300).bit Reg.BOOT_FUSE (12 + (1 - 0)) || !((booted false).wrN Reg.BOOT_FUSE 0x300).bit Reg.BOOT_FUSE (8 + (1 - 0)) ||
      ((booted false).wrN Reg.BOOT_FUSE 0x300).boot.keys.contains 0) = false ∧ (!(booted false).bit Reg.BOOT_FUSE (8 + (1 - 0))) = true ∧
    ((strapped 1 1).mode == 2 && (strapped 1 1).role == 1 && (strapped 1 1).bootSrc == 1 && !(strapped 1 1).boot.running) = true ∧ (strapped 1 1).takesUpdate ∧
    ((booted false).mode == 2) = false := by
  unfold withSet booted strapped State.takesUpdate; decide

set_option maxRecDepth 8192 in
theorem test_witness_seconds : (runs 0 0).canonical ∧ (runs 0 0).live = true ∧ (runsWith 0 0 [(Reg.AON_SEC_CTL, 1)]).bit Reg.AON_SEC_CTL 0 = true := by
  unfold State.canonical; decide

/-- A running sender whose management port is enabled and has its link, at UDP port 5000, and those of its registers that `l` gives. -/
def managing (l : List (Nat × Nat)) : State :=
  l.foldl (fun s x => s.wrN x.1 x.2) (oneTile.modMge (fun g => g) |>.wrN Reg.MGE_CTL 1 |>.wrN Reg.MGE_STATUS (2 ^ 31) |>.wrN Reg.MGE_PORT 5000)
/-- The bytes of a request, and the body of a reach request or a memory operation of `n` words. -/
def aDatagram (flags dev : Nat) (body : List Byte) : List Byte :=
  beBytes 2 0x4357 ++ leBytes 2 7 ++ leBytes 1 1 ++ leBytes 1 flags ++ leBytes 2 dev ++ leBytes 4 9 ++ body
def aBody (op n : Nat) : List Byte := leBytes 4 (op * 2 ^ 28 + n) ++ leBytes 4 granaryBase ++ leBytes 4 0 ++ leBytes 4 0x12345678
/-- A kept response to address 1, port 2. -/
def aKept : MgeReply := { ip := 1, port := 2, seq := 7, body := [1] }
set_option maxRecDepth 8192 in
theorem test_witness_mge_datagrams : (managing []).canonical ∧ isMemOp (dgBody (aDatagram 0 0 (aBody 1 1))) = false ∧ dgRemote (aDatagram 1 5 []) = true ∧
    (managing []).mgeTakes 5000 = true ∧ (managing []).mgeTakes 5001 = false ∧ datagramBad [] = true ∧ datagramBad (aDatagram 0 0 (aBody 1 1)) = false ∧
    (managing []).notAllowed 1 = false ∧ (managing [(Reg.MGE_ALLOW 0, 3)]).notAllowed 1 = true ∧ (managing [(Reg.MGE_ALLOW 0, 3)]).mge.denied = false ∧
    ((managing []).modMge (fun g => { g with kept := [aKept] })).mge.kept.find? (fun r => r.ip == 1 && r.port == 2 && r.seq == dgSeq (aDatagram 0 0 (aBody 1 1))) = some aKept ∧
    (managing []).mge.kept.find? (fun r => r.ip == 1 && r.port == 2 && r.seq == dgSeq (aDatagram 0 0 (aBody 1 1))) = none := by
  unfold State.canonical; decide
set_option maxRecDepth 8192 in
theorem test_witness_mge_operations : dgRemote (aDatagram 0 0 []) = false ∧ dgRemote (aDatagram 1 5 []) = true ∧ reachOp (dgBody (aDatagram 0 0 (aBody 1 1))) = 1 ∧
    reachOp (dgBody (aDatagram 0 0 (aBody 8 1))) = 8 ∧ reachOp (dgBody (aDatagram 0 0 (aBody 9 1))) = 9 ∧ memOpMalformed (aBody 8 0) = true ∧
    memOpMalformed (aBody 8 1) = false ∧ memOpMalformed (aBody 9 1) = false ∧ datagramBad (aDatagram 0 0 (aBody 8 1)) = false ∧ datagramBad (aDatagram 0 0 (aBody 9 1)) = false ∧
    memOpAddr (aBody 9 1) = granaryBase ∧ (managing []).memOk granaryBase = true ∧ (managing []).memOk (granaryBase + 4 * 1 - 1) = true ∧ isMemOp (aBody 9 1) = true ∧
    isMemOp (aBody 1 1) = false ∧ (managing []).mode = 0 ∧ (managing []).routeTo (dgDevice (aDatagram 1 6 [])) = none ∧
    (managing []).routeTo (dgDevice (aDatagram 1 5 [])) = some 1 := by decide
/-- A remote request that waits for the answer of device 5. -/
def aRemote : MgeRemote := ⟨1, 2, 7, 9, 5, aBody 1 1⟩
set_option maxRecDepth 8192 in
theorem test_witness_mge_link : ((managing []).hasMge && false != (managing []).bit Reg.MGE_STATUS 31) = true ∧ ((managing []).hasMge && true != (managing []).bit Reg.MGE_STATUS 31) = false ∧
    ((managing [(Reg.MGE_STATUS, 0)]).hasMge && true != (managing [(Reg.MGE_STATUS, 0)]).bit Reg.MGE_STATUS 31) = true ∧
    ((managing [(Reg.MGE_IPV4, 3)]).mgeUp && 3 == ((managing [(Reg.MGE_IPV4, 3)]).rd Reg.MGE_IPV4).toNat) = true ∧
    ((managing [(Reg.MGE_IPV4, 3)]).mgeUp && 4 == ((managing [(Reg.MGE_IPV4, 3)]).rd Reg.MGE_IPV4).toNat) = false ∧
    ({ oneOutstanding with via := some .mge } : Outstanding).via = some .mge ∧
    ((managing []).modMge (fun g => { g with waiting := [aRemote] })).mge.waiting.find? (fun w => w.dst == oneOutstanding.dst && w.cmdId == oneOutstanding.cmdId) = some aRemote := by
  decide

/-- A device of running mode `m` and role `r` whose boot ROM has started, in a session of its monitor, and the registers that `l` gives. -/
def gelle (m r : Nat) (l : List (Nat × Nat)) : State :=
  l.foldl (fun s x => s.wrN x.1 x.2) ((runs m r).modBoot (fun b => { b with rom := true }) |>.wrN Reg.DBG_MON_STATUS (2 ^ 31))
/-- A load of four bytes, to the chain buffer where `chain` says so. -/
def aLoad (chain : Bool) (crc : Nat) : MonLoad := { chain := chain, off := 5, len := 4, crc := crc }
/-- The same device while it receives a load. -/
def gelleLoad (chain : Bool) (crc : Nat) : State := (gelle 1 1 []).modMon (fun m => { m with load := some (aLoad chain crc) })
set_option maxRecDepth 8192 in
theorem test_witness_monitor_lines : (gelle 0 0 []).canonical ∧ (gelle 0 0 []).monTakes = true ∧ (runs 0 0).monTakes = false ∧
    (gelle 0 0 []).bit Reg.DBG_MON_STATUS 31 = true ∧ (gelle 0 0 [(Reg.DBG_MON_STATUS, 0)]).bit Reg.DBG_MON_STATUS 31 = false ∧
    (gelle 0 0 [(Reg.DBG_MON_STATUS, 0)]).monTakes = true ∧ (gelle 0 0 []).pausedNow = false ∧ (gelle 0 0 [(Reg.BOOT_STATUS, 2 ^ 27)]).pausedNow = true ∧
    ((gelle 0 0 []).modMon (fun m => { m with waiting := [.id] })).mon.waiting = [.id] := by
  unfold State.canonical; decide
set_option maxRecDepth 8192 in
theorem test_witness_monitor_commands : (gelle 0 0 []).bit Reg.DBG_MON_CTL 0 = false ∧ (gelle 0 0 [(Reg.DBG_MON_CTL, 1)]).bit Reg.DBG_MON_CTL 0 = true ∧
    ([1] : List Word).length ≤ 16 ∧ (gelle 0 0 []).memOk granaryBase = true ∧ (gelle 0 0 []).memOk (granaryBase + 4 * 1 - 1) = true ∧ (gelle 0 0 []).mode = 0 ∧
    (gelle 0 0 []).routeTo 5 = none ∧ (managing []).routeTo 5 = some 1 ∧ (managing []).mode = 0 ∧ (managing []).bit Reg.DBG_MON_CTL 0 = false ∧
    (gelle 0 0 []).loadOk false 5 4 = true ∧ (gelle 0 0 []).loadOk true 5 4 = false ∧ (gelle 1 1 []).loadOk true 5 4 = true ∧
    (gelle 0 0 []).boot.running = false ∧ (gelle 0 0 []).role ≠ 2 ∧ (gelle 2 2 []).role = 2 ∧ (gelle 1 1 []).role = 1 ∧ (gelle 0 0 []).role ≠ 1 ∧
    (gelle 0 0 []).checkSlot 0 true ≠ 0 ∧ (gelle 1 1 []).checkChain ≠ 0 ∧ (booted false).boot.running = true := by
  unfold booted; decide
set_option maxRecDepth 8192 in
theorem test_witness_monitor_loads : (gelleLoad false 0).canonical ∧ (gelleLoad false 0).live = true ∧ (gelleLoad false 0).mon.load = some (aLoad false 0) ∧
    (aLoad false 0).len = ([1, 2, 3, 4] : List Byte).length ∧ crc32c [1, 2, 3, 4] ≠ (aLoad false 0).crc ∧
    crc32c [1, 2, 3, 4] = (aLoad false (crc32c [1, 2, 3, 4])).crc ∧ (aLoad false 0).chain = false ∧ (aLoad true 0).chain = true ∧ (gelleLoad true 0).role = 1 ∧
    (aLoad true 0).off + (aLoad true 0).len ≤ 24 * 0x100000 ∧ ((gelleLoad false 0).live && (gelleLoad false 0).mon.load.isSome) = true ∧
    ((gelle 0 0 []).live && (gelle 0 0 []).mon.load.isSome) = false ∧ State.reset.live = false := by
  unfold State.canonical; decide

set_option maxRecDepth 8192 in
theorem test_witness_test_port : (runs 0 0).canonical ∧ (runs 0 0).live = true ∧ State.reset.live = false ∧
    ((0x00 : BitVec 8).toNat = 0 ∨ 7 < (0x00 : BitVec 8).toNat) ∧ 7 < (0x08 : BitVec 8).toNat ∧ (1 ≤ (0x07 : BitVec 8).toNat ∧ (0x07 : BitVec 8).toNat ≤ 7) ∧
    ((runs 0 3).role = 3 ∧ 0x80 ≤ (0x80 : BitVec 8).toNat ∧ (0xFE : BitVec 8).toNat ≤ 0xFE ∧ ¬ (0xFF : BitVec 8).toNat ≤ 0xFE) := by
  unfold State.canonical; decide

/-! ### Waits (R104, log entry 4): a tick that comes first, and none -/

/-- The same device with its next tick one nanosecond ahead. -/
def soon (s : State) : State := (s.setBit Reg.GLB_STATE 23 true).modTmb (fun g => { g with nextTick := 9 })
set_option maxRecDepth 8192 in
theorem test_witness_wait_time : ¬ (soon (runsWith 0 0 [(Reg.TMB_TB_SERVO_CTL 5, 1)])).clear ((soon (runsWith 0 0 [(Reg.TMB_TB_SERVO_CTL 5, 1)])).holdoverLeft 5) ∧
    (runsWith 0 0 [(Reg.TMB_TB_SERVO_CTL 5, 1)]).clear ((runsWith 0 0 [(Reg.TMB_TB_SERVO_CTL 5, 1)]).holdoverLeft 5) ∧ (runs 0 0).clear ((runs 0 0).cyclesToWrap 3) := by
  unfold State.clear; decide
set_option maxRecDepth 8192 in
theorem test_witness_wait_lease : ringing.leaseMissing 1 = false ∧ (ringing.modRed 1 (fun r => { r with lease := none })).leaseMissing 1 = true ∧
    (ringing.modRed 1 (fun r => { r with lease := none })).red.port[(1 : Port)].decided = true ∧
    (ringing.modRed 1 (fun r => { r with lease := none })).clear (ringing.modRed 1 (fun r => { r with lease := none })).missLeft ∧ ¬ (soon (ringing.wrN Reg.RED_LEASE_CTL 0xFFFF)).clear (soon (ringing.wrN Reg.RED_LEASE_CTL 0xFFFF)).missLeft ∧
    ringing.leaseValid (leaseOf leaseMsg) ringing.tmb.tclk = true ∧ ringing.clear (ringing.leaseLeft (leaseOf leaseMsg) 0) ∧
    (soon heldTile).leaseValid (leaseOf (shunMsg 0x11)) 0 = true ∧ ¬ (soon heldTile).clear ((soon heldTile).leaseLeft (leaseOf (shunMsg 0x11)) 0) ∧
    ((heldTile.modTmb (fun g => { g with tclk := 8000000 })).leaseValid (leaseOf (shunMsg 0x11)) 0) = false ∧ heldTile.epochOk (shunMsg 0x11) = true ∧
    (heldTile.tile && heldTile.hearsBroadcast (shunMsg 0x11)) = true ∧ ((heldTile.wrN Reg.GLB_DEVIDX 0x80010000).epochOk (shunMsg 0x11)) = false := by
  unfold State.clear; decide
set_option maxRecDepth 8192 in
theorem test_witness_wait_inputs : capturing.clear (capturing.lossLeft 2) ∧ ¬ (soon capturing).clear ((soon capturing).lossLeft 2) ∧ capturing.slotsOf 1 = [2] ∧
    capturing.slotsOf 0 = [] ∧ (capturing.captures 3 && (capturing.srcState 3 == Src.running || capturing.src[(3 : Fin 16)].heldOver)) = false ∧
    pulling.captures 3 = false ∧ (pulling.modSource 3 (fun x => { x with pull := some 5 })).src[(3 : Fin 16)].pull = some 5 := by
  unfold State.clear; decide
set_option maxRecDepth 8192 in
theorem test_witness_wait_tile : sensing.samples 0 = true ∧ sensing.clear (sensing.sampleLeft 0) ∧ (runs 1 1).samples 0 = false ∧
    ¬ ((soon sensing).modCal (fun c => { c with nextQ := 0 })).clear ((soon sensing).sampleLeft 1000) ∧
    (furrowing.modFur (fun f => { f with syncOut := [1], syncMissed := [1] })).syncLost 1 = true ∧ furrowing.syncLost 1 = false ∧
    furrowing.clear furrowing.syncLeft ∧ ¬ (soon furrowing).clear (soon furrowing).syncLeft := by
  unfold State.clear; decide
set_option maxRecDepth 16384 in
theorem test_witness_wait_dram : changing.clear changing.freqLeft ∧ ¬ (soon changing).clear (soon changing).freqLeft ∧ (requested true 1).mayIssue 0 = true ∧
    ((requested true 2).dgrp 0).queue.find? (fun r => r.level == 2) = some (aReq true 2) ∧ ((requested true 1).dgrp 0).queue.find? (fun r => r.level == 2) = none ∧
    (requested true 2).clear ((requested true 2).ageLeft (aReq true 2)) ∧ ¬ (soon (requested true 2)).clear ((soon (requested true 2)).ageLeft (aReq true 2)) ∧
    (dramming 2).clear ((dramming 2).quietLeft 0) ∧ ¬ (soon (dramming 2)).clear ((soon (dramming 2)).quietLeft 0) ∧
    (requested true 1).clear ((requested true 1).calmLeft 0) ∧ ¬ (soon (requested true 1)).clear ((soon (requested true 1)).calmLeft 0) := by
  unfold State.clear changing requested dramming; decide
set_option maxRecDepth 16384 in
theorem test_witness_wait_gleaner : granuled.clear (granuled.paceLeft 0) ∧ ¬ (soon granuled).clear ((soon granuled).paceLeft 0) ∧ (soon granuled).mec.scrub[(0 : Fin 2)] ≠ [] ∧
    granuled.clear granuled.lapLeft ∧ ¬ (soon (granuled.wrN Reg.MEC_GLEAN_CTL (2 ^ 16))).clear (soon (granuled.wrN Reg.MEC_GLEAN_CTL (2 ^ 16))).lapLeft := by
  unfold State.clear granuled dramming; decide
set_option maxRecDepth 16384 in
theorem test_witness_wait_ledger : (draining 8 3).clear (draining 8 3).flushLeft ∧ ¬ (soon (draining 8 3)).clear (soon (draining 8 3)).flushLeft ∧
    ((draining 6 3).drains && (decide ((draining 6 3).drainRoom ≤ (draining 6 3).undrained) || !(draining 6 3).evt.msixWait.isEmpty)) = true ∧
    ((draining 8 2).drains && (decide ((draining 8 2).drainRoom ≤ (draining 8 2).undrained) || !(draining 8 2).evt.msixWait.isEmpty)) = false ∧
    (messaging true [] [3] [3]).clear ((messaging true [] [3] [3]).holdLeft 3) ∧
    ¬ ((soon (messaging true [] [3] [3])).modEvt (fun e => { e with holdEnds := [(3, 8000)] })).clear
      (((soon (messaging true [] [3] [3])).modEvt (fun e => { e with holdEnds := [(3, 8000)] })).holdLeft 3) ∧
    (forwarding none false).clear ((forwarding none false).forwardLeft 0) ∧ ¬ (soon (forwarding none false)).clear ((soon (forwarding none false)).forwardLeft 0) := by
  unfold State.clear draining staging dramming; decide
set_option maxRecDepth 16384 in
theorem test_witness_wait_firmware : (booted true).clear (booted true).deadlineLeft ∧ ¬ (soon (booted true)).clear (soon (booted true)).deadlineLeft ∧
    (gelleLoad false 0).clear ((gelleLoad false 0).silenceLeft 1) ∧ ¬ (soon (gelleLoad false 0)).clear ((soon (gelleLoad false 0)).silenceLeft 1) ∧
    (gelle 0 0 []).clear ((gelle 0 0 []).silenceLeft 10) ∧ ¬ (soon (gelle 0 0 [])).clear ((soon (gelle 0 0 [])).silenceLeft 10) := by
  unfold State.clear booted; decide
set_option maxRecDepth 16384 in
theorem test_witness_wait_config : ((waiting 0).waitMet waitRec).1.clear
      (((waiting 0).waitMet waitRec).1.waitLeft { chain := false, set := 0, version := 7, next := 0, recs := [waitRec], since := 0 } waitRec) := by
  unfold State.clear waiting booted; decide

/-! ### The link -/

/-- A port of `activeTile` with an unacknowledged VC2 sheaf, to be resent where `due` says so, of deadline `d`. -/
def unacked (due : Bool) (d : Nat) : State :=
  activeTile.modSlk 1 (fun x => { x with store2 := [{ sheaf := { oneSheaf 3 [1, 2] with vc := 2 }, deadline := d, misses := 0, due := due }] })
set_option maxRecDepth 8192 in
theorem test_witness_resend : (unacked true 0).canonical ∧ (unacked true 0).active 1 = true ∧ (unacked true 0).slk[(1 : Port)].censusDue = false ∧
    ((unacked true 0).dueNow 1 2).isSome = true ∧ (unacked false 0).dueNow 1 2 = none ∧ (unacked false 0).dueNow 1 3 = none ∧
    ((unacked false 0).slk[(1 : Port)].store 2).length = 1 ∧ (unacked false 0).clear ((unacked false 0).cyclesPast 0) ∧
    ¬ (soon (unacked false 0xFFFFFF)).clear ((soon (unacked false 0xFFFFFF)).cyclesPast 0xFFFFFF) ∧
    (oneSheaf 3 [1, 2]).bushels ≤ (unacked false 0).creditLeft 1 2 := by
  unfold State.clear State.canonical; decide
/-- Training sets of the four lanes: TS1 (`two` = false) or TS2. -/
def someSets (two : Bool) : Vector (List Byte) 4 :=
  if two then #v[ts2Block 0 1 1 7, ts2Block 1 1 1 7, ts2Block 2 1 1 7, ts2Block 3 1 1 7] else #v[ts1Block 0 0 0, ts1Block 1 0 0, ts1Block 2 0 0, ts1Block 3 0 0]
/-- A tile whose port 1 trains, in state `k`, with its four lanes locked. -/
def training (k : Nat) : State := runsWith 1 1 [(Reg.SLK_STATUS 1, k * 2 ^ 29 + 15)]
set_option maxRecDepth 16384 in
theorem test_witness_train_sets : (someSets true).toList.all blockOk = true ∧ (someSets false).toList.all blockOk = true ∧
    (training Train.detect).setsServe 1 (someSets false) = true ∧ (training Train.eq).setsServe 1 (someSets false) = true ∧
    (training Train.deskew).setsServe 1 (someSets true) = true ∧ (training Train.config).setsServe 1 (someSets true) = true ∧
    bits (peerVersionOf (someSets true)) 7 4 = bits linkVersion 7 4 ∧ ((someSets true).set 0 []).toList.all blockOk = false ∧
    bits (peerVersionOf ((someSets true).set 0 (sealed (zeros 8 ++ [0, 0x20, 0, 0xE2])))) 7 4 ≠ bits linkVersion 7 4 := by decide
set_option maxRecDepth 16384 in
theorem test_witness_train_versions : ((someSets true).set 0 (sealed (zeros 8 ++ [0, 0x20, 0, 0xE2]))).toList.all blockOk = true ∧
    (training Train.config).setsServe 1 ((someSets true).set 0 (sealed (zeros 8 ++ [0, 0x20, 0, 0xE2]))) = true ∧
    (training Train.eq).bit (Reg.SLK_TX_EQ 1) 31 = false ∧ (training Train.eq).train 1 = Train.eq := by decide
/-- A SYNC block of the chain, and a tile whose TB1 follows it, in servo state `st`. -/
def aSync (frames : Bool) : SyncBlock :=
  { seq := 0, tb0 := 0, tb1 := 0, nextFrame := 8, nextTickNs := 5, nextTickRem := 0, rate := 9, hops := 3, leaderState := 0, frameValid := frames }
def following (st : Nat) : State :=
  (activeTile.wrN (Reg.TMB_TB_SERVO_CTL 1) 0x21).wrN (Reg.TMB_TB_SERVO_STATUS 1) (st * 2 ^ 29) |>.setBit (Reg.TMB_HOP_STATUS 1) 31 true
    |>.modTmb (fun g => { g with upstream := some 1 })
set_option maxRecDepth 8192 in
theorem test_witness_sync_frames : (following Servo.locked).canonical ∧ (following Servo.locked).upstreamPort = some 1 ∧ (following Servo.locked).active 1 = true ∧
    (following Servo.locked).servoSource 1 = 2 ∧ (following Servo.locked).servo 1 = Servo.locked ∧
    ((following Servo.locked).frameValid || (following Servo.locked).tmb.armed) = false ∧ (following Servo.locked).bit (Reg.TMB_HOP_STATUS 1) 31 = true ∧
    (following Servo.locked).fld (Reg.TMB_TB_SERVO_CTL 1) 1 0 = 1 ∧ (following Servo.locked).tmb.tb[(1 : TbIx)].changedAt ≤ (following Servo.locked).tmb.tclk ∧
    (soon (following Servo.locked)).framesAgree (aSync true) = false ∧ ((soon (following Servo.locked)).frameValid || (soon (following Servo.locked)).tmb.armed) = true ∧
    ((soon (following Servo.locked)).wrN Reg.GLB_FRAME 7).framesAgree { aSync true with nextTickNs := 1, rate := (soon (following Servo.locked)).rateNow } = true := by
  unfold State.canonical; decide

/-! ### The remaining clauses -/

set_option maxRecDepth 8192 in
theorem test_witness_paths : (runs 0 0).carries .mge = true ∧ (runs 1 1).carries .mge = false ∧ (runs 1 1).carries (.reach 5) = true ∧ (runs 3 3).carries (.reach 5) = false ∧
    (hosted true).carries .pcie = true ∧ (hosted false).carries .pcie = false ∧ (hosted true).canonical ∧
    (viewOf (Reg.GLB_COMMIT_COUNTS / 4 * 4)).1 = Reg.GLB_COMMIT_COUNTS ∧ readClears Reg.GLB_COMMIT_COUNTS = true ∧ (runs 1 1).readable Reg.GLB_COMMIT_COUNTS = true ∧
    rcFields Reg.FUR_FETCH_ERR = [(31, 0, false)] ∧ rcKeep Reg.FUR_FETCH_ERR = 0 ∧ (viewOf (Reg.AON_SEC_LO / 4 * 4)).1 = Reg.AON_SEC_LO ∧ (runs 1 1).readable Reg.AON_SEC_LO = true ∧
    holdIx .monitor = some 3 ∧ holdIx .firmware = none := by
  unfold hosted dramming State.canonical; decide
set_option maxRecDepth 8192 in
theorem test_witness_exchange : ((oneMessage 0 0 65).wrN (Reg.SXQ_PORT_CHAIN 1) (2 ^ 30)).mode = 0 ∧ reservedCls (qCls 65) = false ∧
    reservedCls (qCls ((oneMessage 0 0 65).outMsg 65).peer) = false ∧ ((oneMessage 0 0 65).outMsg 65).bodyLen ≤ (oneMessage 0 0 65).slotBytes 65 - 16 ∧
    (oneTile.setBit Reg.SXQ_CTL 0 true).takesResponse oneOutstanding = true ∧ (oneTile.setBit Reg.SXQ_CTL 0 false).takesResponse oneOutstanding = false ∧
    (oneTile.setBit Reg.SXQ_CTL 0 true).sender = true ∧ (oneTile.routeTo 6) = none ∧
    ((oneTile.wrN (Reg.Q_CTL 324) (2 ^ 31)).setBit Reg.SXQ_CTL 0 true).queueOn 324 = true ∧ 0 < ((oneTile.wrN (Reg.Q_CTL 324) (2 ^ 31))).inFree 324 ∧
    (runs 0 0).queueOn 324 = false := by decide
set_option maxRecDepth 8192 in
theorem test_witness_commit_messages : (runs 1 1).rollHears 0 = true ∧ (runs 0 0).rollHears 2 = true ∧ (runs 1 1).epochOk (reachMsg 1 1 0 []) = true ∧
    heldTile.mode = 1 ∧ heldTile.holderIdx = some 9 ∧ heldTile.glb.commit = none ∧ (leAt (zeros 8) 4 4).testBit 16 = false ∧ heldTile.frameValid = false := by decide
set_option maxRecDepth 8192 in
theorem test_witness_pass_roll : (runs 1 1).active ((runs 1 1).otherThrough 0) = false ∧ activeTile.active (activeTile.otherThrough 0) = true ∧
    activeTile.rollHears 0 = true ∧ activeTile.mode ≠ 0 ∧ activeTile.canonical := by unfold State.canonical; decide
/-- The frame that the packet of slot 2 completes fits its configuration, where its rate does. -/
theorem test_witness_marker : streaming.formatDiffers 2 { onePixel 1 0 with depth := none } = false ∧ streaming.formatDiffers 2 { onePixel 1 0 with rate := none } = true := by
  set_option maxRecDepth 8192 in decide
set_option maxRecDepth 8192 in
theorem test_witness_training_points : (dramming 1).opsOn.contains (0 : Fin 4).val = true ∧ (dramming 1).opsOn.contains (3 : Fin 4).val = false ∧ ((dramming 1).dmcOn && (dramming 1).dmcState == 1) = true := by
  unfold dramming; decide
theorem test_boundary_cells : boundaryCells.length = 2054 := by decide +kernel
theorem test_boundary_order : boundaryCells[0]? = some ⟨"ROLE", 0, 0, .input⟩ ∧ boundaryCells[44 + 5 * 15 + 4]? = some ⟨"ADAT", 15, 0, .control⟩ ∧
    boundaryCells[252 + 63]? = some ⟨"FRTN", 0, 63, .input⟩ ∧ boundaryCells[1136]? = some ⟨"DDR_RESET_N", 0, 0, .data⟩ ∧
    boundaryCells[1138 + 82 * 9]? = some ⟨"DQ", 19, 0, .input⟩ ∧ boundaryCells[2054]? = none := by decide +kernel

end Sys2Proof.Tests
end

section
/-!
PROOFS. What a start written to GLB_SNAP_CTL does (R57).
-/

namespace Sys2Proof.Machine

/-! ### A bit or a field apart from the bit written -/

/-- A bit other than the one written is as it was. -/
theorem State.bit_setBit_ne {s : State} (o : Nat) {i j : Nat} (b : Bool) (h : s.canonical) (hj : j < 32) (hne : j ≠ i) :
    (s.setBit o i b).bit o j = s.bit o j :=
  State.bit_setFld_disjoint o _ h (by omega) hj (by omega)

/-- A field that does not hold the bit written is as it was. -/
theorem State.fld_setBit_disjoint {s : State} (o : Nat) {i hi lo : Nat} (b : Bool) (h : s.canonical) (h2 : hi < 32)
    (hd : hi < i ∨ i < lo) : (s.setBit o i b).fld o hi lo = s.fld o hi lo :=
  State.fld_setFld_disjoint o _ h (by omega) h2 hd

/-! ### A W1C bit -/

/-- R66: the state after a write of a register whose W1C bit `i` is written with `c`. -/
def State.clearedBy (s : State) (o i : Nat) (c : Bool) : State := if c then s.setBit o i false else s

section
variable {s : State} (o : Nat) {i : Nat} (c : Bool)

theorem State.clearedBy_glb : (s.clearedBy o i c).glb = s.glb := by
  cases c <;> rfl

theorem State.clearedBy_kept {p m : Nat → Prop} {t : State} (ho : p o) (h : s.Kept p m t) : s.Kept p m (t.clearedBy o i c) :=
  .ite (.setBit _ _ _ ho h) h

variable (hc : s.canonical)

include hc

theorem State.canonical_clearedBy : (s.clearedBy o i c).canonical := by
  cases c
  · exact hc
  · exact State.canonical_setBit _ _ _ hc

theorem State.bit_clearedBy_ne {j : Nat} (hj : j < 32) (hne : j ≠ i) : (s.clearedBy o i c).bit o j = s.bit o j := by
  cases c
  · rfl
  · exact State.bit_setBit_ne o false hc hj hne

theorem State.fld_clearedBy_disjoint {hi lo : Nat} (h2 : hi < 32) (hd : hi < i ∨ i < lo) :
    (s.clearedBy o i c).fld o hi lo = s.fld o hi lo := by
  cases c
  · rfl
  · exact State.fld_setBit_disjoint o false hc h2 hd

end

/-! ### The two parts of a write of GLB_SNAP_CTL -/

/-- R66: the state after the W1C bits bad_entry (30) and collide (29) of a write. -/
def State.snapCleared (s : State) (v : Word) : State :=
  (s.clearedBy Reg.GLB_SNAP_CTL 30 (v.toNat.testBit 30)).clearedBy Reg.GLB_SNAP_CTL 29 (v.toNat.testBit 29)

/-- R54, R66: the state with the count and at_tick of a write. -/
def State.snapLoaded (s : State) (v : Word) : State :=
  (s.setFld Reg.GLB_SNAP_CTL 6 0 v.toNat).setBit Reg.GLB_SNAP_CTL 16 (v.toNat.testBit 16)

section
variable {s : State} (v : Word) (hc : s.canonical)

theorem State.snapLoaded_glb : (s.snapLoaded v).glb = s.glb := rfl

theorem State.snapCleared_glb : (s.snapCleared v).glb = s.glb :=
  (State.clearedBy_glb _ _).trans (State.clearedBy_glb _ _)

include hc

/-- The W1C bits of a write reach no register but GLB_SNAP_CTL and no store. -/
theorem State.snapCleared_kept : s.Kept (fun o => o = Reg.GLB_SNAP_CTL) (fun _ => False) (s.snapCleared v) :=
  State.clearedBy_kept _ _ rfl (State.clearedBy_kept _ _ rfl (.refl hc))

theorem State.snapLoaded_kept : s.Kept (fun o => o = Reg.GLB_SNAP_CTL) (fun _ => False) (s.snapLoaded v) :=
  .setBit _ _ _ rfl (.setFld _ _ _ _ rfl (.refl hc))

theorem State.snapCleared_bit {j : Nat} (hj : j < 32) (h29 : j ≠ 29) (h30 : j ≠ 30) :
    (s.snapCleared v).bit Reg.GLB_SNAP_CTL j = s.bit Reg.GLB_SNAP_CTL j :=
  (State.bit_clearedBy_ne _ _ (State.canonical_clearedBy _ _ hc) hj h29).trans (State.bit_clearedBy_ne _ _ hc hj h30)

theorem State.snapCleared_busy : (s.snapCleared v).snapBusy = s.bit Reg.GLB_SNAP_CTL 31 :=
  State.snapCleared_bit v hc (by omega) (by omega) (by omega)

theorem State.snapCleared_count : (s.snapCleared v).fld Reg.GLB_SNAP_CTL 6 0 = s.fld Reg.GLB_SNAP_CTL 6 0 :=
  (State.fld_clearedBy_disjoint _ _ (State.canonical_clearedBy _ _ hc) (by omega) (by omega)).trans
    (State.fld_clearedBy_disjoint _ _ hc (by omega) (by omega))

theorem State.snapLoaded_busy : (s.snapLoaded v).bit Reg.GLB_SNAP_CTL 31 = s.bit Reg.GLB_SNAP_CTL 31 := by
  unfold State.snapLoaded
  rw [State.bit_setBit_ne _ _ (State.canonical_setFld _ _ _ _ hc) (by omega) (by omega),
    State.bit_setFld_disjoint _ _ hc (by omega) (by omega) (by omega)]

theorem State.snapLoaded_atTick : (s.snapLoaded v).bit Reg.GLB_SNAP_CTL 16 = v.toNat.testBit 16 :=
  State.bit_setBit_same _ _ _ (State.canonical_setFld _ _ _ _ hc) (by omega)

theorem State.snapLoaded_count : (s.snapLoaded v).fld Reg.GLB_SNAP_CTL 6 0 = bits v.toNat 6 0 := by
  unfold State.snapLoaded
  rw [State.fld_setBit_disjoint _ _ (State.canonical_setFld _ _ _ _ hc) (by omega) (by omega),
    State.fld_setFld_same _ _ hc (by omega) (by omega)]
  simp [bits]

end

/-! ### A start: what the write does in each case of R57 -/

section
variable {s : State} {v : Word} (hstart : v.toNat.testBit 8 = true)

include hstart

/-- R57: a start while a capture runs. -/
theorem State.snapCtlWrite_of_busy (hbusy : (s.snapCleared v).snapBusy = true) :
    s.snapCtlWrite v = (s.snapCleared v).setBit Reg.GLB_SNAP_CTL 29 true :=
  (if_pos hbusy).trans (if_pos (by rw [hstart, Bool.true_or]))

/-- R57: a start with a count that no capture has. -/
theorem State.snapCtlWrite_of_badCount (hidle : ¬ (s.snapCleared v).snapBusy = true)
    (hn : bits v.toNat 6 0 = 0 ∨ 64 < bits v.toNat 6 0) :
    s.snapCtlWrite v = ((s.snapCleared v).snapLoaded v).setBit Reg.GLB_SNAP_CTL 30 true :=
  (if_neg hidle).trans ((if_neg (by simp [hstart])).trans (if_pos hn))

/-- R54, R57: a start that is taken. -/
theorem State.snapCtlWrite_of_count (hidle : ¬ (s.snapCleared v).snapBusy = true)
    (hn : ¬ (bits v.toNat 6 0 = 0 ∨ 64 < bits v.toNat 6 0)) :
    s.snapCtlWrite v =
      (((s.snapCleared v).snapLoaded v).setBit Reg.GLB_SNAP_CTL 31 true).modGlb (fun g => { g with snapArmed := true }) :=
  (if_neg hidle).trans ((if_neg (by simp [hstart])).trans (if_neg hn))

end

/-- A write of GLB_SNAP_CTL changes no other register and no store. -/
theorem State.snapCtlWrite_kept {s : State} (v : Word) (hc : s.canonical) :
    s.Kept (fun o => o = Reg.GLB_SNAP_CTL) (fun _ => False) (s.snapCtlWrite v) := by
  have hclr := State.snapCleared_kept v hc
  have hload := hclr.trans (State.snapLoaded_kept v hclr.canonical)
  exact .ite (.ite (.setBit _ _ _ rfl hclr) hclr)
    (.ite hload (.ite (.setBit _ _ _ rfl hload) (.modGlb _ (.setBit _ _ _ rfl hload))))

theorem exec_snapStart (v : Word) (s : State) : exec (.snapStart v) s = gate s.live (fun s => s.snapCtlWrite v) s := rfl

/-- Settles O19, by the three cases of a start: ignored while a capture runs, a bad count, taken. -/
theorem snapStart : Obligations.SnapStart := by
  unfold Obligations.SnapStart
  intro v s hc hlive hstart
  have hcc := (State.snapCleared_kept v hc).canonical
  have hcl := (State.snapLoaded_kept v hcc).canonical
  have hbusy := State.snapCleared_busy v hc
  have hkept := State.snapCtlWrite_kept v hc
  refine ⟨s.snapCtlWrite v, (exec_snapStart v s).trans (gate_of_true _ _ hlive), hkept.regs, hkept.stores, ?_, ?_, ?_⟩
  · intro h31
    rw [State.snapCtlWrite_of_busy hstart (hbusy.trans h31)]
    refine ⟨State.bit_setBit_same _ _ _ hcc (by omega), ?_, ?_, ?_, State.snapCleared_glb v⟩
    · rw [State.bit_setBit_ne _ _ hcc (by omega) (by omega), ← State.snapBusy, hbusy, h31]
    · rw [State.fld_setBit_disjoint _ _ hcc (by omega) (by omega), State.snapCleared_count v hc]
    · rw [State.bit_setBit_ne _ _ hcc (by omega) (by omega), State.snapCleared_bit v hc (by omega) (by omega) (by omega)]
  · intro h31 hn
    rw [State.snapCtlWrite_of_badCount hstart (by simp [hbusy, h31]) hn]
    refine ⟨State.bit_setBit_same _ _ _ hcl (by omega), ?_, State.snapCleared_glb v⟩
    rw [State.bit_setBit_ne _ _ hcl (by omega) (by omega), State.snapLoaded_busy v hcc, ← State.snapBusy, hbusy, h31]
  · intro h31 hpos hle
    rw [State.snapCtlWrite_of_count hstart (by simp [hbusy, h31]) (by omega)]
    refine ⟨?_, ?_, ?_, ?_⟩
    · rw [State.modGlb_bit, State.bit_setBit_same _ _ _ hcl (by omega)]
    · rw [State.modGlb_fld, State.fld_setBit_disjoint _ _ hcl (by omega) (by omega), State.snapLoaded_count v hcc]
    · rw [State.modGlb_bit, State.bit_setBit_ne _ _ hcl (by omega) (by omega), State.snapLoaded_atTick v hcc]
    · rw [State.modGlb_glb, State.setBit_glb, State.snapLoaded_glb, State.snapCleared_glb]

end Sys2Proof.Machine
end

section
/-!
PROOFS. When the seconds count of AON is valid: what a lost VBAT and a load leave in AON_SEC_HI.valid (R81, R82).
-/

namespace Sys2Proof.Machine

/-! ### Registers kept, and the subsecond count set -/

/-- A read after some registers are back at their reset values. -/
theorem State.rd_keepRegs {s : State} (q : Nat → Bool) (o : Nat) (h : s.canonical) :
    (s.keepRegs q).rd o = if q o then s.rd o else resetReg o :=
  sGet_filter q o h.2.2.1

theorem State.Kept.keepRegs {p m : Nat → Prop} {s t : State} (q : Nat → Bool) (hq : ∀ o, ¬ p o → q o = true)
    (h : s.Kept p m t) : s.Kept p m (t.keepRegs q) :=
  ⟨State.canonical_keepRegs q h.canonical,
    fun o ho => (State.rd_keepRegs q o h.canonical).trans ((if_pos (hq o ho)).trans (h.regs o ho)), h.bytes, h.flash, h.act⟩

theorem State.Kept.aonSet {p m : Nat → Prop} {s t : State} (v : Nat) (ho : p Reg.AON_SUBSEC) (h : s.Kept p m t) :
    s.Kept p m (t.aonSet v) :=
  .modGlb _ (.wrN _ _ ho h)

theorem State.canonical_aonSet {s : State} (v : Nat) (h : s.canonical) : (s.aonSet v).canonical :=
  State.canonical_wrN _ _ h

theorem State.rd_aonSet_ne (s : State) (v : Nat) {o : Nat} (h : o ≠ Reg.AON_SUBSEC) : (s.aonSet v).rd o = s.rd o :=
  State.rd_wrN_ne _ _ h

theorem State.bit_aonSet_ne (s : State) (v i : Nat) {o : Nat} (h : o ≠ Reg.AON_SUBSEC) :
    (s.aonSet v).bit o i = s.bit o i :=
  State.bit_of_rd_eq (s.rd_aonSet_ne v h) i

/-- A bit of a register just written with a number is that bit of the number. -/
theorem State.bit_wrN_same {s : State} (o v : Nat) {i : Nat} (h : s.canonical) (hi : i < 32) :
    (s.wrN o v).bit o i = v.testBit i := by
  rw [State.bit, State.toNat_wrN_same o v h, Nat.testBit_mod_two_pow, decide_eq_true hi, Bool.true_and]

/-! ### The loss of VBAT -/

/-- R82: the state whose AON registers read as zero again. -/
def State.aonErased (s : State) : State :=
  (s.free.2.keepRegs (fun o => decide (o / 0x10000 ≠ 1))).modGlb (fun g => { g with aonLatch := none, aonTemps := 0x80008000 })

/-- R82: the state after the loss of VBAT. -/
def State.vbatLost (s : State) : State :=
  ((s.aonErased.free.2.wrN Reg.AON_SEC_LO s.free.1).wrN Reg.AON_SEC_HI (s.free.1 / 2 ^ 32 % 2 ^ 16)).aonSet
    (s.aonErased.free.1 % 2 ^ 15)

theorem exec_vbatLost (s : State) : exec .vbatLost s = .next s.vbatLost := rfl

theorem State.vbatLost_live (s : State) : s.vbatLost.live = s.live := rfl

section
variable {s : State} (hc : s.canonical)
include hc

theorem State.aonErased_kept : s.Kept (fun o => o / 0x10000 = 1) (fun _ => False) s.aonErased :=
  .modGlb _ (.keepRegs _ (fun _ ho => decide_eq_true ho) (.free (.refl hc)))

theorem State.vbatLost_kept : s.Kept (fun o => o / 0x10000 = 1) (fun _ => False) s.vbatLost :=
  .aonSet _ rfl (.wrN _ _ rfl (.wrN _ _ rfl (.free (State.aonErased_kept hc))))

/-- The free seconds count that follows a lost VBAT has 48 bits, so that bit 31 of its high word, valid, is zero. -/
theorem State.vbatLost_invalid : s.vbatLost.bit Reg.AON_SEC_HI 31 = false := by
  have hlo : (s.aonErased.free.2.wrN Reg.AON_SEC_LO s.free.1).canonical :=
    State.canonical_wrN _ _ (State.canonical_free (State.aonErased_kept hc).canonical)
  unfold State.vbatLost
  rw [State.bit_aonSet_ne _ _ _ (by decide), State.bit_wrN_same _ _ hlo (by decide), Nat.testBit_mod_two_pow,
    decide_eq_false (by decide), Bool.false_and]

end

/-! ### A load: asked for, and taken at the rollover -/

/-- R81: the state with the seconds count at the values of AON_SEC_SET and valid, and no load pending. -/
def State.secondsLoaded (s : State) : State :=
  ((s.wr Reg.AON_SEC_LO (s.rd Reg.AON_SEC_SET_LO)).wrN Reg.AON_SEC_HI (2 ^ 31 + s.fld Reg.AON_SEC_SET_HI 15 0)).wr Reg.AON_SEC_CTL 0

/-- R81, R657: a rollover that finds a load pending takes it, and on a device out of reset raises the event. -/
theorem exec_aonSecondRollover_of_load {s : State} (h : s.bit Reg.AON_SEC_CTL 0 = true) :
    exec .aonSecondRollover s = .next ((s.aonSet 0).secondsLoaded.when (s.aonSet 0).secondsLoaded.live
      (fun s => s.raise Ev.secondsLoaded noInst 0 [])) :=
  if_pos ((s.bit_aonSet_ne 0 0 (by decide)).trans h)

theorem exec_aonSecLoadRequest (s : State) :
    exec .aonSecLoadRequest s = gate s.live (fun s => s.setBit Reg.AON_SEC_CTL 0 true) s := rfl

section
variable {s : State} (hc : s.canonical)
include hc

theorem State.secondsLoaded_valid : s.secondsLoaded.bit Reg.AON_SEC_HI 31 = true := by
  have hfield : s.fld Reg.AON_SEC_SET_HI 15 0 < 2 ^ 16 := Nat.mod_lt _ (Nat.two_pow_pos 16)
  have hbelow : s.fld Reg.AON_SEC_SET_HI 15 0 < 2 ^ 31 := Nat.lt_trans hfield (by decide)
  unfold State.secondsLoaded
  rw [State.bit_of_rd_eq (State.rd_wr_ne _ 0 (by decide)), State.bit_wrN_same _ _ (State.canonical_wr _ _ hc) (by decide),
    Nat.testBit_two_pow_add_eq, Nat.testBit_lt_two_pow hbelow, Bool.not_false]

/-- R81, R82: a rollover that finds a load pending sets valid, whether or not the device is held. -/
theorem aonSecondRollover_validates (h : s.bit Reg.AON_SEC_CTL 0 = true) :
    ∃ t, exec .aonSecondRollover s = .next t ∧ t.bit Reg.AON_SEC_HI 31 = true := by
  refine ⟨_, exec_aonSecondRollover_of_load h, ?_⟩
  have hv := State.secondsLoaded_valid (State.canonical_aonSet 0 hc)
  unfold State.when
  split
  · exact (State.bit_of_rd_eq (State.raise_rd _ _ _ _ _ (by decide) (by decide)) 31).trans hv
  · exact hv

end

/-- Settles O57: the loss of VBAT leaves a count without valid; the request of a load touches AON_SEC_CTL alone, and the rollover
that finds it pending sets valid. -/
theorem secondsValid : Obligations.SecondsValid := by
  unfold Obligations.SecondsValid
  intro s hc
  have hkept := State.vbatLost_kept hc
  have hinvalid := State.vbatLost_invalid hc
  refine ⟨⟨s.vbatLost, exec_vbatLost s, hinvalid, hkept.stores, hkept.regs, fun hlive => ?_⟩, aonSecondRollover_validates hc⟩
  have hasked := State.canonical_setBit Reg.AON_SEC_CTL 0 true hkept.canonical
  have hpending := State.bit_setBit_same Reg.AON_SEC_CTL 0 true hkept.canonical (by decide)
  obtain ⟨v, hroll, hvalid⟩ := aonSecondRollover_validates hasked hpending
  exact ⟨_, v, (exec_aonSecLoadRequest _).trans (gate_of_true _ _ (s.vbatLost_live.trans hlive)),
    (State.bit_of_rd_eq (State.rd_setBit_ne _ 0 true (by decide)) 31).trans hinvalid, hroll, hvalid⟩

end Sys2Proof.Machine
end

section
/-!
PROOFS. The instructions of the test access port (R681 to R686, R690), and the order of the boundary register (R684).
-/

namespace Sys2Proof.Machine

/-! ### What an instruction of the TAP shows -/

theorem State.Kept.tapLoad {p m : Nat → Prop} {s t : State} (code : Nat) (what : String) (ho : p Reg.DBG_TAP_STATUS)
    (h : s.Kept p m t) : s.Kept p m (t.tapLoad code what) :=
  .emit _ (.setFld _ _ _ _ ho h)

theorem State.Kept.tapTake {p m : Nat → Prop} {s t : State} (code : Nat) (what : String) (ho : p Reg.DBG_TAP_STATUS)
    (he : ∀ o, evtWindow o → p o) (h : s.Kept p m t) : s.Kept p m (t.tapTake code what) :=
  .tapLoad _ _ ho (.setBit _ _ _ ho (.raise _ _ _ _ (by decide) he h))

@[simp] theorem State.tapLoad_out (s : State) (code : Nat) (what : String) : (s.tapLoad code what).out = s.out ++ [.scan what] := rfl
@[simp] theorem State.tapLoad_mon (s : State) (code : Nat) (what : String) : (s.tapLoad code what).mon = s.mon := rfl

@[simp] theorem State.boundaryDrive_mon (s : State) (how : String) : (s.boundaryDrive how).mon = s.mon := rfl

@[simp] theorem State.tapTake_mon (s : State) (code : Nat) (what : String) : (s.tapTake code what).mon = s.mon :=
  State.raise_mon _ _ _ _ _

section
variable {s : State} (hc : s.canonical)
include hc

theorem State.tapLoad_tapIr {code : Nat} (what : String) (h : code < 256) : (s.tapLoad code what).tapIr = code :=
  (State.fld_setFld_same _ _ hc (by omega) (by omega)).trans (Nat.mod_eq_of_lt h)

/-- R686: the instruction shown lies below the test_mode bit. -/
theorem State.tapLoad_testMode (code : Nat) (what : String) : (s.tapLoad code what).testMode = s.testMode :=
  State.bit_setFld_disjoint _ _ hc (by omega) (by omega) (by omega)

/-- R682, R690: an instruction that leaves the pins to who has them is shown, and nothing else changes. -/
theorem State.tapLoad_shows {code : Nat} (what : String) (h : code < 256) :
    (s.tapLoad code what).tapIr = code ∧ (s.tapLoad code what).testMode = s.testMode ∧ (s.tapLoad code what).mon = s.mon ∧
      s.sameStores (s.tapLoad code what) ∧ s.sameRegs (s.tapLoad code what) (fun o => o = Reg.DBG_TAP_STATUS) := by
  have hkept : s.Kept (fun o => o = Reg.DBG_TAP_STATUS) (fun _ => False) (s.tapLoad code what) := .tapLoad _ _ rfl (.refl hc)
  exact ⟨State.tapLoad_tapIr hc what h, State.tapLoad_testMode hc code what, rfl, hkept.stores, hkept.regs⟩

/-- R685, R686, R690: an instruction that takes the pins raises its event, sets test_mode and is shown. -/
theorem State.tapTake_takes {code : Nat} (what : String) (h : code < 256) :
    s.tapTakes code [.scan what] (s.tapTake code what) := by
  have hraised := State.canonical_raise Ev.tapTest noInst 0 [(1, code)] hc
  have hset := State.canonical_setBit Reg.DBG_TAP_STATUS 31 true hraised
  have hkept : s.Kept (fun o => evtWindow o ∨ o = Reg.DBG_TAP_STATUS) (fun _ => False) (s.tapTake code what) :=
    .tapTake _ _ (.inr rfl) (fun _ => .inl) (.refl hc)
  obtain ⟨l, hl⟩ := State.raiseAt_out s Ev.tapTest noInst (s.stamp 0) [(1, code)]
  refine ⟨⟨l, congrArg (· ++ [Output.scan what]) hl⟩, State.tapLoad_tapIr hset what h, ?_, ?_, hkept.stores, hkept.regs⟩
  · exact (State.tapLoad_testMode hset code what).trans (State.bit_setBit_same _ _ _ hraised (by omega))
  · have hshown : (s.tapTake code what).rd (Reg.EVT_PEND (Ev.tapTest / 32)) =
        (s.raise Ev.tapTest noInst 0 [(1, code)]).rd (Reg.EVT_PEND (Ev.tapTest / 32)) :=
      (State.rd_setFld_ne _ 7 0 code (by decide)).trans (State.rd_setBit_ne _ 31 true (by decide))
    exact (State.bit_of_rd_eq hshown _).trans (State.raise_pend _ _ _ _ hc (by decide))

end

/-- What the test logic puts out next, the pins being taken. -/
theorem State.tapTakes.emit {s t : State} {code : Nat} {outs : List Output} (o : Output) (h : s.tapTakes code outs t) :
    s.tapTakes code (outs ++ [o]) (t.emit o) := by
  obtain ⟨⟨l, hl⟩, hshown⟩ := h
  exact ⟨⟨l, (congrArg (· ++ [o]) hl).trans (List.append_assoc _ _ _)⟩, hshown⟩

theorem State.tapTakes.boundaryScan {s t : State} {code : Nat} {outs : List Output} (captured tdi : BoundaryCells)
    (h : s.tapTakes code outs t) : s.tapTakes code (outs ++ [.tdo 2054 captured.toNat]) (t.boundaryScan captured tdi) :=
  h.emit (.tdo 2054 captured.toNat)

theorem State.tapTakes.boundaryDrive {s t : State} {code : Nat} {outs : List Output} (how : String)
    (h : s.tapTakes code outs t) : s.tapTakes code (outs ++ [.boundary how t.mon.update]) (t.boundaryDrive how) :=
  h.emit (.boundary how t.mon.update)

/-- R684, R686: a test instruction scans the boundary register, and the pins carry what was preloaded, then what is shifted in. -/
theorem State.tapTest_takes {s : State} {code : Nat} (what how : String) (captured tdi : BoundaryCells) (hc : s.canonical)
    (h : code < 256) : s.boundaryScanned tdi (s.tapTest code what how captured tdi) ∧
      s.tapTakes code [.scan what, .boundary how s.mon.update, .tdo 2054 captured.toNat, .boundary how tdi]
        (s.tapTest code what how captured tdi) := by
  unfold State.boundaryScanned
  rw [← s.tapTake_mon code what]
  exact ⟨rfl, (((State.tapTake_takes hc what h).boundaryDrive how).boundaryScan captured tdi).boundaryDrive how⟩

/-! ### The order of the boundary register -/

/-- A list made of `n` runs of `c` elements. -/
theorem length_flatMap_range {α : Type} {f : Nat → List α} {c : Nat} (n : Nat) (hf : ∀ j, (f j).length = c) :
    ((List.range n).flatMap f).length = n * c := by
  induction n with
  | zero => rw [Nat.zero_mul]; rfl
  | succ n ih => rw [List.range_succ, List.flatMap_append, List.flatMap_singleton, List.length_append, ih, hf, Nat.succ_mul]

/-- A list made of runs of `c` elements holds element `i` of run `k` at place `c * k + i`. -/
theorem getElem?_flatMap_range {α : Type} {f : Nat → List α} {c n k i : Nat} (hf : ∀ j, (f j).length = c) (hk : k < n) (hi : i < c) :
    ((List.range n).flatMap f)[c * k + i]? = (f k)[i]? := by
  induction n with
  | zero => omega
  | succ n ih =>
    have hlen : ((List.range n).flatMap f).length = c * n := (length_flatMap_range n hf).trans (Nat.mul_comm n c)
    rw [List.range_succ, List.flatMap_append, List.flatMap_singleton]
    by_cases hkn : k < n
    · have hin : c * k + i < c * n := by
        calc c * k + i < c * (k + 1) := by rw [Nat.mul_succ]; omega
          _ ≤ c * n := Nat.mul_le_mul_left c hkn
      rw [List.getElem?_append_left (by omega), ih hkn]
    · obtain rfl : k = n := by omega
      rw [List.getElem?_append_right (by omega), hlen, Nat.add_sub_cancel_left]

theorem length_pinRow {f : String → Nat → Nat → List BCell} {c : Nat} (pin : String) (unit n : Nat)
    (hf : ∀ i, (f pin unit i).length = c) : (pinRow f pin unit n).length = n * c :=
  length_flatMap_range n hf

@[simp] theorem length_pinRow_inCells (pin : String) (unit n : Nat) : (pinRow inCells pin unit n).length = n * 1 :=
  length_pinRow _ _ _ (fun _ => rfl)
@[simp] theorem length_pinRow_outCells (pin : String) (unit n : Nat) : (pinRow outCells pin unit n).length = n * 2 :=
  length_pinRow _ _ _ (fun _ => rfl)
@[simp] theorem length_pinRow_bothCells (pin : String) (unit n : Nat) : (pinRow bothCells pin unit n).length = n * 3 :=
  length_pinRow _ _ _ (fun _ => rfl)

theorem frontCells_length : frontCells.length = 44 := rfl
theorem audioCells_length : audioCells.length = 80 := rfl
theorem furrowCells_length : furrowCells.length = 192 := by simp [furrowCells]
theorem channelCells_length (c : Nat) : (channelCells c).length = 82 := by simp [channelCells, outCells]
/-- The ten channels of a DRAM group. -/
theorem length_channels (g : Nat) : ((List.range 10).flatMap (fun k => channelCells (10 * g + k))).length = 820 :=
  length_flatMap_range 10 (fun _ => channelCells_length _)
theorem dramCells_length (g : Nat) : (dramCells g).length = 822 := by
  rw [dramCells, List.length_append, length_channels]
  rfl
theorem acCells_length : acCells.length = 94 := rfl

/-- The cells of a group stand from the place at which the groups before it end. -/
theorem boundaryCells_at {before group after : List BCell} {n i : Nat} (h : boundaryCells = before ++ (group ++ after))
    (hn : before.length = n) (hi : i < group.length) : boundaryCells[n + i]? = group[i]? := by
  rw [h, List.getElem?_append_right (by omega), hn, Nat.add_sub_cancel_left, List.getElem?_append_left hi]

section
variable {i : Nat}

theorem boundaryCells_audio (hi : i < 80) : boundaryCells[44 + i]? = audioCells[i]? :=
  boundaryCells_at (before := frontCells) (after := furrowCells ++ (dramCells 0 ++ (dramCells 1 ++ acCells)))
    (by simp only [boundaryCells, List.append_assoc]) rfl hi

theorem boundaryCells_furrow (hi : i < 192) : boundaryCells[124 + i]? = furrowCells[i]? :=
  boundaryCells_at (before := frontCells ++ audioCells) (after := dramCells 0 ++ (dramCells 1 ++ acCells))
    (by simp only [boundaryCells, List.append_assoc]) rfl (by rw [furrowCells_length]; exact hi)

theorem boundaryCells_dram0 (hi : i < 822) : boundaryCells[316 + i]? = (dramCells 0)[i]? :=
  boundaryCells_at (before := frontCells ++ audioCells ++ furrowCells) (after := dramCells 1 ++ acCells)
    (by simp only [boundaryCells, List.append_assoc]) (by simp [frontCells_length, audioCells_length, furrowCells_length])
    (by rw [dramCells_length]; exact hi)

theorem boundaryCells_dram1 (hi : i < 822) : boundaryCells[1138 + i]? = (dramCells 1)[i]? :=
  boundaryCells_at (before := frontCells ++ audioCells ++ furrowCells ++ dramCells 0) (after := acCells)
    (by simp only [boundaryCells, List.append_assoc])
    (by simp [frontCells_length, audioCells_length, furrowCells_length, dramCells_length]) (by rw [dramCells_length]; exact hi)

theorem boundaryCells_ac (hi : i < 94) : boundaryCells[1960 + i]? = acCells[i]? :=
  boundaryCells_at (before := frontCells ++ audioCells ++ furrowCells ++ dramCells 0 ++ dramCells 1) (after := [])
    (by simp only [boundaryCells, List.append_assoc, List.append_nil])
    (by simp [frontCells_length, audioCells_length, furrowCells_length, dramCells_length]) hi

end

theorem boundaryCells_length : boundaryCells.length = 2054 := by
  simp [boundaryCells, frontCells_length, audioCells_length, furrowCells_length, dramCells_length, acCells_length]

section
variable {j k : Nat}

theorem audioCells_port (hk : k < 16) (hj : j < 5) :
    audioCells[5 * k + j]? = (inCells "ABCK" k 0 ++ inCells "AFS" k 0 ++ bothCells "ADAT" k 0)[j]? :=
  getElem?_flatMap_range (fun _ => rfl) hk hj

theorem furrowCells_out (hk : k < 64) (hj : j < 2) : furrowCells[2 * k + j]? = (outCells "FOUT" 0 k)[j]? :=
  (List.getElem?_append_left (by rw [length_pinRow_outCells]; omega)).trans (getElem?_flatMap_range (fun _ => rfl) hk hj)

theorem furrowCells_return (hk : k < 64) : furrowCells[128 + k]? = some ⟨"FRTN", 0, k, .input⟩ := by
  have hrow := getElem?_flatMap_range (f := inCells "FRTN" 0) (i := 0) (fun _ => rfl) hk Nat.one_pos
  rw [Nat.one_mul] at hrow
  unfold furrowCells
  rw [List.getElem?_append_right (by rw [length_pinRow_outCells]; omega), length_pinRow_outCells, Nat.add_sub_cancel_left]
  exact hrow

theorem dramCells_channel (g : Nat) (hk : k < 10) (hj : j < 82) : (dramCells g)[82 * k + j]? = (channelCells (10 * g + k))[j]? :=
  (List.getElem?_append_left (by rw [length_channels]; omega)).trans
    (getElem?_flatMap_range (fun _ => channelCells_length _) hk hj)

theorem dramCells_reset (g : Nat) : (dramCells g)[820]? = some ⟨"DDR_RESET_N", g, 0, .data⟩ := by
  unfold dramCells
  rw [List.getElem?_append_right (Nat.le_of_eq (length_channels g)), length_channels]
  rfl

end

/-- R684: the names of the AC-coupled pairs. -/
abbrev acPins : List String :=
  ["SLAUF_TX", "SLAUF_RX", "PCIE_TX", "PCIE_RX", "PCIE_REFCLK", "ETH_TX", "ETH_RX", "SDI_RX", "SDI_TX", "MGE_TX", "MGE_RX"]

theorem acCells_pin : ∀ c ∈ acCells, c.pin ∈ acPins := by decide

theorem boundaryCells_first : boundaryCells[0]? = some ⟨"ROLE", 0, 0, .input⟩ := rfl

theorem boundaryCells_audioPort {p : Nat} (hp : p < 16) : boundaryCells[44 + 5 * p]? = some ⟨"ABCK", p, 0, .input⟩ ∧
    boundaryCells[44 + 5 * p + 4]? = some ⟨"ADAT", p, 0, .control⟩ :=
  ⟨(boundaryCells_audio (by omega)).trans (audioCells_port (j := 0) hp (by omega)),
    (boundaryCells_audio (i := 5 * p + 4) (by omega)).trans (audioCells_port hp (by omega))⟩

theorem boundaryCells_furrowLane {l : Nat} (hl : l < 64) : boundaryCells[124 + 2 * l]? = some ⟨"FOUT", 0, l, .data⟩ ∧
    boundaryCells[252 + l]? = some ⟨"FRTN", 0, l, .input⟩ := by
  refine ⟨(boundaryCells_furrow (by omega)).trans (furrowCells_out (j := 0) hl (by omega)), ?_⟩
  rw [show 252 + l = 124 + (128 + l) by omega]
  exact (boundaryCells_furrow (by omega)).trans (furrowCells_return hl)

theorem boundaryCells_dramChannel {k : Nat} (hk : k < 10) : boundaryCells[316 + 82 * k]? = some ⟨"DQ", k, 0, .input⟩ ∧
    boundaryCells[1138 + 82 * k]? = some ⟨"DQ", 10 + k, 0, .input⟩ := by
  have hcell := (boundaryCells_dram0 (by omega)).trans (dramCells_channel (j := 0) 0 hk (by omega))
  rw [Nat.mul_zero, Nat.zero_add] at hcell
  exact ⟨hcell, (boundaryCells_dram1 (by omega)).trans (dramCells_channel (j := 0) 1 hk (by omega))⟩

theorem boundaryCells_dramReset : boundaryCells[1136]? = some ⟨"DDR_RESET_N", 0, 0, .data⟩ ∧
    boundaryCells[1958]? = some ⟨"DDR_RESET_N", 1, 0, .data⟩ :=
  ⟨(boundaryCells_dram0 (i := 820) (by omega)).trans (dramCells_reset 0),
    (boundaryCells_dram1 (i := 820) (by omega)).trans (dramCells_reset 1)⟩

theorem boundaryCells_acPair {i : Nat} (hlo : 1960 ≤ i) (hhi : i < 2054) : ∃ c, boundaryCells[i]? = some c ∧ c.pin ∈ acPins := by
  obtain ⟨j, rfl⟩ := Nat.exists_eq_add_of_le hlo
  have hj : j < acCells.length := by rw [acCells_length]; omega
  exact ⟨acCells[j], (boundaryCells_ac (by omega)).trans (List.getElem?_eq_getElem hj), acCells_pin _ (List.getElem_mem hj)⟩

/-! ### The commands -/

section
variable (captured tdi : BoundaryCells) (s : State)

theorem exec_tapReset : exec .tapReset s = gate s.live (fun s => s.tapLoad 0x01 "RESET") s := rfl
theorem exec_tapIdcode : exec .tapIdcode s = gate s.live (fun s => (s.tapLoad 0x01 "IDENTIFICATION").emit (.tdo 32 idcode)) s := rfl
theorem exec_tapSamplePreload : exec (.tapSamplePreload captured tdi) s =
    gate s.live (fun s => (s.tapLoad 0x02 "BOUNDARY").boundaryScan captured tdi) s := rfl
theorem exec_tapExtest : exec (.tapExtest captured tdi) s =
    gate s.live (fun s => s.tapTest 0x03 "BOUNDARY DRIVEN" "LEVEL" captured tdi) s := rfl
theorem exec_tapClamp : exec .tapClamp s = gate s.live (fun s => (s.tapTake 0x04 "BYPASS HELD").boundaryDrive "LEVEL") s := rfl
theorem exec_tapHighz : exec .tapHighz s = gate s.live (fun s => s.tapTake 0x05 "BYPASS FLOATING") s := rfl
theorem exec_tapExtestPulse : exec (.tapExtestPulse captured tdi) s =
    gate s.live (fun s => s.tapTest 0x06 "BOUNDARY PULSE" "PULSE" captured tdi) s := rfl
theorem exec_tapExtestTrain : exec (.tapExtestTrain captured tdi) s =
    gate s.live (fun s => s.tapTest 0x07 "BOUNDARY TRAIN" "TRAIN" captured tdi) s := rfl
theorem exec_tapBypass (code : BitVec 8) : exec (.tapBypass code) s =
    gate (s.live && !(decide (1 ≤ code.toNat) && decide (code.toNat ≤ 7)))
      (fun s => s.tapLoad code.toNat (if s.actsAsBypass code.toNat then "BYPASS" else "FACTORY")) s := rfl

end

/-- R682: the name under which a code that no other instruction has is shown. -/
theorem State.bypassName (s : State) {code : Nat} (h : code = 0 ∨ 7 < code) : (if s.actsAsBypass code then "BYPASS" else "FACTORY") =
    if s.role = 3 ∧ 0x80 ≤ code ∧ code ≤ 0xFE then "FACTORY" else "BYPASS" := by
  by_cases hf : s.role = 3 ∧ 0x80 ≤ code ∧ code ≤ 0xFE
  · rw [if_pos hf, if_neg (by simp [State.actsAsBypass, hf])]
  · rw [if_neg hf, if_pos (by simp [State.actsAsBypass]; omega)]

/-- Settles O60, instruction by instruction; R683's fields are computed, and the cells of R684 are found in the runs of their groups. -/
theorem tapInstructions : Obligations.TapInstructions := by
  unfold Obligations.TapInstructions
  refine ⟨fun captured tdi s hheld => ?held, fun s hc hlive => ?idcode, fun captured tdi s hc hlive => ?scans,
    fun code s hc => ⟨fun h => ?bypassNot, fun hlive hcode => ?bypass⟩, boundaryCells_length, boundaryCells_first,
    fun _ => boundaryCells_audioPort, fun _ => boundaryCells_furrowLane, fun _ => boundaryCells_dramChannel, boundaryCells_dramReset.1, boundaryCells_dramReset.2,
    fun _ => boundaryCells_acPair⟩
  case held =>
    simp only [exec_tapReset, exec_tapIdcode, exec_tapSamplePreload, exec_tapExtest, exec_tapClamp, exec_tapHighz,
      exec_tapExtestPulse, exec_tapExtestTrain, gate_of_false _ s hheld, and_self]
  case idcode =>
    exact ⟨_, idcode, (exec_tapIdcode s).trans (gate_of_true _ _ hlive), List.append_assoc _ _ _, rfl, by decide, by decide, by decide,
      by decide, State.tapLoad_shows hc "IDENTIFICATION" (by decide)⟩
  case scans =>
    obtain ⟨hir, hmode, -, hstores, hregs⟩ := State.tapLoad_shows (code := 0x02) hc "BOUNDARY" (by decide)
    have hclamp := (State.tapTake_takes (code := 0x04) hc "BYPASS HELD" (by decide)).boundaryDrive "LEVEL"
    rw [State.tapTake_mon] at hclamp
    exact ⟨⟨_, (exec_tapReset s).trans (gate_of_true _ _ hlive), rfl, State.tapLoad_shows hc "RESET" (by decide)⟩,
      ⟨_, (exec_tapSamplePreload captured tdi s).trans (gate_of_true _ _ hlive), List.append_assoc _ _ _, hir, hmode, rfl, hstores, hregs⟩,
      ⟨_, (exec_tapExtest captured tdi s).trans (gate_of_true _ _ hlive), State.tapTest_takes _ _ _ _ hc (by decide)⟩,
      ⟨_, (exec_tapClamp s).trans (gate_of_true _ _ hlive), (State.boundaryDrive_mon _ _).trans (s.tapTake_mon _ _), hclamp⟩,
      ⟨_, (exec_tapHighz s).trans (gate_of_true _ _ hlive), s.tapTake_mon _ _, State.tapTake_takes hc _ (by decide)⟩,
      ⟨_, (exec_tapExtestPulse captured tdi s).trans (gate_of_true _ _ hlive), State.tapTest_takes _ _ _ _ hc (by decide)⟩,
      ⟨_, (exec_tapExtestTrain captured tdi s).trans (gate_of_true _ _ hlive), State.tapTest_takes _ _ _ _ hc (by decide)⟩⟩
  case bypassNot =>
    refine (exec_tapBypass s code).trans (gate_of_false _ _ ?_)
    rcases h with hheld | ⟨h1, h7⟩
    · simp [hheld]
    · simp [h1, h7]
  case bypass =>
    have hother : (s.live && !(decide (1 ≤ code.toNat) && decide (code.toNat ≤ 7))) = true := by
      simp [hlive]; omega
    exact ⟨_, (exec_tapBypass s code).trans (gate_of_true _ _ hother),
      congrArg (fun what => s.out ++ [Output.scan what]) (s.bypassName hcode), State.tapLoad_shows hc _ code.isLt⟩

end Sys2Proof.Machine
end

section
/-!
PROOFS. The management Ethernet port (R671 to R674, R687, R689): its link and its answers, and what becomes of a request datagram.
-/

namespace Sys2Proof.Machine

/-! ### Counters, fields and bytes -/

theorem State.toNat_rd_inc {s : State} (o : Nat) (hc : s.canonical) :
    ((s.inc o).rd o).toNat = min 0xFFFFFFFF ((s.rd o).toNat + 1) :=
  (State.toNat_wrN_same o _ hc).trans (Nat.mod_eq_of_lt (by omega))

/-- A field of a register just written with a number is that field of the number. -/
theorem State.fld_wrN_same {s : State} (o v : Nat) {hi lo : Nat} (hc : s.canonical) (h : hi < 32) :
    (s.wrN o v).fld o hi lo = bits v hi lo := by
  rw [State.fld, State.toNat_wrN_same o v hc, bits_mod_two_pow _ h]

theorem length_slice (b : List Byte) (i n : Nat) : (slice b i n).length = n := by
  simp only [slice, zeros, List.length_append, List.length_replicate, List.length_take, List.length_drop]
  omega

/-! ### What an occurrence puts on the wires -/

theorem State.route_out (s : State) (cfg : Word) (src : Nat) (b : Bool) :
    (s.route cfg src b).out = s.out ∨ (s.route cfg src b).out = s.out ++ [.coreIrq src] := by
  unfold State.route
  by_cases h : bits cfg.toNat 29 28 / 2 = 1
  · right; simp only [h, if_true]; split <;> rfl
  · left; simp only [h, if_false]; split <;> rfl

/-- R616: an occurrence puts out an interrupt of the control cores, if anything. -/
theorem State.raise_out (s : State) (src inst : Nat) (tb : TbIx) (vals : List (Nat × Nat)) :
    (s.raise src inst tb vals).out = s.out ∨ (s.raise src inst tb vals).out = s.out ++ [.coreIrq src] := by
  unfold State.raise State.raiseAt
  dsimp only
  split
  · exact State.route_out _ _ _ _
  · split
    · exact State.route_out _ _ _ _
    · exact State.route_out _ _ _ _

/-! ### Reads and writes of device memory -/

/-- What an access reaches depends on the state of the DMC, the role and the population alone. -/
theorem State.memOk_congr {s t : State} (a : Nat) (hstatus : t.rd Reg.DMC_STATUS = s.rd Reg.DMC_STATUS)
    (hident : t.rd Reg.GLB_IDENT = s.rd Reg.GLB_IDENT) (hdmc : t.dmc = s.dmc) : t.memOk a = s.memOk a := by
  have hstate : t.dmcState = s.dmcState := State.fld_of_rd_eq hstatus 31 29
  have hrole : t.role = s.role := State.fld_of_rd_eq hident 5 4
  unfold State.memOk State.dramUp State.dramCap State.groups
  rw [hstate, hrole, hdmc]

section
variable (s : State) {o : Nat} (hstatus : Reg.DMC_STATUS ≠ o) (hident : Reg.GLB_IDENT ≠ o)
include hstatus hident

theorem State.memOk_inc (n a : Nat) : (s.inc o n).memOk a = s.memOk a :=
  State.memOk_congr a (s.rd_inc_ne n hstatus) (s.rd_inc_ne n hident) rfl

theorem State.rdMem_inc (n a k : Nat) : (s.inc o n).rdMem a k = s.rdMem a k := by
  simp only [State.rdMem, State.memByte, s.memOk_inc hstatus hident]
  rfl

end

section
variable {p m : Nat → Prop} {s t : State} (hzero : p Reg.MEC_ZERO_READS) (herr : p Reg.DMC_ADDR_ERR) (hevt : ∀ o, evtWindow o → p o)
include hzero herr hevt

theorem State.Kept.memReadPiece (req a n : Nat) (h : s.Kept p m t) : s.Kept p m (t.memReadPiece req a n).1 := by
  unfold State.memReadPiece
  dsimp only
  split
  · exact .inc _ _ hzero h
  · split
    · exact .addrError _ _ herr hevt h
    · exact h

/-- R526, R565: a read of device memory writes its books alone. -/
theorem State.Kept.memRead (req a n : Nat) (h : s.Kept p m t) : s.Kept p m (t.memRead req a n).1 := by
  unfold State.memRead
  split
  · refine List.foldlRecOn (motive := fun x : State × List Byte × Bool => s.Kept p m x.1) _ _ h ?_
    exact fun x hx piece _ => .memReadPiece hzero herr hevt _ _ _ hx
  · exact h

end

theorem State.memRead_of_granary {s : State} {a : Nat} (req n : Nat) (h : a < dramBase) :
    s.memRead req a n = (s, s.rdMem a n, false) :=
  if_neg (by omega)

/-- A write whose first and last bytes reach memory is read back. -/
theorem State.byte_wrMem_same {s : State} (req a : Nat) (b : List Byte) {i : Nat} (hc : s.canonical) (hfirst : s.memOk a = true)
    (hlast : s.memOk (a + b.length - 1) = true) (hi : i < b.length) : (s.wrMem req a b).byte (a + i) = b.getD i 0 := by
  have hfilled : ∀ l : List Nat, (l.foldl (fun (s : State) i => s.fillGranule (granuleOf a + i)) s).canonical := fun l =>
    (State.Kept.foldl (p := fun _ => True) (m := fun _ => False) (fun _ _ hu => .fillGranule _ trivial trivial hu) l (.refl hc)).canonical
  have hreach : (s.memOk a && s.memOk (a + b.length - 1)) = true := by rw [hfirst, hlast]; rfl
  unfold State.wrMem
  dsimp only
  rw [if_neg (by omega), if_pos hreach, List.getD_eq_getElem?_getD, List.getElem?_eq_getElem hi, Option.getD_some]
  split
  · exact State.byte_wrRaw_same a b i hi (State.canonical_modMec _ (hfilled _))
  · exact State.byte_wrRaw_same a b i hi hc

/-! ### A message leaves toward a device -/

theorem State.enqueue_frame (s : State) (p : Port) (h : Sheaf) (b : Option Port) : ∃ k, s.enqueue p h b = { s with slk := k } := by
  unfold State.enqueue
  split
  · exact ⟨s.slk, rfl⟩
  · exact ⟨_, rfl⟩

theorem State.foldl_enqueue_frame (s : State) (p : Port) (hs : List Sheaf) :
    ∃ k, hs.foldl (fun s h => s.enqueue p h none) s = { s with slk := k } := by
  induction hs generalizing s with
  | nil => exact ⟨s.slk, rfl⟩
  | cons h hs ih =>
    obtain ⟨k, hk⟩ := s.enqueue_frame p h none
    obtain ⟨k', hk'⟩ := ih { s with slk := k }
    exact ⟨k', by rw [List.foldl_cons, hk, hk']⟩

/-- Two roll calls hold the same table: what R182 asks of it. -/
def PortRoll.sameTable (r r' : PortRoll) : Prop := r'.entries = r.entries ∧ r'.running = r.running ∧ r'.epoch = r.epoch

/-- The state with other queues of its ports, and other roll calls. -/
def State.withQueues (s : State) (k : Vector SlkPort 4) (r : Vector PortRoll 4) : State :=
  { s with slk := k, sxq := { s.sxq with roll := r } }

/-- R200: a message that leaves changes the ports' queues, or what a running roll call holds back. -/
theorem State.sendOn_frame (s : State) (p : Port) (dst cls cmdId code : Nat) (body : List Byte) :
    ∃ k r, s.sendOn p dst cls cmdId code body = s.withQueues k r ∧
      ∀ q : Port, s.sxq.roll[q].sameTable r[q] := by
  unfold State.sendOn
  dsimp only
  split
  · refine ⟨s.slk, _, rfl, fun q => ?_⟩
    by_cases hq : q = p
    · subst hq; simp [PortRoll.sameTable]
    · have hne : ¬ p.val = q.val := fun e => hq (Fin.ext e.symm)
      simp [PortRoll.sameTable, hne]
  · obtain ⟨k, hk⟩ := s.foldl_enqueue_frame p (messageSheaves (classVc cls) ((if cls = 0x3F then s.selfIdx else dst) * 64 + cls)
      (s.selfIdx * 64 + cls) cmdId (s.epochFor p) code (!(s.mode == 0 || (cls == 5 && (leAt body 0 1 == 1 || leAt body 0 1 == 3)))) body)
    exact ⟨k, s.sxq.roll, hk, fun q => ⟨rfl, rfl, rfl⟩⟩

/-- R182: the route to a device depends on the tables, the kinds of the ports and the current epochs alone. -/
theorem State.routeTo_congr {s t : State} (d : Nat) (hchain : ∀ q : Port, t.rd (Reg.SXQ_PORT_CHAIN q.val) = s.rd (Reg.SXQ_PORT_CHAIN q.val))
    (hstate : ∀ q : Port, t.rd (Reg.SXQ_PORT_STATE q.val) = s.rd (Reg.SXQ_PORT_STATE q.val))
    (htable : ∀ q : Port, s.sxq.roll[q].sameTable t.sxq.roll[q]) : t.routeTo d = s.routeTo d := by
  have hport : ∀ q : Port, t.portHas q d = s.portHas q d := fun q => by
    obtain ⟨hentries, hrunning, hepoch⟩ := htable q
    have hkind : t.kind q = s.kind q := State.fld_of_rd_eq (hchain q) 31 30
    have hcurrent : t.tableCurrent q = s.tableCurrent q := by
      unfold State.tableCurrent
      rw [hrunning, hepoch, State.fld_of_rd_eq (hstate q)]
    unfold State.portHas
    rw [hkind, hcurrent, hentries]
  simp only [State.routeTo, hport]

theorem State.sendTo_of_route {s : State} {dst cls : Nat} {p : Port} (cmdId code : Nat) (body : List Byte) (hcls : cls ≠ 0x3F)
    (h : s.routeTo dst = some p) : s.sendTo dst cls cmdId code body = (s.sendOn p dst cls cmdId code body, true) := by
  simp [State.sendTo, hcls, h]

theorem State.sendTo_of_noRoute {s : State} {dst cls : Nat} (cmdId code : Nat) (body : List Byte) (hcls : cls ≠ 0x3F)
    (h : s.routeTo dst = none) : s.sendTo dst cls cmdId code body = (s.inc Reg.SXQ_NOROUTE, false) := by
  simp [State.sendTo, hcls, h]

/-! ### The link, and ARP and echo requests -/

/-- R687, R689: MGE_STATUS and the event of a change of the link. -/
def State.mgeLinked (s : State) (up : Bool) (speed : BitVec 2) : State :=
  if up then
    (s.wrN Reg.MGE_STATUS (2 ^ 31 + speed.toNat * 2 ^ 29 + b2n (s.bit Reg.MGE_CTL 3) * 2 ^ 28)).raise Ev.mgeLinkUp noInst 0
      [(1, speed.toNat)]
  else (s.wrN Reg.MGE_STATUS 0).raise Ev.mgeLinkDown noInst 0 []

theorem exec_mgeLinkChange (up : Bool) (speed : BitVec 2) (s : State) :
    exec (.mgeLinkChange up speed) s = gate (s.hasMge && up != s.bit Reg.MGE_STATUS 31) (fun s => s.mgeLinked up speed) s := rfl

/-- An occurrence leaves MGE_STATUS, which lies outside the window of EVT. -/
theorem State.raise_rd_mgeStatus (s : State) (src inst : Nat) (tb : TbIx) (vals : List (Nat × Nat)) (hs : src < 512) :
    (s.raise src inst tb vals).rd Reg.MGE_STATUS = s.rd Reg.MGE_STATUS :=
  State.raise_rd _ _ _ _ _ hs (by decide)

section
variable {s : State} (speed : BitVec 2) (hc : s.canonical)
include hc

theorem State.mgeLinked_kept (up : Bool) :
    s.Kept (fun o => evtWindow o ∨ o = Reg.MGE_STATUS) (fun _ => False) (s.mgeLinked up speed) :=
  .ite (.raise _ _ _ _ (by decide) (fun _ => .inl) (.wrN _ _ (.inr rfl) (.refl hc)))
    (.raise _ _ _ _ (by decide) (fun _ => .inl) (.wrN _ _ (.inr rfl) (.refl hc)))

/-- R689: a link that is up is shown with its speed. -/
theorem State.mgeLinked_up : (s.mgeLinked true speed).bit Reg.MGE_STATUS 31 = true ∧
    (s.mgeLinked true speed).fld Reg.MGE_STATUS 30 29 = speed.toNat ∧ (s.mgeLinked true speed).pends Ev.mgeLinkUp := by
  have hspeed := speed.isLt
  have hhalf : b2n (s.bit Reg.MGE_CTL 3) < 2 := by cases s.bit Reg.MGE_CTL 3 <;> decide
  have hshown := State.raise_rd_mgeStatus
    (s.wrN Reg.MGE_STATUS (2 ^ 31 + speed.toNat * 2 ^ 29 + b2n (s.bit Reg.MGE_CTL 3) * 2 ^ 28)) Ev.mgeLinkUp noInst 0 [(1, speed.toNat)]
    (by decide)
  refine ⟨(State.bit_of_rd_eq hshown 31).trans ?_, (State.fld_of_rd_eq hshown 30 29).trans ?_,
    State.raise_pend _ _ _ _ (State.canonical_wrN _ _ hc) (by decide)⟩
  · rw [State.bit_wrN_same _ _ hc (by decide), Nat.add_assoc, Nat.testBit_two_pow_add_eq, Nat.testBit_lt_two_pow (by omega), Bool.not_false]
  · rw [State.fld_wrN_same _ _ hc (by decide)]
    unfold bits
    omega

theorem State.mgeLinked_down :
    (s.mgeLinked false speed).bit Reg.MGE_STATUS 31 = false ∧ (s.mgeLinked false speed).pends Ev.mgeLinkDown := by
  have hshown := State.raise_rd_mgeStatus (s.wrN Reg.MGE_STATUS 0) Ev.mgeLinkDown noInst 0 [] (by decide)
  refine ⟨(State.bit_of_rd_eq hshown 31).trans ?_, State.raise_pend _ _ _ _ (State.canonical_wrN _ _ hc) (by decide)⟩
  rw [State.bit_wrN_same _ _ hc (by decide), Nat.zero_testBit]

end

theorem State.mgeLinked_mge (s : State) (up : Bool) (speed : BitVec 2) : (s.mgeLinked up speed).mge = s.mge := by
  cases up
  · exact State.raise_mge _ _ _ _ _
  · exact State.raise_mge _ _ _ _ _

theorem exec_mgeArpOrEchoRequest (echo : Bool) (src target : Nat) (b : List Byte) (s : State) :
    exec (.mgeArpOrEchoRequest echo src target b) s = gate (s.mgeUp && target == (s.rd Reg.MGE_IPV4).toNat)
      (fun s => if echo then s.emit (.udp "echo reply" src 0 b) else s.emit (.udp "arp reply" src 0
        (beBytes 6 ((s.rd Reg.MGE_MAC_LO).toNat + 2 ^ 32 * s.fld Reg.MGE_MAC_HI 15 0) ++ beBytes 4 target))) s := rfl

/-! ### Responses -/

/-- The newest entry of a kind `p` comes first, before the last 63 of its kind but those that `q` gives up. -/
theorem filter_kept {α : Type} {p q : α → Bool} {a : α} (l : List α) (ha : p a = true) :
    (a :: (l.filter (fun x => p x && q x)).take 63 ++ l.filter (fun x => !p x)).filter p = a :: ((l.filter p).filter q).take 63 := by
  have hmine : l.filter (fun x => p x && q x) = (l.filter p).filter q := by
    rw [List.filter_filter]; simp only [Bool.and_comm]
  have hold : (((l.filter p).filter q).take 63).filter p = ((l.filter p).filter q).take 63 :=
    List.filter_eq_self.mpr fun x hx => (List.mem_filter.mp (List.mem_filter.mp (List.mem_of_mem_take hx)).1).2
  have hrest : (l.filter (fun x => !p x)).filter p = [] := by simp [List.filter_filter]
  rw [hmine, List.cons_append, List.filter_cons_of_pos ha, List.filter_append, hold, hrest, List.append_nil]

/-- Entries of another kind stay. -/
theorem filter_not_kept {α : Type} {p q : α → Bool} {a : α} (l : List α) (ha : p a = true) :
    (a :: (l.filter (fun x => p x && q x)).take 63 ++ l.filter (fun x => !p x)).filter (fun x => !p x) = l.filter (fun x => !p x) := by
  have hold : ((l.filter (fun x => p x && q x)).take 63).filter (fun x => !p x) = [] :=
    List.filter_eq_nil_iff.mpr fun x hx => by
      have hpq := (List.mem_filter.mp (List.mem_of_mem_take hx)).2
      rw [(Bool.and_eq_true_iff.mp hpq).1]
      decide
  rw [List.cons_append, List.filter_cons_of_neg (by simp [ha]), List.filter_append, hold, List.nil_append, List.filter_filter]
  simp only [Bool.and_self]

/-- R672, R674: a response is sent and kept. -/
theorem State.mgeReply_replied (s : State) (ip port seq cmdId : Nat) (body : List Byte) :
    s.replied (s.mgeReply ip port seq cmdId body) ip port seq cmdId body := by
  exact ⟨beBytes 2 0x4357 ++ leBytes 2 seq ++ leBytes 1 2 ++ leBytes 3 s.free.1 ++ leBytes 4 cmdId ++ body, rfl, rfl, rfl, rfl, rfl, rfl,
    filter_kept _ (by simp), filter_not_kept _ (by simp), rfl, rfl, fun _ => rfl, rfl, rfl⟩

/-- A response sent from a state with its free value taken is sent from the state. -/
theorem State.replied.of_free {s t : State} {ip port seq cmdId : Nat} {body : List Byte}
    (h : s.free.2.replied t ip port seq cmdId body) : s.replied t ip port seq cmdId body := h

/-- R673: the answer of a remote request that waits. -/
theorem State.answerPath_of_waiting {s : State} {o : Outstanding} {w : MgeRemote} (code : Nat) (body : List Byte)
    (hvia : o.via = some .mge) (h : s.mge.waiting.find? (fun w => w.dst == o.dst && w.cmdId == o.cmdId) = some w) :
    s.answerPath o code body = (s.modMge (fun g => { g with waiting := s.mge.waiting.erase w })).mgeReply w.ip w.port w.seq w.cmdId
      (if body.isEmpty then reachResponse w.req code [] else body) := by
  simp only [State.answerPath, hvia, h]

/-! ### Discards -/

section
variable {s : State} {ip port : Nat} {b : List Byte}

theorem State.datagram_of_bad (h : datagramBad b = true) : s.datagram ip port b = s.inc Reg.MGE_RX_BAD := if_pos h

variable (hbad : datagramBad b = false)
include hbad

theorem State.datagram_of_notAllowed (h : s.notAllowed ip = true) : s.datagram ip port b = s.mgeDeny ip := by
  simp [State.datagram, hbad, h]

variable (hallow : s.notAllowed ip = false)
include hallow

theorem State.datagram_of_kept {k : MgeReply}
    (h : s.mge.kept.find? (fun r => r.ip == ip && r.port == port && r.seq == dgSeq b) = some k) :
    s.datagram ip port b = (s.inc Reg.MGE_REPLAY).emit (.udp "response" ip port k.body) := by
  simp [State.datagram, hbad, hallow, h]

theorem State.datagram_of_new (h : s.mge.kept.find? (fun r => r.ip == ip && r.port == port && r.seq == dgSeq b) = none) :
    s.datagram ip port b =
      if dgRemote b then (s.inc Reg.MGE_RX_REQ).mgeRemote ip port b else (s.inc Reg.MGE_RX_REQ).mgeLocal ip port b := by
  simp [State.datagram, hbad, hallow, h]

end

section
variable {s : State} (ip : Nat)

theorem State.mgeDeny_of_denied (h : s.mge.denied = true) : s.mgeDeny ip = s.inc Reg.MGE_RX_DENY := if_pos h

theorem State.mgeDeny_of_first (h : s.mge.denied = false) : s.mgeDeny ip =
    ((s.inc Reg.MGE_RX_DENY).modMge (fun g => { g with denied := true })).raise Ev.mgeDenied noInst 0 [(4, ip)] :=
  if_neg (by simp [h])

variable (hc : s.canonical)
include hc

theorem State.mgeDeny_kept : s.Kept (fun o => evtWindow o ∨ o = Reg.MGE_RX_DENY) (fun _ => False) (s.mgeDeny ip) := by
  have hcounted : s.Kept (fun o => evtWindow o ∨ o = Reg.MGE_RX_DENY) (fun _ => False) (s.inc Reg.MGE_RX_DENY) :=
    .inc _ _ (.inr rfl) (.refl hc)
  exact .ite hcounted (.raise _ _ _ _ (by decide) (fun _ => .inl) (.modMge _ hcounted))

/-- R673, R687: a discard by the allow list is counted, and raises its event once a frame interval. -/
theorem State.mgeDeny_does : ((s.mgeDeny ip).rd Reg.MGE_RX_DENY).toNat = min 0xFFFFFFFF ((s.rd Reg.MGE_RX_DENY).toNat + 1) ∧
    (s.mgeDeny ip).mge = { s.mge with denied := true } ∧ (s.mge.denied = false → (s.mgeDeny ip).pends Ev.mgeDenied) ∧
    ∀ k i p r, Output.udp k i p r ∈ (s.mgeDeny ip).out → Output.udp k i p r ∈ s.out := by
  have hcount := State.toNat_rd_inc Reg.MGE_RX_DENY hc
  cases hden : s.mge.denied
  case true =>
    rw [State.mgeDeny_of_denied ip hden]
    exact ⟨hcount, by rw [State.inc_mge, ← hden], fun h => absurd h (by decide), fun _ _ _ _ => id⟩
  case false =>
    rw [State.mgeDeny_of_first ip hden]
    refine ⟨?_, State.raise_mge _ _ _ _ _, fun _ => State.raise_pend _ _ _ _ (State.canonical_modMge _ (State.canonical_inc _ _ hc)) (by decide),
      fun k i p r hmem => ?_⟩
    · rw [State.raise_rd _ _ _ _ _ (by decide) (by decide)]
      exact hcount
    · rcases State.raise_out ((s.inc Reg.MGE_RX_DENY).modMge (fun g => { g with denied := true })) Ev.mgeDenied noInst 0 [(4, ip)] with h | h
      · rw [h] at hmem
        exact hmem
      · rw [h] at hmem
        simpa using hmem

end

/-! ### Requests on the sender itself -/

section
variable {s : State} {ip port : Nat} {b : List Byte}

theorem State.mgeLocal_of_reach (h8 : reachOp (dgBody b) ≠ 8) (h9 : reachOp (dgBody b) ≠ 9) :
    s.mgeLocal ip port b = (s.reachRun .mge (dgBody b) true).1.mgeReply ip port (dgSeq b) (dgCmd b) (s.reachRun .mge (dgBody b) true).2.2 := by
  simp [State.mgeLocal, h8, h9]

theorem State.mgeLocal_of_read (h8 : reachOp (dgBody b) = 8) :
    s.mgeLocal ip port b = (s.memOpRead (dgBody b)).1.mgeReply ip port (dgSeq b) (dgCmd b) (s.memOpRead (dgBody b)).2.2 := by
  simp [State.mgeLocal, h8]

theorem State.mgeLocal_of_write (h9 : reachOp (dgBody b) = 9) :
    s.mgeLocal ip port b = (s.memOpWrite (dgBody b)).1.mgeReply ip port (dgSeq b) (dgCmd b) (s.memOpWrite (dgBody b)).2.2 := by
  simp [State.mgeLocal, h9]

end

theorem State.memOpRead_of_malformed (s : State) {body : List Byte} (h : memOpMalformed body = true) :
    s.memOpRead body = (s, Code.REFUSED, reachResponse body Code.REFUSED []) := if_pos h

theorem State.memOpWrite_of_malformed (s : State) {body : List Byte} (h : memOpMalformed body = true) :
    s.memOpWrite body = (s, Code.REFUSED, reachResponse body Code.REFUSED []) := if_pos h

theorem State.memOpWrite_of_wellFormed (s : State) {body : List Byte} (h : memOpMalformed body = false) :
    s.memOpWrite body = (s.wrMem 0 (memOpAddr body) (slice body 12 (4 * reachCount body)), Code.OK, reachResponse body Code.OK []) :=
  if_neg (by simp [h])

/-- R665: a memory read completes with OK, or with FAULT where bytes are uncorrectable; the free value that decides is then taken. -/
theorem State.memOpRead_of_wellFormed (s : State) {body : List Byte} (h : memOpMalformed body = false) {v : State} {bs : List Byte}
    {bad : Bool} (hread : s.memRead 0 (memOpAddr body) (4 * reachCount body) = (v, bs, bad)) :
    ∃ code, s.memOpRead body = (if bad then v.free.2 else v, code, reachResponse body code (bytesWords (reachCount body) bs)) ∧
      (code = Code.OK ∨ (bad = true ∧ code = Code.FAULT)) := by
  refine ⟨if bad && v.free.1 % 2 == 1 then Code.FAULT else Code.OK, ?_, ?_⟩
  · simp [State.memOpRead, h, hread]
  · cases bad
    · exact .inl rfl
    · by_cases hodd : v.free.1 % 2 = 1
      · exact .inr ⟨rfl, by simp [hodd]⟩
      · exact .inl (by simp [hodd])

/-! ### Requests for another device -/

/-- R197, R673: what is outstanding for a remote request that has left on port `p`. -/
def State.mgeOutstanding (s : State) (b : List Byte) (p : Port) : Outstanding :=
  let q : QueueIx := BitVec.ofNat 16 (dgDevice b * 64)
  { q := q, slot := s.outHead q.toNat, cmdId := dgCmd b, dst := dgDevice b, cls := 0, port := p, queried := false, via := some .mge }

section
variable (s : State) (ip port : Nat) {b : List Byte}

/-- R673: a remote memory operation, and a remote request on a device that is no sender. -/
theorem State.mgeRemote_of_refused (h : isMemOp (dgBody b) = true ∨ s.mode ≠ 0) :
    s.mgeRemote ip port b = s.mgeReply ip port (dgSeq b) (dgCmd b) (reachResponse (dgBody b) Code.REFUSED []) :=
  if_pos (by simpa using h)

variable (hreach : isMemOp (dgBody b) = false) (hmode : s.mode = 0)
include hreach hmode

theorem State.mgeRemote_of_noRoute (h : s.routeTo (dgDevice b) = none) : s.mgeRemote ip port b =
    (s.inc Reg.SXQ_NOROUTE).mgeReply ip port (dgSeq b) (dgCmd b) (reachResponse (dgBody b) Code.REFUSED []) := by
  simp [State.mgeRemote, hreach, hmode, State.sendTo_of_noRoute _ _ _ _ h]

/-- R673: a remote request that has a route leaves, is outstanding for the port, and waits for its answer. -/
theorem State.mgeRemote_of_route {p : Port} (h : s.routeTo (dgDevice b) = some p) :
    ∃ k r, s.mgeRemote ip port b =
      ((s.withQueues k r).modSxq (fun g => { g with outstanding := s.sxq.outstanding ++ [s.mgeOutstanding b p] })).modMge (fun g => { g with
        waiting := s.mge.waiting ++ [⟨ip, port, dgSeq b, dgCmd b, dgDevice b, dgBody b⟩] }) := by
  obtain ⟨k, r, hsent, htable⟩ := s.sendOn_frame p (dgDevice b) 0 (dgCmd b) 0 (dgBody b)
  have hroute : (s.withQueues k r).routeTo (dgDevice b) = some p :=
    (State.routeTo_congr (s := s) (t := s.withQueues k r) _ (fun _ => rfl) (fun _ => rfl) htable).trans h
  refine ⟨k, r, (if_neg (by simp [hreach, hmode])).trans ?_⟩
  rw [State.sendTo_of_route _ _ _ (by decide) h, hsent]
  dsimp only
  rw [hroute]
  rfl

end

/-! ### A request that is new -/

/-- R689: the state after a new request has been counted. -/
abbrev State.mgeCounted (s : State) : State := s.inc Reg.MGE_RX_REQ

section
variable (s : State)

theorem State.mgeCounted_mode : s.mgeCounted.mode = s.mode := State.fld_of_rd_eq (s.rd_inc_ne 1 (by decide)) 31 30

theorem State.mgeCounted_routeTo (d : Nat) : s.mgeCounted.routeTo d = s.routeTo d :=
  State.routeTo_congr d (fun _ => s.rd_inc_ne 1 (by unfold Reg.SXQ_PORT_CHAIN Reg.MGE_RX_REQ; omega))
    (fun _ => s.rd_inc_ne 1 (by unfold Reg.SXQ_PORT_STATE Reg.MGE_RX_REQ; omega)) (fun _ => ⟨rfl, rfl, rfl⟩)

theorem State.mgeCounted_memOk (a : Nat) : s.mgeCounted.memOk a = s.memOk a := s.memOk_inc (by decide) (by decide) 1 a

theorem State.mgeCounted_rdMem (a n : Nat) : s.mgeCounted.rdMem a n = s.rdMem a n := s.rdMem_inc (by decide) (by decide) 1 a n

end

section
variable {s : State} (ip port : Nat) {b : List Byte}

/-- R672: a memory operation of the wrong form is refused. -/
theorem State.mgeLocal_of_malformed (hop : reachOp (dgBody b) = 8 ∨ reachOp (dgBody b) = 9) (h : memOpMalformed (dgBody b) = true) :
    s.mgeLocal ip port b = s.mgeReply ip port (dgSeq b) (dgCmd b) (reachResponse (dgBody b) Code.REFUSED []) := by
  rcases hop with h8 | h9
  · rw [State.mgeLocal_of_read h8, s.memOpRead_of_malformed h]
  · rw [State.mgeLocal_of_write h9, s.memOpWrite_of_malformed h]

variable (hc : s.canonical) (hform : memOpMalformed (dgBody b) = false)
include hc hform

/-- R665, R672: a memory read is answered with the bytes read and writes no register but the books of the read. -/
theorem State.mgeLocal_reads (h8 : reachOp (dgBody b) = 8) : ∃ v bs bad code,
    s.mgeCounted.memRead 0 (memOpAddr (dgBody b)) (4 * reachCount (dgBody b)) = (v, bs, bad) ∧
    (code = Code.OK ∨ (bad = true ∧ code = Code.FAULT)) ∧
    (memOpAddr (dgBody b) < dramBase → bs = s.rdMem (memOpAddr (dgBody b)) (4 * reachCount (dgBody b)) ∧ bad = false) ∧
    v.replied (s.mgeCounted.mgeLocal ip port b) ip port (dgSeq b) (dgCmd b)
      (reachResponse (dgBody b) code (bytesWords (reachCount (dgBody b)) bs)) ∧
    s.sameStores (s.mgeCounted.mgeLocal ip port b) ∧
    s.sameRegs (s.mgeCounted.mgeLocal ip port b) (fun o => readRegs o ∨ o = Reg.MGE_RX_REQ) := by
  have hkept : s.Kept (fun o => readRegs o ∨ o = Reg.MGE_RX_REQ) (fun _ => False)
      (s.mgeCounted.memRead 0 (memOpAddr (dgBody b)) (4 * reachCount (dgBody b))).1 :=
    .memRead (.inl (.inr (.inr rfl))) (.inl (.inr (.inl rfl))) (fun o ho => .inl (.inl ho)) _ _ _ (.inc _ _ (.inr rfl) (.refl hc))
  obtain ⟨⟨v, bs, bad⟩, hread⟩ : ∃ x, s.mgeCounted.memRead 0 (memOpAddr (dgBody b)) (4 * reachCount (dgBody b)) = x := ⟨_, rfl⟩
  rw [hread] at hkept
  obtain ⟨code, hrun, hcode⟩ := s.mgeCounted.memOpRead_of_wellFormed hform hread
  have hall := (State.Kept.ite (c := bad = true) hkept.free hkept).mgeReply ip port (dgSeq b) (dgCmd b)
    (reachResponse (dgBody b) code (bytesWords (reachCount (dgBody b)) bs))
  rw [State.mgeLocal_of_read h8, hrun]
  refine ⟨v, bs, bad, code, hread, hcode, fun hgranary => ?_, ?_, hall.stores, hall.regs⟩
  · rw [State.memRead_of_granary _ _ hgranary, State.mgeCounted_rdMem] at hread
    cases hread
    exact ⟨rfl, rfl⟩
  · cases bad
    · exact State.mgeReply_replied _ _ _ _ _ _
    · exact .of_free (State.mgeReply_replied _ _ _ _ _ _)

/-- R665, R672: a memory write lands where it reaches memory, and touches nothing else but the books of the write. -/
theorem State.mgeLocal_writes (h9 : reachOp (dgBody b) = 9) :
    (s.mgeCounted.wrMem 0 (memOpAddr (dgBody b)) (slice (dgBody b) 12 (4 * reachCount (dgBody b)))).replied (s.mgeCounted.mgeLocal ip port b)
      ip port (dgSeq b) (dgCmd b) (reachResponse (dgBody b) Code.OK []) ∧
    (s.memOk (memOpAddr (dgBody b)) = true → s.memOk (memOpAddr (dgBody b) + 4 * reachCount (dgBody b) - 1) = true →
      ∀ i, i < 4 * reachCount (dgBody b) → (s.mgeCounted.mgeLocal ip port b).byte (memOpAddr (dgBody b) + i) =
        (slice (dgBody b) 12 (4 * reachCount (dgBody b))).getD i 0) ∧
    s.Kept (fun o => memRegs o ∨ o = Reg.MGE_RX_REQ)
      (fun a => memOpAddr (dgBody b) ≤ a ∧ a < memOpAddr (dgBody b) + 4 * reachCount (dgBody b)) (s.mgeCounted.mgeLocal ip port b) := by
  have hlen := length_slice (dgBody b) 12 (4 * reachCount (dgBody b))
  rw [State.mgeLocal_of_write h9, s.mgeCounted.memOpWrite_of_wellFormed hform]
  have hwritten : s.Kept (fun o => memRegs o ∨ o = Reg.MGE_RX_REQ)
      (fun a => memOpAddr (dgBody b) ≤ a ∧ a < memOpAddr (dgBody b) + 4 * reachCount (dgBody b))
      (s.mgeCounted.wrMem 0 (memOpAddr (dgBody b)) (slice (dgBody b) 12 (4 * reachCount (dgBody b)))) :=
    .wrMem _ _ _ (.inl (.inr (.inl rfl))) (.inl (.inr (.inr (.inl rfl)))) (.inl (.inr (.inr (.inr rfl)))) (fun o ho => .inl (.inl ho))
      (fun x hlo hhi => ⟨hlo, by rwa [hlen] at hhi⟩) (.inc _ _ (.inr rfl) (.refl hc))
  refine ⟨State.mgeReply_replied _ _ _ _ _ _, fun hfirst hlast i hi => ?_, hwritten.mgeReply _ _ _ _ _⟩
  exact State.byte_wrMem_same 0 _ _ (State.canonical_inc _ _ hc) ((s.mgeCounted_memOk _).trans hfirst)
    ((s.mgeCounted_memOk _).trans (by rw [hlen]; exact hlast)) (by rw [hlen]; exact hi)

end

/-! ### Datagrams -/

/-- R671 to R674: what a datagram does, whichever command brings it. -/
theorem State.datagramDoes_of_exec {s : State} {c : Instr} {ip port dport : Nat} {b : List Byte} (hc : s.canonical)
    (hexec : exec c s = gate (s.mgeTakes dport) (fun s => s.datagram ip port b) s) : s.datagramDoes c ip port dport b := by
  have htaken : s.mgeTakes dport = true → exec c s = .next (s.datagram ip port b) := fun h => hexec.trans (gate_of_true _ _ h)
  unfold State.datagramDoes
  refine ⟨fun h => hexec.trans (gate_of_false _ _ h), fun htake hbad => ⟨_, htaken htake, ?bad⟩,
    fun htake hbad hdeny => ⟨_, htaken htake, ?deny⟩, fun htake hbad hallow => ⟨fun k hk => ⟨_, htaken htake, ?replay⟩, fun hnone => ?new⟩⟩
  case bad =>
    have hkept : s.Kept (fun o => o = Reg.MGE_RX_BAD) (fun _ => False) (s.inc Reg.MGE_RX_BAD) := .inc _ _ rfl (.refl hc)
    rw [State.datagram_of_bad hbad]
    exact ⟨State.toNat_rd_inc _ hc, rfl, rfl, hkept.stores, hkept.regs⟩
  case deny =>
    obtain ⟨hcount, hmge, hevent, hout⟩ := State.mgeDeny_does ip hc
    have hkept := State.mgeDeny_kept ip hc
    rw [State.datagram_of_notAllowed hbad hdeny]
    exact ⟨hcount, hmge, hevent, hout, hkept.stores, hkept.regs⟩
  case replay =>
    have hkept : s.Kept (fun o => o = Reg.MGE_REPLAY) (fun _ => False) (s.inc Reg.MGE_REPLAY) := .inc _ _ rfl (.refl hc)
    rw [State.datagram_of_kept hbad hallow hk]
    exact ⟨rfl, State.toNat_rd_inc Reg.MGE_REPLAY hc, rfl, hkept.stores, hkept.regs⟩
  case new =>
    have hnew := htaken htake
    rw [State.datagram_of_new hbad hallow hnone] at hnew
    rintro _ _ rfl rfl
    have hlocal : dgRemote b = false → exec c s = .next (s.mgeCounted.mgeLocal ip port b) := fun h => by rw [hnew, h]; rfl
    have hremote : dgRemote b = true → exec c s = .next (s.mgeCounted.mgeRemote ip port b) := fun h => by rw [hnew, h]; rfl
    refine ⟨fun h h8 h9 => ⟨_, hlocal h, ?reach⟩, fun h hop hform => ⟨_, hlocal h, ?malformed⟩, fun h h8 hform => ?read,
      fun h h9 hform => ⟨_, hlocal h, ?write⟩, fun h hrefuse => ⟨_, hremote h, ?refused⟩,
      fun h hreach hmode hroute => ⟨_, hremote h, ?noRoute⟩, fun p h hreach hmode hroute => ⟨_, hremote h, ?sent⟩⟩
    case reach =>
      rw [State.mgeLocal_of_reach h8 h9]
      exact State.mgeReply_replied _ _ _ _ _ _
    case malformed =>
      rw [State.mgeLocal_of_malformed ip port hop hform]
      exact State.mgeReply_replied _ _ _ _ _ _
    case read =>
      obtain ⟨v, bs, bad, code, hread⟩ := State.mgeLocal_reads ip port hc hform h8
      exact ⟨_, v, bs, bad, code, hlocal h, hread⟩
    case write =>
      obtain ⟨hreply, hbytes, hkept⟩ := State.mgeLocal_writes ip port hc hform h9
      exact ⟨hreply, hbytes, hkept.bytes, hkept.flash, hkept.act, hkept.regs⟩
    case refused =>
      rw [State.mgeRemote_of_refused _ ip port (hrefuse.imp_right (fun hm => s.mgeCounted_mode ▸ hm))]
      exact State.mgeReply_replied _ _ _ _ _ _
    case noRoute =>
      rw [State.mgeRemote_of_noRoute _ ip port hreach (s.mgeCounted_mode.trans hmode) ((s.mgeCounted_routeTo _).trans hroute)]
      exact State.mgeReply_replied _ _ _ _ _ _
    case sent =>
      obtain ⟨k, r, hsent⟩ :=
        State.mgeRemote_of_route _ ip port hreach (s.mgeCounted_mode.trans hmode) ((s.mgeCounted_routeTo _).trans hroute)
      rw [hsent]
      exact ⟨rfl, rfl, ⟨fun _ => rfl, rfl, rfl⟩, rfl, s.mgeCounted.mgeOutstanding b p, rfl, rfl, rfl, rfl, rfl, rfl⟩

section
variable (ip port dport : Nat) {b : List Byte} (s : State)

theorem exec_mgeRequest (h : dgRemote b = true ∨ isMemOp (dgBody b) = false) :
    exec (.mgeRequest ip port dport b) s = gate (s.mgeTakes dport) (fun s => s.datagram ip port b) s := by
  have hany : (s.mgeTakes dport && (dgRemote b || !isMemOp (dgBody b))) = s.mgeTakes dport := by
    rcases h with h | h <;> simp [h]
  exact congrArg (fun c => gate c (fun s => s.datagram ip port b) s) hany

variable (hremote : dgRemote b = false)
include hremote

theorem exec_mgeMemoryRead (h : reachOp (dgBody b) = 8) :
    exec (.mgeMemoryRead ip port dport b) s = gate (s.mgeTakes dport) (fun s => s.datagram ip port b) s := by
  have hread : (s.mgeTakes dport && !dgRemote b && reachOp (dgBody b) == 8) = s.mgeTakes dport := by simp [hremote, h]
  exact congrArg (fun c => gate c (fun s => s.datagram ip port b) s) hread

theorem exec_mgeMemoryWrite (h : reachOp (dgBody b) = 9) :
    exec (.mgeMemoryWrite ip port dport b) s = gate (s.mgeTakes dport) (fun s => s.datagram ip port b) s := by
  have hwrite : (s.mgeTakes dport && !dgRemote b && reachOp (dgBody b) == 9) = s.mgeTakes dport := by simp [hremote, h]
  exact congrArg (fun c => gate c (fun s => s.datagram ip port b) s) hwrite

end

/-- Settles O58: the link, the two answers, the three commands that bring a datagram, and the answer of a remote request. -/
theorem managementPort : Obligations.ManagementPort := by
  unfold Obligations.ManagementPort
  refine ⟨fun up speed s hc => ⟨fun h => (exec_mgeLinkChange up speed s).trans (gate_of_false _ _ h), fun h => ?link⟩,
    fun echo src target b s => ⟨fun h => (exec_mgeArpOrEchoRequest echo src target b s).trans (gate_of_false _ _ h), fun h => ?answer⟩,
    fun ip port dport b s hc => ⟨fun h => State.datagramDoes_of_exec hc (exec_mgeRequest ip port dport s h),
      fun hr h => State.datagramDoes_of_exec hc (exec_mgeMemoryRead ip port dport s hr h),
      fun hr h => State.datagramDoes_of_exec hc (exec_mgeMemoryWrite ip port dport s hr h)⟩,
    fun o code body w s hvia hw => ?remote⟩
  case link =>
    have hkept := State.mgeLinked_kept speed hc up
    refine ⟨_, (exec_mgeLinkChange up speed s).trans (gate_of_true _ _ h), ?_⟩
    cases up
    case true =>
      obtain ⟨hup, hspeed, hevent⟩ := State.mgeLinked_up speed hc
      exact ⟨hup, fun _ => ⟨hspeed, hevent⟩, fun h => absurd h (by decide), s.mgeLinked_mge true speed, hkept.stores, hkept.regs⟩
    case false =>
      obtain ⟨hdown, hevent⟩ := State.mgeLinked_down speed hc
      exact ⟨hdown, fun h => absurd h (by decide), fun _ => hevent, s.mgeLinked_mge false speed, hkept.stores, hkept.regs⟩
  case answer =>
    rw [exec_mgeArpOrEchoRequest, gate_of_true _ _ h]
    cases echo <;> rfl
  case remote =>
    have hbody : (if body.isEmpty then reachResponse w.req code [] else body) = if body = [] then reachResponse w.req code [] else body := by
      simp only [List.isEmpty_iff]
    rw [State.answerPath_of_waiting code body hvia hw, hbody]
    exact State.mgeReply_replied _ _ _ _ _ _

end Sys2Proof.Machine
end
